-- ==== Sys2Proof/Word.lean ====
section
/-!
DEFINITION. The words and the numbered things of the Icofel 3264 (spec 00, sections 3.1, 3.2 and 3.4).
-/

namespace Sys2Proof

/-- A 32-bit bus word (3.1). -/
abbrev Word := BitVec 32

/-- A level code: 16-bit two's complement in 1/16 dB (3.2). -/
abbrev Code := BitVec 16

/-- The four byte-enables of a write beat; bit b enables byte b (3.1). -/
abbrev Enables := BitVec 4

/-- Fader strips S0 to S31 (3.4). -/
abbrev StripId := Fin 32

/-- Mix channels C0 to C255 (3.4). -/
abbrev ChanId := Fin 256

/-- Strip groups G0 to G3 (3.4). -/
abbrev GroupId := Fin 4

/-- Meter channels M0 to M63 (3.4). -/
abbrev MeterId := Fin 64

/-- Layers L0 to L3 (3.4). -/
abbrev LayerId := Fin 4

/-- The group of a strip: eight strips to a group, in order (3.4). -/
def groupOf (i : StripId) : GroupId := ⟨i.val / 8, by omega⟩

/-- The low half of a word, bits 15 to 0 (3.1). -/
def lowHalf (w : Word) : BitVec 16 := w.extractLsb' 0 16

/-- The high half of a word, bits 31 to 16 (3.1). -/
def highHalf (w : Word) : BitVec 16 := w.extractLsb' 16 16

/-- A word from its high and low halves. -/
def ofHalves (high low : BitVec 16) : Word := high ++ low

/-- Every byte enabled (R10). -/
def allBytes : Enables := 0xF#4

end Sys2Proof
end

