-- ==== Sys2Proof/Config.lean ====
section
/-!
DEFINITION. What the part fixes once: its limits, its time unit and its live parameters.
-/

namespace Sys2Proof

/-- The size of the word address space (3.1). -/
def Config.addressSpace : Nat := 16777216

/-- The number of words in the control area (1.2). -/
def Config.controlWords : Nat := 512

/-- One microsecond of the clock. The clock counts quarters of a microsecond, since strip samples are
31.25 us apart (R87). -/
def Config.us : Nat := 4

/-- One millisecond of the clock. -/
def Config.ms : Nat := 4000

/-- The level code OFF (3.2). -/
def Config.off : Code := 0x8000#16

/-- The top of travel (3.2). -/
def Config.travelTop : Nat := 4095

/-- The greatest magnitude of a drive (3.2). -/
def Config.driveMax : Int := 1023

/-- The most unissued POSITION entries (R11). -/
def Config.positionLimit : Nat := 32

/-- The most unissued FETCH entries (R11). -/
def Config.fetchLimit : Nat := 32

/-- The most unissued EVENT entries (R11). -/
def Config.eventLimit : Nat := 12

/-- The most requests in the conversion queue, the one being converted included (R49). -/
def Config.conversionLimit : Nat := 16

/-- The guard count at which the injection head is granted (R18). -/
def Config.guardLimit : Nat := 4

/-- The meter floor in fine units (10.1). -/
def Config.floorFine : Int := -30720

/-- The meter floor in coarse units (10.1). -/
def Config.floorCoarse : Int := -1920

/-- The full-scale meter magnitude (3.2). -/
def Config.fullScale : Nat := 8388608

/-- The 28 live parameters, in the order of Table 11.2 (R189). -/
inductive Param where
  | kp | kv | vmax | vret | accel | deadband | settleCount | settleTimeout | trackTolerance
  | pressDebounce | releaseDebounce | readbackPeriod | readbackDeadband | openProtect | idleOff
  | railWake | bStart | wStart | tSame | tAny | healthThreshold | calDrive | calTimeout | calStill
  | minSpan | bailout | framePeriod | staleLimit
deriving DecidableEq, Repr

/-- A parameter's default and the two ends of its range (Table 11.2). -/
structure ParamSpec where
  default : Nat
  low : Nat
  high : Nat
deriving DecidableEq, Repr

/-- Table 11.2. -/
def Param.spec : Param → ParamSpec
  | .kp => ⟨96, 0, 1023⟩
  | .kv => ⟨512, 0, 1023⟩
  | .vmax => ⟨40, 1, 255⟩
  | .vret => ⟨24, 1, 255⟩
  | .accel => ⟨4, 1, 63⟩
  | .deadband => ⟨3, 0, 31⟩
  | .settleCount => ⟨8, 1, 64⟩
  | .settleTimeout => ⟨250, 10, 2000⟩
  | .trackTolerance => ⟨200, 16, 2047⟩
  | .pressDebounce => ⟨4, 1, 63⟩
  | .releaseDebounce => ⟨24, 1, 255⟩
  | .readbackPeriod => ⟨4, 1, 32⟩
  | .readbackDeadband => ⟨2, 0, 31⟩
  | .openProtect => ⟨1, 0, 1⟩
  | .idleOff => ⟨2000, 0, 65535⟩
  | .railWake => ⟨5, 1, 255⟩
  | .bStart => ⟨6, 1, 32⟩
  | .wStart => ⟨8, 1, 255⟩
  | .tSame => ⟨500, 0, 10000⟩
  | .tAny => ⟨100, 0, 10000⟩
  | .healthThreshold => ⟨4, 0, 255⟩
  | .calDrive => ⟨300, 64, 1023⟩
  | .calTimeout => ⟨800, 100, 5000⟩
  | .calStill => ⟨20, 4, 255⟩
  | .minSpan => ⟨3200, 256, 4095⟩
  | .bailout => ⟨3, 1, 15⟩
  | .framePeriod => ⟨10, 5, 40⟩
  | .staleLimit => ⟨30, 1, 255⟩

/-- The parameters in offset order (Table 11.2). -/
def Param.all : List Param :=
  [.kp, .kv, .vmax, .vret, .accel, .deadband, .settleCount, .settleTimeout, .trackTolerance,
   .pressDebounce, .releaseDebounce, .readbackPeriod, .readbackDeadband, .openProtect, .idleOff,
   .railWake, .bStart, .wStart, .tSame, .tAny, .healthThreshold, .calDrive, .calTimeout, .calStill,
   .minSpan, .bailout, .framePeriod, .staleLimit]

/-- A parameter's place in Table 11.2; its control-area offset is 0x010 plus this (R189). -/
def Param.index : Param → Fin 28
  | .kp => 0 | .kv => 1 | .vmax => 2 | .vret => 3 | .accel => 4 | .deadband => 5
  | .settleCount => 6 | .settleTimeout => 7 | .trackTolerance => 8 | .pressDebounce => 9
  | .releaseDebounce => 10 | .readbackPeriod => 11 | .readbackDeadband => 12 | .openProtect => 13
  | .idleOff => 14 | .railWake => 15 | .bStart => 16 | .wStart => 17 | .tSame => 18 | .tAny => 19
  | .healthThreshold => 20 | .calDrive => 21 | .calTimeout => 22 | .calStill => 23 | .minSpan => 24
  | .bailout => 25 | .framePeriod => 26 | .staleLimit => 27

/-- The parameter at a place in Table 11.2. -/
def Param.ofIndex (k : Fin 28) : Param := Param.all[k.val]'k.isLt

end Sys2Proof
end

