-- ==== Sys2Proof/Syntax.lean ====
section
/-!
DEFINITION. The commands of the part: one constructor for each row of spec/opcode_table.json, in its order.
-/

namespace Sys2Proof

/-- The command field of a bus request (Table 1.1). -/
inductive ReqKind where
  | read
  | write
deriving DecidableEq, Repr

/-- A response status (R3). -/
inductive RespStatus where
  | ok
  | error
deriving DecidableEq, Repr

/-- The steps of the part (opcode_table.json). Processor commands carry the tag and the argument of
their COMMAND word (Table 11.3). -/
inductive Instr where
  /-- PORESET_N falls (R3). -/
  | powerOnReset
  /-- PORESET_N rises (R87). -/
  | poresetRelease
  /-- A millisecond of surface time passes (R190). -/
  | surfaceTimeTick
  /-- The sensor link delivers a raw reading (R87). -/
  | sensorReading (strip : StripId) (raw : BitVec 12)
  /-- A request's fields arrive at the P-port (R4). -/
  | pportRequest (kind : ReqKind) (addr : BitVec 24) (lenCode : BitVec 2) (parity : Bool)
  /-- The ALERT_N interval ends (R8). -/
  | alertTimeout
  /-- The M-port is granted to the passing request (R18). -/
  | passingGrant
  /-- The head of the injection queue is granted and issued (R20). -/
  | injectionIssue
  /-- The next write beat of the passing write is presented (R5). -/
  | writeBeatAccept (data : Word) (enables : Enables)
  /-- The next data beat of the passing read returns; the status counts with the last beat (R6). -/
  | readBeatReturn (data : Word) (status : RespStatus)
  /-- Memory answers a passing write (R5). -/
  | memoryWriteResponse (status : RespStatus)
  /-- Memory answers an issued POSITION (R22). -/
  | positionResponse (status : RespStatus)
  /-- Memory answers an issued FETCH with its word (R23). -/
  | fetchResponse (data : Word) (status : RespStatus)
  /-- Memory answers an issued STATUS or EVENT (R24). -/
  | statusEventResponse (status : RespStatus)
  /-- A full-word write to a control-area word (R188). -/
  | controlAreaWrite (offset : BitVec 9) (data : Word)
  /-- A full-word write to a live parameter (R189). -/
  | liveParameterWrite (param : Param) (data : Word)
  /-- A full-word write to a strip settings word, the first or the second (R134). -/
  | stripSettingsWrite (strip : StripId) (second : Bool) (data : Word)
  /-- A full-word write to ACK (R200). -/
  | ackWrite (data : Word)
  /-- A full-word write to QUIET (R201). -/
  | quietWrite (data : Word)
  /-- A full-word write to RING_BASE (R202). -/
  | ringBaseWrite (data : Word)
  /-- A full-word write to RING_CAPACITY (R202). -/
  | ringCapacityWrite (data : Word)
  /-- A full-word write to CONSUMER (R204). -/
  | consumerWrite (data : Word)
  /-- A COMMAND write whose code is none of the fourteen (R191). -/
  | unknownCommand (code tag : BitVec 8) (arg : BitVec 16)
  /-- Command 0x01 (R126). -/
  | selectLayer (tag : BitVec 8) (arg : BitVec 16)
  /-- Command 0x02 (R195). -/
  | setMode (tag : BitVec 8) (arg : BitVec 16)
  /-- Command 0x03 (R196). -/
  | unlatch (tag : BitVec 8) (arg : BitVec 16)
  /-- Command 0x04 with bit 8 set (R132). -/
  | isolateOn (tag : BitVec 8) (arg : BitVec 16)
  /-- Command 0x04 with bit 8 clear (R133). -/
  | isolateOff (tag : BitVec 8) (arg : BitVec 16)
  /-- Command 0x05 (R168). -/
  | recalibrate (tag : BitVec 8) (arg : BitVec 16)
  /-- Command 0x06 (R166). -/
  | clearFault (tag : BitVec 8) (arg : BitVec 16)
  /-- Command 0x07 (R167, R197). -/
  | clearErrors (tag : BitVec 8) (arg : BitVec 16)
  /-- Command 0x08 (R29 to R31). -/
  | loadWindows (tag : BitVec 8) (arg : BitVec 16)
  /-- Command 0x09 (R123). -/
  | loadLayerMap (tag : BitVec 8) (arg : BitVec 16)
  /-- Command 0x0A (R58 to R60). -/
  | loadTaper (tag : BitVec 8) (arg : BitVec 16)
  /-- LOAD_TAPER completes (R60). -/
  | loadTaperComplete
  /-- Command 0x0B (R183, R184). -/
  | loadMeterSetup (tag : BitVec 8) (arg : BitVec 16)
  /-- Command 0x0C (R198). -/
  | queryStrip (tag : BitVec 8) (arg : BitVec 16)
  /-- Command 0x0D (R199). -/
  | sync (tag : BitVec 8) (arg : BitVec 16)
  /-- SYNC completes (R199). -/
  | syncComplete
  /-- Command 0x0E (R194). -/
  | surfaceReset (tag : BitVec 8) (arg : BitVec 16)
  /-- The head conversion is started (R50). -/
  | conversionStart
  /-- The running level-to-travel conversion completes (R54). -/
  | levelToTravelComplete
  /-- The running travel-to-level conversion completes (R55). -/
  | travelToLevelComplete
  /-- The running THRESHOLD conversion completes (R56). -/
  | thresholdComplete
  /-- The oldest waiters are served while slots are free (R53). -/
  | slotWaiterServe
  /-- A strip's servo sample (R88). -/
  | servoSample (strip : StripId)
  /-- The servo sample in which a strip settles (R96). -/
  | settled (strip : StripId)
  /-- The servo sample in which a strip reaches its settle timeout (R97). -/
  | settleTimeout (strip : StripId)
  /-- The servo sample in which a calibration phase finds its stop (R159). -/
  | calStopFound (strip : StripId)
  /-- The servo sample in which a calibration phase times out (R160). -/
  | calPhaseTimeout (strip : StripId)
  /-- A raw touch input takes a level (R104). -/
  | touchInputChange (strip : StripId) (pressed : Bool)
  /-- A debounce timer expires (R105). -/
  | debounceExpiry (strip : StripId)
  /-- A readback timer expires (R115). -/
  | readbackExpiry (strip : StripId)
  /-- The oldest eligible start queue entry is granted (R149). -/
  | grant
  /-- A rail's wake time ends (R140). -/
  | railWakeEnd (group : GroupId)
  /-- An idle rail goes OFF (R142). -/
  | railIdleOff (group : GroupId)
  /-- The slice timer expires (R154). -/
  | sliceTimerExpiry
  /-- The frame timer expires (R173). -/
  | frameExpiry
  /-- The frame in which a channel's peak drops to its bar (R177). -/
  | peakHoldEnd (chan : MeterId)
  /-- The frame in which a channel's over lamp goes out (R178). -/
  | overLatchEnd (chan : MeterId)
  /-- The frame in which a channel becomes STALE (R179). -/
  | staleEntry (chan : MeterId)
  /-- A beat of a dropped request is transferred (R7). -/
  | droppedRequestBeat
  /-- The shift of a frame ends (R181). -/
  | meterShiftEnd
deriving DecidableEq, Repr

end Sys2Proof
end

