-- ==== Sys2Proof/WellFormed.lean ====
section
/-!
DEFINITION. Which commands are formed as their row of the table says.
-/

namespace Sys2Proof

/-- Whether a control-area offset has a command row of its own: COMMAND, ACK, QUIET, the ring words and
CONSUMER, the live parameters, the strip settings (Table 11.1). -/
def hasOwnRow (offset : Nat) : Bool :=
  offset = 0x000 || (0x003 ≤ offset && offset ≤ 0x006) || offset = 0x008 ||
  (0x010 ≤ offset && offset ≤ 0x02B) || (0x100 ≤ offset && offset ≤ 0x13F)

/-- Whether a code is one of the fourteen commands of R194. -/
def isKnownCode (code : BitVec 8) : Bool := 0x01 ≤ code.toNat && code.toNat ≤ 0x0E

/-- A command is well formed when it is formed as its row says: CONTROL_AREA_WRITE names a word without
behaviour of its own, UNKNOWN_COMMAND a code that is none of the fourteen, ISOLATE_ON an argument with
bit 8 set and ISOLATE_OFF one with bit 8 clear. Every other operand is held to its range by its type. -/
def Instr.wf : Instr → Bool
  | .controlAreaWrite offset _ => !hasOwnRow offset.toNat
  | .unknownCommand code _ _ => !isKnownCode code
  | .isolateOn _ arg => arg.getLsbD 8
  | .isolateOff _ arg => !arg.getLsbD 8
  | .powerOnReset => true
  | .poresetRelease => true
  | .surfaceTimeTick => true
  | .sensorReading _ _ => true
  | .pportRequest _ _ _ _ => true
  | .alertTimeout => true
  | .passingGrant => true
  | .injectionIssue => true
  | .writeBeatAccept _ _ => true
  | .readBeatReturn _ _ => true
  | .memoryWriteResponse _ => true
  | .positionResponse _ => true
  | .fetchResponse _ _ => true
  | .statusEventResponse _ => true
  | .liveParameterWrite _ _ => true
  | .stripSettingsWrite _ _ _ => true
  | .ackWrite _ => true
  | .quietWrite _ => true
  | .ringBaseWrite _ => true
  | .ringCapacityWrite _ => true
  | .consumerWrite _ => true
  | .selectLayer _ _ => true
  | .setMode _ _ => true
  | .unlatch _ _ => true
  | .recalibrate _ _ => true
  | .clearFault _ _ => true
  | .clearErrors _ _ => true
  | .loadWindows _ _ => true
  | .loadLayerMap _ _ => true
  | .loadTaper _ _ => true
  | .loadTaperComplete => true
  | .loadMeterSetup _ _ => true
  | .queryStrip _ _ => true
  | .sync _ _ => true
  | .syncComplete => true
  | .surfaceReset _ _ => true
  | .conversionStart => true
  | .levelToTravelComplete => true
  | .travelToLevelComplete => true
  | .thresholdComplete => true
  | .slotWaiterServe => true
  | .servoSample _ => true
  | .settled _ => true
  | .settleTimeout _ => true
  | .calStopFound _ => true
  | .calPhaseTimeout _ => true
  | .touchInputChange _ _ => true
  | .debounceExpiry _ => true
  | .readbackExpiry _ => true
  | .grant => true
  | .railWakeEnd _ => true
  | .railIdleOff _ => true
  | .sliceTimerExpiry => true
  | .frameExpiry => true
  | .peakHoldEnd _ => true
  | .overLatchEnd _ => true
  | .staleEntry _ => true
  | .droppedRequestBeat => true
  | .meterShiftEnd => true

end Sys2Proof
end

