-- ==== Sys2Proof/Machine/State.lean ====
section
/-!
DEFINITION. The state of the Icofel 3264, block by block (Table 0.1), and its value right after reset.
-/

namespace Sys2Proof.Machine

open Sys2Proof

/-! ## Image port (01) -/

/-- A window's word order (R27). -/
inductive WordOrder where
  | native
  | swapped
deriving DecidableEq, Repr

/-- The four status words the part writes (R14). -/
inductive StatusWord where
  | result
  | summary
  | producer
  | counters
deriving DecidableEq, Repr

/-- What an injection queue entry carries, by kind (Table 1.3). -/
inductive InjBody where
  | position (chan : ChanId) (code : Code) (order : WordOrder)
  | fetch (chan : ChanId) (seq : BitVec 8) (order : WordOrder)
  | status (word : StatusWord) (value : Word)
  | event (first second : Word)
deriving DecidableEq, Repr

/-- An entry of the injection queue: its place in the creation order, its address, its body (R11). -/
structure InjEntry where
  stamp : Nat
  addr : Nat
  body : InjBody
deriving DecidableEq, Repr

/-- A member of the completion list (R20). -/
inductive Member where
  | passingRead
  | passingWrite
  | position (chan : ChanId) (code : Code) (addr : Nat) (order : WordOrder) (superseded : Bool)
  | fetch (chan : ChanId) (seq : BitVec 8) (addr : Nat) (order : WordOrder)
  | status (word : StatusWord) (addr : Nat)
  | event (addr : Nat)
deriving DecidableEq, Repr

/-- The one request the P-port carries (R4), passing or dropped for bad parity (R7). -/
structure PortRequest where
  kind : ReqKind
  addr : BitVec 24
  lenCode : BitVec 2
  parity : Bool
  dropped : Bool
  granted : Bool
  /-- Beats already transferred at the P-port. -/
  done : Nat
deriving DecidableEq, Repr

/-- A response owed at the P-port after its request's last beat (R3): memory's to a passing write, or
the ERROR of a dropped write (R7). -/
inductive Owed where
  | memory
  | droppedWrite
deriving DecidableEq, Repr

/-- Who holds the M-port (R18). An injected write's beats go out in the step that issues it. -/
inductive Holder where
  | nobody
  | passing
  | issuedFetch
deriving DecidableEq, Repr

/-- What the part puts out at the P-port. -/
inductive POut where
  | readBeat (data : Word)
  | response (status : RespStatus)
deriving DecidableEq, Repr

/-- What the part puts out at the M-port. -/
inductive MOut where
  | request (kind : ReqKind) (addr : BitVec 24) (lenCode : BitVec 2) (parity : Bool)
  | writeBeat (data : Word) (enables : Enables)
deriving DecidableEq, Repr

/-- The image port. -/
structure ImagePort where
  req : Option PortRequest
  heldBeat : Option (Word × Enables)
  owed : List Owed
  holder : Holder
  members : List Member
  guardCount : Nat
  queue : List InjEntry
  nextStamp : Nat
  alertEnd : Option Nat
  toProcessor : List POut
  toMemory : List MOut
deriving DecidableEq, Repr

/-! ## Windows and the channel table (02) -/

/-- The kind of a window (Table 2.1). -/
inductive WindowKind where
  | unused
  | fader
  | meter
deriving DecidableEq, Repr

/-- An active window descriptor (Table 2.1). -/
structure Window where
  kind : WindowKind
  base : Nat
  size : Nat
  order : WordOrder
  first : Nat
deriving DecidableEq, Repr

/-- The window decoder: staged words and active descriptors (R26). -/
structure WindowDecoder where
  staged : Vector Word 64
  active : Vector Window 16
deriving DecidableEq, Repr

/-- A channel record (Table 2.3). The channel is SEEN exactly when the image code is present. -/
structure ChanRec where
  image : Option Code
  proc : Option Code
  seq : BitVec 8
deriving DecidableEq, Repr

/-! ## Taper unit (03) -/

/-- A breakpoint of a taper table (3.2). -/
structure Breakpoint where
  travel : Nat
  level : Int
deriving DecidableEq, Repr

/-- A taper table: 17 breakpoints (3.2). -/
abbrev Taper := Vector Breakpoint 17

/-- A conversion request's direction, key and input, with its sequence number or channel (Table 3.4). -/
inductive ConvWork where
  | levelToTravel (chan : ChanId) (code : Code) (seq : BitVec 8)
  | travelToLevel (strip : StripId) (travel : Nat) (chan : ChanId)
  | threshold (strip : StripId) (on : Bool) (code : Code)
deriving DecidableEq, Repr

/-- A conversion request's direction and key (Table 3.4). -/
inductive ConvKey where
  | level (chan : ChanId)
  | readback (strip : StripId)
  | threshold (strip : StripId) (on : Bool)
deriving DecidableEq, Repr

/-- A conversion request with its owner mark (Table 3.4). -/
structure ConvReq where
  work : ConvWork
  owned : Bool
deriving DecidableEq, Repr

/-- The conversion in progress: the table it was started with and its end (R50). -/
structure ConvRun where
  table : Taper
  due : Nat
deriving DecidableEq, Repr

/-- A waiter of the slot wait list: the held processor beat, a channel's conversion (from a fetch
completion or from a re-seat or an adoption), a threshold (R52, R53). -/
inductive Waiter where
  | beat
  | level (chan : ChanId) (fromFetch : Bool) (owned : Bool)
  | threshold (strip : StripId) (on : Bool) (owned : Bool)
deriving DecidableEq, Repr

/-- The taper unit. -/
structure TaperUnit where
  active : Taper
  staged : Vector Word 17
  queue : List ConvReq
  running : Option ConvRun
  waiters : List Waiter
deriving DecidableEq, Repr

/-! ## Strips (04, 05, 06, 07, 09) -/

/-- Automation modes (Table 4.4). -/
inductive Mode where
  | parked
  | read
  | touch
  | latch
  | write
deriving DecidableEq, Repr

/-- Motion states (Table 4.2). -/
inductive Motion where
  | parked
  | idle
  | queued
  | moving
  | settling
  | touched
  | latched
  | calibrating
  | stalled
deriving DecidableEq, Repr

/-- Speed classes (Table 4.1). -/
inductive SpeedClass where
  | normal
  | ret
deriving DecidableEq, Repr

/-- A strip's target: code, travel and channel, set and cleared together (R48). -/
structure Target where
  code : Code
  travel : Nat
  chan : ChanId
deriving DecidableEq, Repr

/-- The phase of a calibration run; found low is held in HIGH_SEEK only (Table 9.2). -/
inductive CalPhase where
  | lowSeek
  | highSeek (foundLow : Nat)
deriving DecidableEq, Repr

/-- The phase data of a calibration run (Table 9.2). -/
structure CalRun where
  phase : CalPhase
  start : BitVec 16
  anchor : Option Nat
  still : Nat
deriving DecidableEq, Repr

/-- A running debounce timer (R103). -/
structure Debounce where
  press : Bool
  expiry : Nat
deriving DecidableEq, Repr

/-- Recalibration policies (Table 9.1). -/
inductive Policy where
  | errorThreshold
  | onWake
  | never
deriving DecidableEq, Repr

/-- A valid calibration record (Table 9.1). -/
structure Calibration where
  low : Nat
  high : Nat
deriving DecidableEq, Repr

/-- All that the blocks keep for one strip: the strip record (Table 4.1), its schedule (R87, R115), its
touch state (R103), its layer state (Table 7.1), its fader-start state (Table 7.2) and its health record
(Table 9.1). -/
structure Strip where
  mode : Mode
  motion : Motion
  shown : Option ChanId
  m : Nat
  r : Nat
  v : Nat
  target : Option Target
  opCode : Option Code
  lastReadback : Option Nat
  speed : SpeedClass
  settled : Nat
  settleStart : BitVec 16
  moveMarked : Bool
  latch : Bool
  drive : Int
  dirHigh : Bool
  cal : Option CalRun
  reading : Option (BitVec 12)
  sampleDue : Option Nat
  readbackDue : Option Nat
  rawTouch : Bool
  touched : Bool
  debounce : Option Debounce
  isolated : Bool
  /-- The pending channel: absent, NONE (`some none`) or a channel. -/
  waiting : Option (Option ChanId)
  conflict : Option ChanId
  fsEnable : Bool
  onCode : Code
  offCode : Code
  onTravel : Nat
  offTravel : Nat
  line : Bool
  /-- The eight error slices, the current one first (R154). -/
  slices : List Nat
  errorTotal : Nat
  policy : Policy
  recalPending : Bool
  attempts : Nat
  calibration : Option Calibration
deriving DecidableEq, Repr

/-! ## Layer controller (07) -/

/-- The layer controller's maps (R122). -/
structure LayerCtl where
  maps : Vector (Vector (Option ChanId) 32) 4
  active : LayerId
  staged : Vector Word 32
deriving DecidableEq, Repr

/-! ## Drive supervisor (08) -/

/-- A group rail with the time its state holds (R138). -/
inductive Rail where
  | off
  | waking (wakeEnd : Nat)
  | on (idleStart : Option Nat)
deriving DecidableEq, Repr

/-- The purpose of a start queue entry (Table 8.2). -/
inductive Purpose where
  | move
  | calibrate
deriving DecidableEq, Repr

/-- A start queue entry (Table 8.2). -/
structure StartEntry where
  strip : StripId
  purpose : Purpose
deriving DecidableEq, Repr

/-- A grant of the grant history; the moment is in microseconds (R147). -/
structure GrantRec where
  moment : Nat
  group : GroupId
deriving DecidableEq, Repr

/-- The drive supervisor. The history holds the newest grant last (R147). -/
structure DriveSup where
  rails : Vector Rail 4
  queue : List StartEntry
  history : List GrantRec
  groupLatest : Vector (Option Nat) 4
  anyLatest : Option Nat
deriving DecidableEq, Repr

/-! ## Meter engine (10) -/

/-- A meter channel's output (Table 10.1). -/
structure MeterOut where
  bar : Nat
  dot : Nat
  lamp : Bool
deriving DecidableEq, Repr

/-- A meter channel record (Table 10.1). -/
structure MeterRec where
  capture : Option Nat
  level : Int
  peak : Int
  hold : Nat
  overRun : Nat
  overLatch : Nat
  staleCount : Nat
  stale : Bool
  out : MeterOut
deriving DecidableEq, Repr

/-- A ballistics profile (Table 10.4). -/
structure Profile where
  attack : Nat
  decay : Nat
  hold : Nat
  overLevel : Int
  overCount : Nat
  overHold : Nat
deriving DecidableEq, Repr

/-- A meter setup: profiles, map and scale (10.9). -/
structure MeterSetup where
  profiles : Vector Profile 4
  map : Vector (Fin 4) 64
  scale : Vector Int 48
deriving DecidableEq, Repr

/-- A shift on the meter chain: its bits in order and its start (R181). -/
structure Shift where
  bits : List Bool
  start : Nat
deriving DecidableEq, Repr

/-- The meter engine. -/
structure MeterEngine where
  recs : Vector MeterRec 64
  active : MeterSetup
  waiting : Option MeterSetup
  stagedProfiles : Vector Word 24
  stagedMap : Vector Word 4
  stagedScale : Vector Word 48
  frameDue : Nat
  shift : Option Shift
  driven : Option (List Bool)
deriving DecidableEq, Repr

/-! ## Control unit (11) -/

/-- A command in progress: LOAD_TAPER with its tag and re-seats (R60), or SYNC with its tag, its point in
the creation order and its count (R199). -/
inductive Busy where
  | loadTaper (tag : BitVec 8) (reseats : Nat)
  | sync (tag : BitVec 8) (point : Nat) (count : Nat)
deriving DecidableEq, Repr

/-- The control unit. The EVENTS cause follows from the ring indices (R200). -/
structure Control where
  busy : Option Busy
  result : Word
  lostCause : Bool
  parityCause : Bool
  faultCause : Bool
  commandCause : Bool
  quiet : Word
  ringBase : Nat
  ringCapacity : Nat
  producer : Nat
  consumer : Nat
  serial : BitVec 16
  lostCount : Nat
  parityCount : Nat
  time : BitVec 16
  nextTick : Nat
  params : Vector Nat 28
deriving DecidableEq, Repr

/-- The whole part, with the queue of commands that wait to be taken. -/
structure State where
  pending : List Instr
  clock : Nat
  inReset : Bool
  strap : BitVec 3
  port : ImagePort
  windows : WindowDecoder
  chans : Vector ChanRec 256
  taper : TaperUnit
  strips : Vector Strip 32
  layers : LayerCtl
  drive : DriveSup
  sliceDue : Nat
  meter : MeterEngine
  ctl : Control
deriving DecidableEq, Repr

/-! ## Faults and refusals -/

/-- Why the part stops: it never does. The spec gives every command an effect, so there is no fault. -/
inductive Fault where
deriving DecidableEq, Repr

/-- Why a command has no meaning in the model. -/
inductive Refusal where
  /-- Raised by exec alone, for a command whose meaning is not written. No arm raises it. Safe. -/
  | notModelled (mnemonic : String)
deriving DecidableEq, Repr

/-! ## Power-on values -/

/-- The image port after power-on reset (R3, R8, R11, R19, R20). -/
def ImagePort.powerOn : ImagePort where
  req := none
  heldBeat := none
  owed := []
  holder := .nobody
  members := []
  guardCount := 0
  queue := []
  nextStamp := 0
  alertEnd := none
  toProcessor := []
  toMemory := []

/-- The descriptor that four all-zero words give (R26). -/
def Window.zero : Window := ⟨.unused, 0, 0, .native, 0⟩

/-- The window decoder after power-on reset (R26). -/
def WindowDecoder.powerOn : WindowDecoder where
  staged := Vector.replicate 64 0#32
  active := Vector.replicate 16 Window.zero

/-- A channel record after power-on reset (R32). -/
def ChanRec.powerOn : ChanRec := ⟨none, none, 0#8⟩

/-- The power-on taper table (Table 3.1). -/
def Taper.powerOn : Taper :=
  #v[⟨0, -1440⟩, ⟨256, -960⟩, ⟨512, -768⟩, ⟨768, -640⟩, ⟨1024, -560⟩, ⟨1280, -480⟩, ⟨1536, -400⟩,
     ⟨1792, -320⟩, ⟨2048, -256⟩, ⟨2304, -192⟩, ⟨2560, -144⟩, ⟨2816, -96⟩, ⟨3072, -48⟩, ⟨3328, 0⟩,
     ⟨3584, 64⟩, ⟨3840, 128⟩, ⟨4095, 192⟩]

/-- A breakpoint as its staging word (R43, Table 11.4). -/
def Breakpoint.word (b : Breakpoint) : Word :=
  ofHalves (BitVec.ofInt 16 b.level) (BitVec.ofNat 16 b.travel)

/-- The taper unit after power-on reset (R42, R43, R49, R52). -/
def TaperUnit.powerOn : TaperUnit where
  active := Taper.powerOn
  staged := Taper.powerOn.map Breakpoint.word
  queue := []
  running := none
  waiters := []

/-- A strip after power-on reset (R62, R95, R103, R124, Table 7.2, Table 9.1). -/
def Strip.powerOn : Strip where
  mode := .parked
  motion := .parked
  shown := none
  m := 0
  r := 0
  v := 0
  target := none
  opCode := none
  lastReadback := none
  speed := .normal
  settled := 0
  settleStart := 0#16
  moveMarked := false
  latch := false
  drive := 0
  dirHigh := false
  cal := none
  reading := none
  sampleDue := none
  readbackDue := none
  rawTouch := false
  touched := false
  debounce := none
  isolated := false
  waiting := none
  conflict := none
  fsEnable := false
  onCode := BitVec.ofInt 16 (-1280)
  offCode := BitVec.ofInt 16 (-1344)
  onTravel := 85
  offTravel := 51
  line := false
  slices := [0, 0, 0, 0, 0, 0, 0, 0]
  errorTotal := 0
  policy := .errorThreshold
  recalPending := false
  attempts := 0
  calibration := none

/-- The layer controller after power-on reset (R122, section 11.2). -/
def LayerCtl.powerOn : LayerCtl where
  maps := Vector.replicate 4 (Vector.replicate 32 none)
  active := 0
  staged := Vector.replicate 32 0x0000FFFF#32

/-- The drive supervisor after power-on reset (R138, R144, R147). -/
def DriveSup.powerOn : DriveSup where
  rails := Vector.replicate 4 .off
  queue := []
  history := []
  groupLatest := Vector.replicate 4 none
  anyLatest := none

/-- A meter channel record after power-on reset (Table 10.1). -/
def MeterRec.powerOn : MeterRec where
  capture := none
  level := Config.floorFine
  peak := Config.floorFine
  hold := 0
  overRun := 0
  overLatch := 0
  staleCount := 0
  stale := true
  out := ⟨0, 0, false⟩

/-- The power-on meter setup (R182, Table 10.5). -/
def MeterSetup.powerOn : MeterSetup where
  profiles := #v[⟨64, 22, 150, -16, 3, 200⟩, ⟨256, 40, 100, -16, 1, 200⟩,
    ⟨16, 10, 200, -16, 3, 200⟩, ⟨64, 22, 150, -16, 3, 200⟩]
  map := Vector.replicate 64 0
  scale := Vector.ofFn fun k => -960 + 20 * (k.val : Int)

/-- A profile's staging words, in the order of Table 10.4 (R182). -/
def Profile.words (p : Profile) : List Word :=
  [BitVec.ofNat 32 p.attack, BitVec.ofNat 32 p.decay, BitVec.ofNat 32 p.hold,
   BitVec.ofInt 32 p.overLevel, BitVec.ofNat 32 p.overCount, BitVec.ofNat 32 p.overHold]

/-- The meter engine after power-on reset, its frame timer not yet started (R169, R182). -/
def MeterEngine.powerOn : MeterEngine where
  recs := Vector.replicate 64 MeterRec.powerOn
  active := MeterSetup.powerOn
  waiting := none
  stagedProfiles := Vector.ofFn fun k =>
    (MeterSetup.powerOn.profiles[k.val / 6]'(by omega)).words.getD (k.val % 6) 0#32
  stagedMap := Vector.replicate 4 0#32
  stagedScale := MeterSetup.powerOn.scale.map (BitVec.ofInt 32)
  frameDue := 0
  shift := none
  driven := none

/-- The control unit after power-on reset (R188 to R191, R200 to R205). -/
def Control.powerOn : Control where
  busy := none
  result := 0#32
  lostCause := false
  parityCause := false
  faultCause := false
  commandCause := false
  quiet := 0#32
  ringBase := 0
  ringCapacity := 0
  producer := 0
  consumer := 0
  serial := 0#16
  lostCount := 0
  parityCount := 0
  time := 0#16
  nextTick := 0
  params := Vector.ofFn fun k => (Param.ofIndex k).spec.default

/-- The part while PORESET_N is low: every piece of state at its power-on value (R3). -/
def State.powerOn : State where
  pending := []
  clock := 0
  inReset := true
  strap := 0#3
  port := ImagePort.powerOn
  windows := WindowDecoder.powerOn
  chans := Vector.replicate 256 ChanRec.powerOn
  taper := TaperUnit.powerOn
  strips := Vector.replicate 32 Strip.powerOn
  layers := LayerCtl.powerOn
  drive := DriveSup.powerOn
  sliceDue := 0
  meter := MeterEngine.powerOn
  ctl := Control.powerOn

/-- The part right after reset: power-on values, PORESET_N just risen with no touch input pressed, the
surface time, slice and frame timers started (R154, R172, R190). -/
def State.reset : State :=
  { State.powerOn with
    inReset := false
    sliceDue := 125 * Config.ms
    meter := { MeterEngine.powerOn with frameDue := 10 * Config.ms }
    ctl := { Control.powerOn with nextTick := Config.ms } }

end Sys2Proof.Machine
end

