-- ==== Sys2Proof/Machine/Flags.lean ====
section
/-!
DEFINITION. The attention causes and the status words (R200, R205, Table 11.3), and the output pins that
follow from the state (Table 0.4).
-/

namespace Sys2Proof.Machine

open Sys2Proof

/-- Bit k of a word, set when `b` holds. -/
def flagBit (b : Bool) (k : Nat) : Word := if b then 1#32 <<< k else 0#32

/-- EVENTS is present exactly while the ring is enabled and the producer differs from the consumer (R200). -/
def Control.eventsCause (c : Control) : Bool := c.ringCapacity != 0 && c.producer != c.consumer

/-- The SUMMARY word: the cause set in bits 0 to 4 (Table 11.3). -/
def Control.summaryWord (c : Control) : Word :=
  flagBit c.eventsCause 0 ||| flagBit c.lostCause 1 ||| flagBit c.parityCause 2 |||
  flagBit c.faultCause 3 ||| flagBit c.commandCause 4

/-- The COUNTERS word: lost count in bits 15 to 0, parity count in bits 23 to 16 (Table 11.3). -/
def Control.countersWord (c : Control) : Word :=
  ofHalves (BitVec.ofNat 16 c.parityCount) (BitVec.ofNat 16 c.lostCount)

/-- The part's own value of a status word (R188). -/
def Control.statusValue (c : Control) : StatusWord → Word
  | .result => c.result
  | .summary => c.summaryWord
  | .producer => BitVec.ofNat 32 c.producer
  | .counters => c.countersWord

/-- Whether the cause set is empty (R200). -/
def Control.causesEmpty (c : Control) : Bool :=
  !(c.eventsCause || c.lostCause || c.parityCause || c.faultCause || c.commandCause)

/-- ATTN_N is low while QUIET is 0 and the cause set is not empty, and high in reset (R201). -/
def State.attnLow (s : State) : Bool := !s.inReset && s.ctl.quiet == 0#32 && !s.ctl.causesEmpty

/-- ALERT_N is low while its interval runs (R8). -/
def State.alertLow (s : State) : Bool := s.port.alertEnd.isSome

/-- RAILEN is high while the group's rail is WAKING or ON (R138). -/
def State.railEnabled (s : State) (g : GroupId) : Bool := s.drive.rails[g.val] != .off

/-- PWM runs at the drive's magnitude in 1023 parts (R95). -/
def State.pwmDuty (s : State) (i : StripId) : Nat := (s.strips[i.val]).drive.natAbs

/-- The level of a DIR output (R95). -/
def State.dirHigh (s : State) (i : StripId) : Bool := (s.strips[i.val]).dirHigh

/-- FST is high while the strip's line is ON (R136). -/
def State.faderStartHigh (s : State) (i : StripId) : Bool := (s.strips[i.val]).line

/-- Whole microseconds since the shift in progress began. -/
def Shift.elapsed (h : Shift) (clock : Nat) : Nat := (clock - h.start) / Config.us

/-- Whether MCLK is running: between shifts it is low (R181). That it runs on in the microsecond of the MLATCH pulse is the model's choice (DESIGN CHOICE,
entry 33). -/
def State.meterClocked (s : State) : Bool := s.meter.shift.isSome

/-- MDATA holds the bit of the current microsecond of a shift, and is low otherwise (R181). That it is low in the microsecond of the MLATCH pulse is the
model's choice (DESIGN CHOICE, entry 33). -/
def State.mdata (s : State) : Bool :=
  match s.meter.shift with
  | some h => h.bits.getD (h.elapsed s.clock) false
  | none => false

/-- MLATCH is high for the microsecond after a shift's last bit (R181). -/
def State.mlatch (s : State) : Bool :=
  match s.meter.shift with
  | some h => h.elapsed s.clock == h.bits.length
  | none => false

end Sys2Proof.Machine
end

