-- ==== Sys2Proof/Machine/Operands.lean ====
section
/-!
DEFINITION. The operand forms: word orders and byte-enables (R27), command arguments (R193), staging and
settings words (Table 11.4), bus request fields (R2).
-/

namespace Sys2Proof.Machine

open Sys2Proof

/-! ## Integer roundings (R1) -/

/-- Floor division: toward minus infinity (R1). -/
def floorDiv (a b : Int) : Int := Int.fdiv a b

/-- Nearest, halves up: half the divisor, halved downward, is added, then floor division (R1). -/
def divNearest (a b : Int) : Int := floorDiv (a + floorDiv b 2) b

/-- Clamped to a range (R1). -/
def clampInt (low high x : Int) : Int := if x < low then low else if high < x then high else x

/-- Clamped to a range (R1). -/
def clampNat (low high x : Nat) : Nat := if x < low then low else if high < x then high else x

/-- The distance of two travels. -/
def dist (a b : Nat) : Nat := ((a : Int) - (b : Int)).natAbs

/-- The bits of the square root of a number below 2 ^ 32, tried from `2 ^ k` down. -/
def isqrtFrom (n : Nat) : Nat → Nat → Nat
  | 0, root => root
  | k + 1, root =>
    if (root + 2 ^ k) * (root + 2 ^ k) ≤ n then isqrtFrom n k (root + 2 ^ k) else isqrtFrom n k root

/-- The largest integer whose square is at most `n` (R91), for `n` below 2 ^ 32. -/
def isqrt (n : Nat) : Nat := isqrtFrom n 16 0

/-! ## Bus requests (R2) -/

/-- The beats of a request, from its length code: 1, 2, 4 or 8 (Table 1.1). DESIGN CHOICE: the codes are 0 to 3
in this order (entry 7). -/
def lengthOf (code : BitVec 2) : Nat := 2 ^ code.toNat

/-- The command bit. DESIGN CHOICE: WRITE is 1 (entry 7). -/
def kindBit : ReqKind → Bool
  | .read => false
  | .write => true

/-- The number of ones in the low `n` bits. -/
def ones (n : Nat) (bit : Nat → Bool) : Nat := (List.range n).countP bit

/-- The number of ones across the command, address and length fields (R2). -/
def fieldOnes (kind : ReqKind) (addr : BitVec 24) (lenCode : BitVec 2) : Nat :=
  (kindBit kind).toNat + ones 24 addr.getLsbD + ones 2 lenCode.getLsbD

/-- Whether the parity bit makes the total number of ones even (R2). -/
def parityGood (kind : ReqKind) (addr : BitVec 24) (lenCode : BitVec 2) (parity : Bool) : Bool :=
  (fieldOnes kind addr lenCode + parity.toNat) % 2 == 0

/-- The parity bit the part drives on a request of its own (R2). -/
def parityFor (kind : ReqKind) (addr : BitVec 24) (lenCode : BitVec 2) : Bool :=
  fieldOnes kind addr lenCode % 2 == 1

/-- The address of the beat a request is at (R2). -/
def PortRequest.beatAddr (q : PortRequest) : Nat := q.addr.toNat + q.done

/-- Whether the beat a request is at is its last (R2). -/
def PortRequest.atLast (q : PortRequest) : Bool := q.done + 1 == lengthOf q.lenCode

/-! ## Word order (R27) -/

/-- The word after its window's order is applied (R27). -/
def orderWord : WordOrder → Word → Word
  | .native, w => w
  | .swapped, w => ofHalves (lowHalf w) (highHalf w)

/-- The byte-enables after the order is applied: they exchange with the data (R27). -/
def orderEnables : WordOrder → Enables → Enables
  | .native, e => e
  | .swapped, e => e.extractLsb' 0 2 ++ e.extractLsb' 2 2

/-- Whether the beat enables at least one byte of the code half (Table 2.2). -/
def touchesCode (order : WordOrder) (e : Enables) : Bool :=
  (orderEnables order e).getLsbD 0 || (orderEnables order e).getLsbD 1

/-- Whether the beat enables both bytes of the code half (Table 2.2). -/
def coversCode (order : WordOrder) (e : Enables) : Bool :=
  (orderEnables order e).getLsbD 0 && (orderEnables order e).getLsbD 1

/-- The code half of a fader word (R27). -/
def codeHalf (order : WordOrder) (w : Word) : Code := lowHalf (orderWord order w)

/-- The word a POSITION writes: its code in the code half (R27). -/
def codeWord (order : WordOrder) (code : Code) : Word := orderWord order (ofHalves 0#16 code)

/-- The byte-enables of a POSITION: the two bytes of the code half (Table 1.3). -/
def codeEnables : WordOrder → Enables
  | .native => 0b0011#4
  | .swapped => 0b1100#4

/-- The enabled bytes of `new` over `old`. -/
def mergeBytes (e : Enables) (old new : Word) : Word :=
  (if e.getLsbD 3 then new.extractLsb' 24 8 else old.extractLsb' 24 8) ++
  (if e.getLsbD 2 then new.extractLsb' 16 8 else old.extractLsb' 16 8) ++
  (if e.getLsbD 1 then new.extractLsb' 8 8 else old.extractLsb' 8 8) ++
  (if e.getLsbD 0 then new.extractLsb' 0 8 else old.extractLsb' 0 8)

/-- The code a fader beat gives, if it gives one: the full code half, or one byte merged into a SEEN
channel's image code (R33, R35). -/
def beatCode (order : WordOrder) (image : Option Code) (w : Word) (e : Enables) : Option Code :=
  let half := codeHalf order w
  let bytes := orderEnables order e
  match bytes.getLsbD 1, bytes.getLsbD 0 with
  | true, true => some half
  | true, false => image.map fun old => half.extractLsb' 8 8 ++ old.extractLsb' 0 8
  | false, true => image.map fun old => old.extractLsb' 8 8 ++ half.extractLsb' 0 8
  | false, false => none

/-! ## Command arguments (R193, R194) -/

/-- The bits `lo` to `lo + n - 1` of an argument. -/
def argField (arg : BitVec 16) (lo n : Nat) : Nat := (arg.extractLsb' lo n).toNat

/-- The strip named by bits 7 to 0 of an argument, if the index is at most 31 (R193). -/
def argStrip (arg : BitVec 16) : Option StripId :=
  if h : argField arg 0 8 < 32 then some ⟨argField arg 0 8, h⟩ else none

/-- The strips named by an argument of a command that accepts bit 15: all of them, in strip order, when it is
set, or the one of bits 7 to 0 (R193). -/
def argStrips (arg : BitVec 16) : Option (List StripId) :=
  if arg.getLsbD 15 then some (List.finRange 32) else (argStrip arg).map fun i => [i]

/-- The layer an argument names, if it is at most 3 (R123, R126). -/
def argLayer (arg : BitVec 16) : Option LayerId :=
  if h : arg.toNat < 4 then some ⟨arg.toNat, h⟩ else none

/-- The mode of a mode code (Table 4.4). -/
def modeOfCode : Nat → Option Mode
  | 0 => some .parked
  | 1 => some .read
  | 2 => some .touch
  | 3 => some .latch
  | 4 => some .write
  | _ => none

/-- The code of a mode (Table 4.4). -/
def Mode.code : Mode → Nat
  | .parked => 0
  | .read => 1
  | .touch => 2
  | .latch => 3
  | .write => 4

/-- The code of a motion state (Table 4.2). -/
def Motion.code : Motion → Nat
  | .parked => 0
  | .idle => 1
  | .queued => 2
  | .moving => 3
  | .settling => 4
  | .touched => 5
  | .latched => 6
  | .calibrating => 7
  | .stalled => 8

/-! ## Staging and settings words (Table 11.4) -/

/-- A staged window descriptor's fields as they stand, the kind and the order as codes (Table 11.4). -/
structure RawWindow where
  kind : Nat
  order : Nat
  base : Nat
  size : Nat
  first : Nat
deriving DecidableEq, Repr

/-- Descriptor `n` of the staged copy: four words at 4n (R26, Table 11.4). -/
def rawWindow (staged : Vector Word 64) (n : Fin 16) : RawWindow where
  kind := ((staged[4 * n.val]'(by omega)).extractLsb' 0 8).toNat
  order := ((staged[4 * n.val]'(by omega)).extractLsb' 8 8).toNat
  base := (staged[4 * n.val + 1]'(by omega)).toNat
  size := (staged[4 * n.val + 2]'(by omega)).toNat
  first := (staged[4 * n.val + 3]'(by omega)).toNat

/-- The descriptor of a staged window that has passed validation (Table 11.4). -/
def RawWindow.window (d : RawWindow) : Window where
  kind := if d.kind = 1 then .fader else if d.kind = 2 then .meter else .unused
  base := d.base
  size := d.size
  order := if d.order = 1 then .swapped else .native
  first := d.first

/-- A staged taper breakpoint: travel in the low half, level in the high half (R43). -/
def rawBreakpoint (w : Word) : Breakpoint := ⟨(lowHalf w).toNat, (highHalf w).toInt⟩

/-- A staged layer entry: a channel, NONE (0xFFFF), or neither, in bits 15 to 0 (Table 11.4). -/
def rawLayerEntry (w : Word) : Option (Option ChanId) :=
  if h : (lowHalf w).toNat < 256 then some (some ⟨(lowHalf w).toNat, h⟩)
  else if (lowHalf w) = 0xFFFF#16 then some none
  else none

/-- The policy of a settings word; the code 3 is taken as NEVER (R189, Table 11.4). -/
def policyOfWord (w : Word) : Policy :=
  match (w.extractLsb' 8 2).toNat with
  | 0 => .errorThreshold
  | 1 => .onWake
  | _ => .never

/-- The profile number of meter channel `k` in the staged map (R182, Table 11.4). -/
def rawMapEntry (staged : Vector Word 4) (k : MeterId) : Fin 4 :=
  ((staged[k.val / 16]'(by omega)).extractLsb' (2 * (k.val % 16)) 2).toFin

/-- A value as a 16-bit field of an event or a result (Table 11.3, Table 11.5). -/
def field16 (n : Nat) : BitVec 16 := BitVec.ofNat 16 n

/-- A shown channel as a 16-bit value, 256 for NONE (section 7.2). -/
def chanValue : Option ChanId → BitVec 16
  | some c => field16 c.val
  | none => field16 256

end Sys2Proof.Machine
end

