-- ==== Sys2Proof/Machine/Ops.lean ====
section
/-!
DEFINITION. The shared operations: reading and changing the parts of the state, the injection queue (R11 to
R15), status words, results, attention causes and events (R191 to R206).
-/

namespace Sys2Proof.Machine

open Sys2Proof

/-- The outcome of every meaning. -/
abbrev Result := Host.Outcome State Fault Refusal

/-- A step of the running part. While PORESET_N is low nothing happens (R3, R87). -/
def live (f : State → State) (s : State) : Result := .next (if s.inReset then s else f s)

/-! ## Reading and changing the state -/

/-- The record of a strip. -/
def State.strip (s : State) (i : StripId) : Strip := s.strips[i.val]

/-- The record of a channel. -/
def State.chan (s : State) (c : ChanId) : ChanRec := s.chans[c.val]

/-- The rail of a group. -/
def State.rail (s : State) (g : GroupId) : Rail := s.drive.rails[g.val]

/-- A live parameter as it stands (R189). -/
def State.param (s : State) (p : Param) : Nat := s.ctl.params[p.index.val]

/-- CONTROL_BASE: the strap value times 0x200000 (3.1). -/
def State.controlBase (s : State) : Nat := s.strap.toNat * 0x200000

/-- Change one strip's record. -/
def State.modStrip (s : State) (i : StripId) (f : Strip → Strip) : State :=
  { s with strips := s.strips.set i.val (f (s.strip i)) }

/-- Change one channel's record. -/
def State.setChan (s : State) (c : ChanId) (k : ChanRec) : State :=
  { s with chans := s.chans.set c.val k }

/-- Change the image port. -/
def State.modPort (s : State) (f : ImagePort → ImagePort) : State := { s with port := f s.port }

/-- Change the control unit. -/
def State.modCtl (s : State) (f : Control → Control) : State := { s with ctl := f s.ctl }

/-- Change the taper unit. -/
def State.modTaper (s : State) (f : TaperUnit → TaperUnit) : State := { s with taper := f s.taper }

/-- Change the drive supervisor. -/
def State.modDrive (s : State) (f : DriveSup → DriveSup) : State := { s with drive := f s.drive }

/-- Change the meter engine. -/
def State.modMeter (s : State) (f : MeterEngine → MeterEngine) : State := { s with meter := f s.meter }

/-- Set the rail of a group. -/
def State.setRail (s : State) (g : GroupId) (r : Rail) : State :=
  s.modDrive fun d => { d with rails := d.rails.set g.val r }

/-- The clock comes to a moment, if it has not passed it (entry 2). -/
def State.reach (s : State) (moment : Nat) : State := { s with clock := max s.clock moment }

/-- The strips in strip order, S0 first (R193). -/
def allStrips : List StripId := List.finRange 32

/-- Do a work for each of some strips, in order. -/
def State.forStrips (s : State) (l : List StripId) (f : StripId → State → State) : State :=
  l.foldl (fun t i => f i t) s

/-- The strip that shows a channel (R54, R124). -/
def State.shownBy (s : State) (c : ChanId) : Option StripId :=
  allStrips.find? fun i => (s.strip i).shown == some c

/-! ## The injection queue (R11 to R17) -/

/-- Whether an entry is a POSITION. -/
def InjEntry.isPosition (e : InjEntry) : Bool :=
  match e.body with
  | .position _ _ _ => true
  | _ => false

/-- Whether an entry is a FETCH. -/
def InjEntry.isFetch (e : InjEntry) : Bool :=
  match e.body with
  | .fetch _ _ _ => true
  | _ => false

/-- Whether an entry is an EVENT. -/
def InjEntry.isEvent (e : InjEntry) : Bool :=
  match e.body with
  | .event _ _ => true
  | _ => false

/-- Whether an entry is the POSITION of a channel. -/
def InjEntry.isPositionOf (c : ChanId) (e : InjEntry) : Bool :=
  match e.body with
  | .position d _ _ => d == c
  | _ => false

/-- Whether an entry is the FETCH of a channel. -/
def InjEntry.isFetchOf (c : ChanId) (e : InjEntry) : Bool :=
  match e.body with
  | .fetch d _ _ => d == c
  | _ => false

/-- Whether an entry is the STATUS of a status word. -/
def InjEntry.isStatusOf (w : StatusWord) (e : InjEntry) : Bool :=
  match e.body with
  | .status x _ => x == w
  | _ => false

/-- Append an entry at the tail, with the next place in the creation order (R11). -/
def State.pushEntry (s : State) (addr : Nat) (body : InjBody) : State :=
  s.modPort fun p =>
    { p with queue := p.queue ++ [⟨p.nextStamp, addr, body⟩], nextStamp := p.nextStamp + 1 }

/-- The control-area offset of a status word (Table 1.3). -/
def StatusWord.offset : StatusWord → Nat
  | .result => 0x001
  | .summary => 0x002
  | .producer => 0x007
  | .counters => 0x009

/-- Request a STATUS entry with the word's value now: an unissued entry for the word is removed and the new one
appended at the tail (R14). The removal of SYNC's awaited entries is judged by `syncCheck`. -/
def State.pushStatus (s : State) (w : StatusWord) : State :=
  (s.modPort fun p => { p with queue := p.queue.filter fun e => !e.isStatusOf w }).pushEntry
    (s.controlBase + w.offset) (.status w (s.ctl.statusValue w))

/-- The RESULT word of a tag, a result code and a value (Table 11.3). -/
def resultWord (tag : BitVec 8) (code : BitVec 8) (value : BitVec 16) : Word := value ++ (code ++ tag)

/-- Result codes (Table 11.3). -/
inductive ResultCode where
  | done
  | busy
  | badArgument
  | invalidTable
  | unknownCommand
deriving DecidableEq, Repr

/-- The number of a result code (Table 11.3). -/
def ResultCode.number : ResultCode → BitVec 8
  | .done => 1#8
  | .busy => 2#8
  | .badArgument => 3#8
  | .invalidTable => 4#8
  | .unknownCommand => 5#8

/-- Whether an entry that SYNC waits for still stands: one created before its point (R199). -/
def State.awaits (s : State) (point : Nat) : Bool := s.port.queue.any fun e => e.stamp < point

/-- Set RESULT, request its entry, set the COMMAND cause and request SUMMARY when that changes the cause set (R192). -/
def State.putResult (s : State) (tag : BitVec 8) (code : ResultCode) (value : BitVec 16) : State :=
  let t := (s.modCtl fun c => { c with result := resultWord tag code.number value }).pushStatus .result
  let u := t.modCtl fun c => { c with commandCause := true }
  if s.ctl.commandCause then u else u.pushStatus .summary

/-- SYNC completes at the moment no entry it waits for remains in the injection queue (R199). -/
def State.syncCheck (s : State) : State :=
  match s.ctl.busy with
  | some (.sync tag point count) =>
    if s.awaits point then s
    else (s.modCtl fun c => { c with busy := none }).putResult tag .done (field16 count)
  | _ => s

/-- Request a STATUS entry (R14); a SYNC that waited for the entry removed may complete (R199). -/
def State.requestStatus (s : State) (w : StatusWord) : State := (s.pushStatus w).syncCheck

/-- Answer a command with one RESULT (R192). -/
def State.writeResult (s : State) (tag : BitVec 8) (code : ResultCode) (value : BitVec 16) : State :=
  (s.putResult tag code value).syncCheck

/-- Request SUMMARY when the cause set differs from an earlier one (R200). -/
def State.noteCauses (s : State) (before : Word) : State :=
  if s.ctl.summaryWord = before then s else s.requestStatus .summary

/-- Change the control unit, and request SUMMARY when the cause set changes by it (R200). -/
def State.modCauses (s : State) (f : Control → Control) : State :=
  (s.modCtl f).noteCauses s.ctl.summaryWord

/-- Keep the entries that pass, in their order. The guard count returns to 0 when the queue becomes empty by this (R19), and
a SYNC that waited for an entry that left may complete (R199). -/
def State.keepEntries (s : State) (keep : InjEntry → Bool) : State :=
  (s.modPort fun p =>
    { p with
      queue := p.queue.filter keep
      guardCount :=
        if !p.queue.isEmpty && (p.queue.filter keep).isEmpty then 0 else p.guardCount }).syncCheck

/-! ## Events (R203, R205) -/

/-- Event kinds (Table 11.7). -/
inductive EventKind where
  | touchOn
  | touchOff
  | fstartOn
  | fstartOff
  | stall
  | calDone
  | calFail
  | layerDone
  | layerApplied
  | unmapped
  | over
  | parityError
  | fetchError
  | writebackError
deriving DecidableEq, Repr

/-- The code of an event kind (Table 11.7). -/
def EventKind.code : EventKind → BitVec 8
  | .touchOn => 1#8
  | .touchOff => 2#8
  | .fstartOn => 3#8
  | .fstartOff => 4#8
  | .stall => 5#8
  | .calDone => 6#8
  | .calFail => 7#8
  | .layerDone => 8#8
  | .layerApplied => 9#8
  | .unmapped => 10#8
  | .over => 11#8
  | .parityError => 12#8
  | .fetchError => 13#8
  | .writebackError => 14#8

/-- The address of ring slot `n` (R202). -/
def Control.slotAddr (c : Control) (n : Nat) : Nat := (c.ringBase + 2 * n) % Config.addressSpace

/-- Word 0 of an event record (Table 11.5). -/
def eventWord0 (kind : EventKind) (index : BitVec 8) (serial : BitVec 16) : Word :=
  serial ++ (index ++ kind.code)

/-- Word 1 of an event record (Table 11.5). -/
def eventWord1 (value : BitVec 16) (time : BitVec 16) : Word := time ++ value

/-- The index after one advance of the ring (R203). -/
def Control.nextProducer (c : Control) : Nat := (c.producer + 1) % c.ringCapacity

/-- Whether a created event would be lost: the ring is full, or 12 EVENT entries are unissued (R203). -/
def State.eventWouldBeLost (s : State) : Bool :=
  s.ctl.nextProducer == s.ctl.consumer || Config.eventLimit ≤ s.port.queue.countP InjEntry.isEvent

/-- Count an event as lost: the count saturates, COUNTERS is requested when it changes, LOST is set (R203, R205). -/
def State.loseEvent (s : State) : State :=
  let t :=
    if s.ctl.lostCount < 65535 then
      (s.modCtl fun c => { c with lostCount := c.lostCount + 1 }).requestStatus .counters
    else s
  t.modCauses fun c => { c with lostCause := true }

/-- Deliver an event with its serial: its EVENT entry, then the producer's advance and PRODUCER, then SUMMARY when EVENTS
joins the cause set (R203). -/
def State.deliverEvent (s : State) (kind : EventKind) (index : BitVec 8) (value serial : BitVec 16) :
    State :=
  let t := s.pushEntry (s.ctl.slotAddr s.ctl.producer)
    (.event (eventWord0 kind index serial) (eventWord1 value s.ctl.time))
  let u := (t.modCtl fun c => { c with producer := c.nextProducer }).requestStatus .producer
  if s.ctl.eventsCause then u else u.requestStatus .summary

/-- Create an event: it takes a serial, and is discarded, lost or delivered (R203). -/
def State.createEvent (s : State) (kind : EventKind) (index : BitVec 8) (value : BitVec 16) : State :=
  let t := s.modCtl fun c => { c with serial := c.serial + 1#16 }
  if s.ctl.ringCapacity = 0 then t
  else if s.eventWouldBeLost then t.loseEvent
  else t.deliverEvent kind index value s.ctl.serial

/-- Create an event whose index is a strip. -/
def State.stripEvent (s : State) (kind : EventKind) (i : StripId) (value : BitVec 16) : State :=
  s.createEvent kind (BitVec.ofNat 8 i.val) value

/-- Set the FAULT cause (R97, R163). -/
def State.setFault (s : State) : State := s.modCauses fun c => { c with faultCause := true }

end Sys2Proof.Machine
end

