-- ==== Sys2Proof/Machine/Meter.lean ====
section
/-!
DEFINITION. The meter engine: frames (R172 to R180), the shift (R181), LOAD_METER_SETUP (R183, R184) and its part of
SURFACE_RESET (R187). Captures are taken by the image port's beats (R170).
-/

namespace Sys2Proof.Machine

open Sys2Proof

/-! ## The input step (R174) -/

/-- From `k` up, the first coarse attenuation that rounds to itself: `target ≤ p`, where `p` is `m ^ 640 * 10 ^ (2 * k + 1)`
and `target` is `8388608 ^ 640` (R174). -/
def attenuationFrom (target : Nat) : Nat → Nat → Nat → Nat
  | 0, k, _ => k
  | fuel + 1, k, p => if target ≤ p then k else attenuationFrom target fuel (k + 1) (p * 100)

/-- The attenuation of a clamped magnitude from full scale in coarse units: `320 * log10 (8388608 / m)` rounded to the nearest, an exact half
downward; it is at most `k` exactly when `8388608 ^ 640 ≤ m ^ 640 * 10 ^ (2 * k + 1)` (R174). -/
def attenuation (m : Nat) : Nat :=
  attenuationFrom ((Config.fullScale ^ 128) ^ 5) 1920 0 ((m ^ 128) ^ 5 * 10)

/-- The input level of a capture in coarse units (R174). -/
def inputLevel (capture : Nat) : Int :=
  if capture = 0 then Config.floorCoarse else -(attenuation (min capture Config.fullScale) : Int)

/-- The input step: the level I, and the record with its capture used (R174). -/
def MeterRec.input (k : MeterRec) : Int × MeterRec :=
  match k.capture with
  | some c => (inputLevel c, { k with capture := none, staleCount := 0, stale := false })
  | none => (Config.floorCoarse, { k with staleCount := min (k.staleCount + 1) 255 })

/-! ## Ballistics, peak, over and stale steps (R175 to R179) -/

/-- The ballistics step, for an input J in fine units (R175). -/
def MeterRec.ballistics (f : Profile) (j : Int) (k : MeterRec) : MeterRec :=
  if k.level < j then { k with level := k.level + floorDiv ((j - k.level) * f.attack + 255) 256 }
  else { k with level := max j (k.level - f.decay) }

/-- Whether the peak step drops the peak to the bar (R177). -/
def MeterRec.peakDrops (k : MeterRec) : Bool := decide (k.level < k.peak) && k.hold == 0

/-- The peak step (R177). -/
def MeterRec.peakStep (f : Profile) (k : MeterRec) : MeterRec :=
  if k.peak ≤ k.level then { k with peak := k.level, hold := f.hold }
  else if 0 < k.hold then { k with hold := k.hold - 1 }
  else { k with peak := k.level }

/-- The over run after a frame with input I (R178, step 1). -/
def MeterRec.runAfter (f : Profile) (i : Int) (k : MeterRec) : Nat :=
  if f.overLevel ≤ i then min (k.overRun + 1) 16 else 0

/-- Whether the over step lights the lamp anew (R178, step 2). -/
def MeterRec.lights (f : Profile) (i : Int) (k : MeterRec) : Bool :=
  !k.stale && f.overCount ≤ k.runAfter f i && k.overLatch == 0

/-- The over step (R178). -/
def MeterRec.overStep (f : Profile) (i : Int) (k : MeterRec) : MeterRec :=
  if k.stale then k
  else if f.overCount ≤ k.runAfter f i then { k with overRun := k.runAfter f i, overLatch := f.overHold }
  else { k with overRun := k.runAfter f i, overLatch := k.overLatch - 1 }

/-- Whether the stale step makes the channel STALE (R179). -/
def MeterRec.goesStale (limit : Nat) (k : MeterRec) : Bool := !k.stale && limit ≤ k.staleCount

/-- The stale step (R179). -/
def MeterRec.staleStep (limit : Nat) (k : MeterRec) : MeterRec :=
  if k.goesStale limit then
    { k with
      stale := true, level := Config.floorFine, peak := Config.floorFine, hold := 0, overRun := 0
      overLatch := 0 }
  else k

/-! ## One channel through a frame (R173, R180) -/

/-- The record after the input and ballistics steps, with the input level (R174, R175). -/
def MeterRec.rise (f : Profile) (k : MeterRec) : Int × MeterRec :=
  (k.input.1, k.input.2.ballistics f (16 * k.input.1))

/-- The record as the over step finds it (R177). -/
def MeterRec.beforeOver (f : Profile) (k : MeterRec) : MeterRec := (k.rise f).2.peakStep f

/-- The record as the stale step finds it (R178). -/
def MeterRec.beforeStale (f : Profile) (k : MeterRec) : MeterRec :=
  (k.beforeOver f).overStep f k.input.1

/-- The number of thresholds at or below a level (R180). -/
def segments (scale : Vector Int 48) (level : Int) : Nat :=
  scale.toList.countP fun t => t ≤ floorDiv level 16

/-- The output of a record (R180). -/
def MeterRec.output (scale : Vector Int 48) (k : MeterRec) : MeterOut :=
  if k.stale then ⟨0, 0, false⟩
  else ⟨segments scale k.level, segments scale k.peak, decide (0 < k.overLatch)⟩

/-- The record after the five steps of a frame (R173, step 2). -/
def MeterRec.frame (f : Profile) (limit : Nat) (k : MeterRec) : MeterRec :=
  (k.beforeStale f).staleStep limit

/-- The profile of a channel in the active setup (R173). -/
def MeterEngine.profileOf (e : MeterEngine) (k : MeterId) : Profile :=
  e.active.profiles[(e.active.map[k.val]).val]

/-- The record of a meter channel. -/
def State.meterRec (s : State) (k : MeterId) : MeterRec := s.meter.recs[k.val]

/-- Set the record of a meter channel. -/
def State.setMeterRec (s : State) (k : MeterId) (r : MeterRec) : State :=
  s.modMeter fun e => { e with recs := e.recs.set k.val r }

/-- A frame's processing of one channel: its record, and OVER with the input level when its lamp lights (R173, R178). Table 11.5 makes a value signed when
it is a level code; that the meter's input level, which is none, is written as 16-bit two's complement is the model's choice (DESIGN CHOICE, entry 36). -/
def State.frameChannel (s : State) (k : MeterId) : State :=
  let r := s.meterRec k
  let f := s.meter.profileOf k
  let t := s.setMeterRec k (r.frame f (s.param .staleLimit))
  if (r.beforeOver f).lights f r.input.1 then
    t.createEvent .over (BitVec.ofNat 8 k.val) (BitVec.ofInt 16 r.input.1)
  else t

/-- The meter channels in order, M0 first (R173). -/
def allMeters : List MeterId := List.finRange 64

/-! ## The shift (R181) -/

/-- The low six bits of a number, most significant first (Table 10.3). -/
def sixBits (n : Nat) : List Bool :=
  [n.testBit 5, n.testBit 4, n.testBit 3, n.testBit 2, n.testBit 1, n.testBit 0]

/-- The thirteen bits of an output, in the order of shifting (Table 10.3). -/
def MeterOut.bits (o : MeterOut) : List Bool := o.lamp :: (sixBits o.dot ++ sixBits o.bar)

/-- The bits of a frame, M0 first (R181). -/
def MeterEngine.frameBits (e : MeterEngine) : List Bool :=
  e.recs.toList.flatMap fun r => r.out.bits

/-- The length of a shift with its latch pulse (R181). -/
def shiftTime : Nat := 833 * Config.us

/-- A shift ends: the drivers take the frame, and the chain is idle (R181). -/
def MeterEngine.endShift (e : MeterEngine) : MeterEngine :=
  match e.shift with
  | some h => { e with driven := some h.bits, shift := none }
  | none => e

/-- The shift in progress ends 833 us after it began (R181). -/
def State.finishShift (s : State) : State :=
  match s.meter.shift with
  | some h => (s.reach (h.start + shiftTime)).modMeter MeterEngine.endShift
  | none => s

/-! ## A frame (R172, R173) -/

/-- Step 1 of a frame: a pending setup becomes active (R173, R186). -/
def MeterEngine.applySetup (e : MeterEngine) : MeterEngine :=
  match e.waiting with
  | some w => { e with active := w, waiting := none }
  | none => e

/-- The frame timer comes due: its next expiry is one frame period after this one (R172), and the shift of the frame before has ended (R181);
then step 1 of the frame (R173). -/
def State.openFrame (s : State) : State :=
  let t := s.finishShift.reach s.meter.frameDue
  t.modMeter fun e =>
    { e.applySetup with frameDue := e.frameDue + s.param .framePeriod * Config.ms }

/-- Step 3 of a frame: every channel's output (R180). -/
def MeterEngine.computeOutputs (e : MeterEngine) : MeterEngine :=
  { e with recs := e.recs.map fun r => { r with out := r.output e.active.scale } }

/-- Step 4 of a frame: the shift begins (R181). -/
def MeterEngine.beginShift (e : MeterEngine) (clock : Nat) : MeterEngine :=
  { e with shift := some ⟨e.frameBits, clock⟩ }

/-- A frame expiry (R173). -/
def State.frame (s : State) : State :=
  let t := allMeters.foldl State.frameChannel s.openFrame
  t.modMeter fun e => e.computeOutputs.beginShift t.clock

/-- Whether the frame drops the channel's peak to its bar, its hold count run out (R177). -/
def State.peakEnds (s : State) (k : MeterId) : Bool :=
  ((s.meterRec k).rise (s.meter.profileOf k)).2.peakDrops

/-- Whether the frame counts the channel's over latch down to 0 (R178). -/
def State.latchEnds (s : State) (k : MeterId) : Bool :=
  let f := s.meter.profileOf k
  0 < (s.meterRec k).overLatch && ((s.meterRec k).beforeStale f).overLatch == 0

/-- Whether the frame makes the channel STALE (R179). -/
def State.entersStale (s : State) (k : MeterId) : Bool :=
  ((s.meterRec k).beforeStale (s.meter.profileOf k)).goesStale (s.param .staleLimit)

/-! ## LOAD_METER_SETUP (R183, R184) -/

/-- The range of a profile field, in the order of Table 10.4. -/
def profileRange : Nat → Int × Int
  | 0 => (1, 256)
  | 1 => (0, 4096)
  | 2 => (0, 1000)
  | 3 => (-1920, 0)
  | 4 => (1, 16)
  | _ => (1, 1000)

/-- Whether a staged profile word offends (R183). -/
def MeterEngine.profileOffends (e : MeterEngine) (k : Fin 24) : Bool :=
  let v := (e.stagedProfiles[k.val]).toInt
  let range := profileRange (k.val % 6)
  v < range.1 || range.2 < v

/-- Whether a staged threshold offends; `k` counts from 0 (R183). -/
def MeterEngine.scaleOffends (e : MeterEngine) (k : Fin 48) : Bool :=
  let v := (e.stagedScale[k.val]).toInt
  v < -1919 || 0 < v || (0 < k.val && decide (v ≤ (e.stagedScale[k.val - 1]'(by omega)).toInt))

/-- The offset of the first staged word that offends, in offset order (R183). -/
def MeterEngine.firstOffence (e : MeterEngine) : Option Nat :=
  match (List.finRange 24).find? e.profileOffends with
  | some k => some (0x180 + k.val)
  | none => ((List.finRange 48).find? e.scaleOffends).map fun k => 0x1A0 + k.val

/-- A staged word of a profile, by profile and field. -/
def MeterEngine.field (e : MeterEngine) (p : Fin 4) (f : Fin 6) : Int :=
  (e.stagedProfiles[6 * p.val + f.val]'(by omega)).toInt

/-- A staged profile that has passed validation (Table 10.4). -/
def MeterEngine.stagedProfile (e : MeterEngine) (p : Fin 4) : Profile where
  attack := (e.field p 0).toNat
  decay := (e.field p 1).toNat
  hold := (e.field p 2).toNat
  overLevel := e.field p 3
  overCount := (e.field p 4).toNat
  overHold := (e.field p 5).toNat

/-- The staged setup, for words that do not offend (R184). -/
def MeterEngine.stagedSetup (e : MeterEngine) : MeterSetup where
  profiles := Vector.ofFn e.stagedProfile
  map := Vector.ofFn fun k => rawMapEntry e.stagedMap k
  scale := e.stagedScale.map BitVec.toInt

/-- LOAD_METER_SETUP (R183, R184). -/
def State.loadMeterSetup (s : State) (tag : BitVec 8) : State :=
  match s.meter.firstOffence with
  | some offset => s.writeResult tag .invalidTable (field16 offset)
  | none =>
    (s.modMeter fun e => { e with waiting := some e.stagedSetup }).writeResult tag .done
      (if s.meter.waiting.isSome then 1#16 else 0#16)

/-! ## SURFACE_RESET (R187) -/

/-- A record at SURFACE_RESET (R187). -/
def MeterRec.surfaceReset (k : MeterRec) : MeterRec :=
  { k with
    level := Config.floorFine, peak := Config.floorFine, hold := 0, overRun := 0, overLatch := 0 }

/-- The meter engine at SURFACE_RESET (R187). -/
def MeterEngine.surfaceReset (e : MeterEngine) : MeterEngine :=
  { e with recs := e.recs.map MeterRec.surfaceReset }

/-! ## Commands -/

/-- FRAME_EXPIRY (R173). -/
def execFrameExpiry (s : State) : Result := live State.frame s

/-- PEAK_HOLD_END: the frame in which a channel's peak drops to its bar (R177, entry 4). -/
def execPeakHoldEnd (k : MeterId) (s : State) : Result :=
  live (fun s => if s.openFrame.peakEnds k then s.frame else s) s

/-- OVER_LATCH_END: the frame in which a channel's over latch reaches 0 (R178, entry 4). -/
def execOverLatchEnd (k : MeterId) (s : State) : Result :=
  live (fun s => if s.openFrame.latchEnds k then s.frame else s) s

/-- STALE_ENTRY: the frame in which a channel becomes STALE (R179, entry 4). -/
def execStaleEntry (k : MeterId) (s : State) : Result :=
  live (fun s => if s.openFrame.entersStale k then s.frame else s) s

/-- METER_SHIFT_END (R181). -/
def execMeterShiftEnd (s : State) : Result := live State.finishShift s

end Sys2Proof.Machine
end

