-- ==== Sys2Proof/Machine/Motion.lean ====
section
/-!
DEFINITION. The strip records: motion states, the start queue's entries, target arrival and holds (04), and what
recalibration pending does (R157).
-/

namespace Sys2Proof.Machine

open Sys2Proof

/-! ## Questions about a strip -/

/-- READ, TOUCH and LATCH are the motorised modes (4.3). -/
def Mode.motorised : Mode → Bool
  | .read => true
  | .touch => true
  | .latch => true
  | .parked => false
  | .write => false

/-- The states in which the motor is driven (Table 4.2). -/
def Motion.driven : Motion → Bool
  | .moving => true
  | .settling => true
  | .calibrating => true
  | .parked => false
  | .idle => false
  | .queued => false
  | .touched => false
  | .latched => false
  | .stalled => false

/-- The states that keep a group active (R138). -/
def Motion.active (m : Motion) : Bool := m == .queued || m.driven

/-- A strip is operator-owned when its touch is accepted in TOUCH, LATCH or WRITE, when it is LATCHED, or when its
mode is WRITE (R67). -/
def Strip.operatorOwned (p : Strip) : Bool :=
  (p.touched && (p.mode == .touch || p.mode == .latch || p.mode == .write)) ||
  p.motion == .latched || p.mode == .write

/-- Ready to calibrate: a motorised mode and no touch accepted (R157). -/
def Strip.ready (p : Strip) : Bool := p.mode.motorised && !p.touched

/-- Whether a travel is within deadband of the measured travel (R73). -/
def State.withinDeadband (s : State) (i : StripId) (travel : Nat) : Bool :=
  dist travel (s.strip i).m ≤ s.param .deadband

/-- Code retention holds: a target, set by the shown channel, within deadband of m (R47). -/
def State.retained (s : State) (i : StripId) : Option Code :=
  match (s.strip i).target with
  | some t =>
    if (s.strip i).shown = some t.chan && dist (s.strip i).m t.travel ≤ s.param .deadband then
      some t.code
    else none
  | none => none

/-! ## Drive and motion state -/

/-- Set a drive; DIR keeps its last level while the drive is 0 (R95). -/
def Strip.setDrive (p : Strip) (d : Int) : Strip :=
  { p with drive := d, dirHigh := if d = 0 then p.dirHigh else decide (0 < d) }

/-- The fields that entering a state sets (R64, R65). -/
def Strip.enter (p : Strip) (dest : Motion) (time : BitVec 16) : Strip :=
  let q := { p with motion := dest, cal := if dest = .calibrating then p.cal else none }
  match dest with
  | .moving => q
  | .calibrating => q
  | .queued => q.setDrive 0
  | .settling => { q with settled := 0, settleStart := time, v := 0, speed := .normal }
  | .idle => { q with v := 0, latch := false }.setDrive 0
  | .latched => { q with v := 0 }.setDrive 0
  | .touched => { q with v := 0, speed := .normal }.setDrive 0
  | .stalled => { q with v := 0, speed := .normal }.setDrive 0
  | .parked => { q with v := 0, speed := .normal }.setDrive 0

/-- A group is active while a strip of it is QUEUED, MOVING, SETTLING or CALIBRATING (R138). -/
def State.groupActive (s : State) (g : GroupId) : Bool :=
  allStrips.any fun i => groupOf i == g && (s.strip i).motion.active

/-- Follow a change of a group's activity: an ON rail's idle start is set when the group becomes inactive and becomes absent when it
becomes active (R142). -/
def State.noteActivity (s : State) (g : GroupId) (before : Bool) : State :=
  match s.rail g with
  | .on idle =>
    if s.groupActive g then s.setRail g (.on none)
    else if before then s.setRail g (.on (some s.clock))
    else s.setRail g (.on idle)
  | .off => s
  | .waking _ => s

/-- Take a strip's entry out of the start queue (R146). -/
def State.dropStart (s : State) (i : StripId) : State :=
  s.modDrive fun d => { d with queue := d.queue.filter fun e => e.strip != i }

/-- A strip enters a motion state. Its start queue entry leaves when it leaves QUEUED (R65), and its group's activity is
followed (R142). -/
def State.enter (s : State) (i : StripId) (dest : Motion) : State :=
  let g := groupOf i
  let before := s.groupActive g
  let t := s.modStrip i fun p => p.enter dest s.ctl.time
  let u := if (s.strip i).motion = .queued ∧ dest ≠ .queued then t.dropStart i else t
  u.noteActivity g before

/-- A rail that is OFF begins to wake when an entry of its group joins (R139). -/
def State.wakeRail (s : State) (g : GroupId) : State :=
  match s.rail g with
  | .off => s.setRail g (.waking (s.clock + s.param .railWake * Config.ms))
  | .waking _ => s
  | .on _ => s

/-- A strip enters QUEUED: its entry is appended, and the rail wakes if it is OFF (R65, R139, R144). -/
def State.joinStart (s : State) (i : StripId) (purpose : Purpose) : State :=
  ((s.enter i .queued).modDrive fun d => { d with queue := d.queue ++ [⟨i, purpose⟩] }).wakeRail (groupOf i)

/-- The purpose of a strip's start queue entry, if it has one (R144). -/
def State.purposeOf (s : State) (i : StripId) : Option Purpose :=
  (s.drive.queue.find? fun e => e.strip == i).map StartEntry.purpose

/-- An entry's purpose becomes CALIBRATE in place (R145). -/
def State.toCalibrate (s : State) (i : StripId) : State :=
  s.modDrive fun d =>
    { d with queue := d.queue.map fun e => if e.strip = i then { e with purpose := .calibrate } else e }

/-! ## Recalibration pending (R157) -/

/-- A strip that enters IDLE, ready, with recal pending set, is queued to calibrate in the same event (R157). -/
def State.recalAtRest (s : State) (i : StripId) : State :=
  let p := s.strip i
  if p.motion = .idle ∧ p.ready ∧ p.recalPending then s.joinStart i .calibrate else s

/-- What the motion engine does on a strip whose recal pending flag is set: an IDLE strip that is ready is queued, and a
QUEUED strip of purpose MOVE has its purpose changed in place (R157). -/
def State.actOnRecal (s : State) (i : StripId) : State :=
  let p := s.strip i
  if p.motion = .queued then
    if p.mode.motorised ∧ s.purposeOf i = some .move then s.toCalibrate i else s
  else s.recalAtRest i

/-- Set recal pending and act on it (R156, R157). -/
def State.setRecal (s : State) (i : StripId) : State :=
  (s.modStrip i fun p => { p with recalPending := true }).actOnRecal i

/-- A strip enters IDLE, and is queued to calibrate if it is ready with recal pending set (R65, R157). -/
def State.rest (s : State) (i : StripId) : State := (s.enter i .idle).recalAtRest i

/-! ## Target arrival (R73 to R77) -/

/-- A strip at rest beyond deadband of its target is queued, to move or, without valid calibration, to calibrate (R73). -/
def State.queueMove (s : State) (i : StripId) : State :=
  s.joinStart i (if (s.strip i).calibration.isSome then .move else .calibrate)

/-- Whether `new` lies beyond `r` in the direction from `r` to the old target (R75). -/
def beyondInDirection (r old new : Nat) : Bool := (r < old && r < new) || (old < r && new < r)

/-- A target arrival at a MOVING strip: v is kept when the new target lies ahead, becomes 0 when it lies behind, and the
strip enters SETTLING when it equals r (R75). -/
def State.retarget (s : State) (i : StripId) (old new : Nat) : State :=
  let r := (s.strip i).r
  if new = r then s.enter i .settling
  else if beyondInDirection r old new then s
  else s.modStrip i fun p => { p with v := 0 }

/-- A target arrival: the target is recorded, and the strip acts by its state (R73 to R77). -/
def State.arrive (s : State) (i : StripId) (code : Code) (travel : Nat) (c : ChanId) : State :=
  let p := s.strip i
  let t := s.modStrip i fun q => { q with target := some ⟨code, travel, c⟩ }
  match p.motion with
  | .idle =>
    if p.mode.motorised && !s.withinDeadband i travel then t.queueMove i else t
  | .queued =>
    if s.purposeOf i = some .move && s.withinDeadband i travel then t.rest i else t
  | .moving => t.retarget i ((p.target.map Target.travel).getD p.r) travel
  | .settling =>
    if travel = p.r then t
    else (t.enter i .moving).modStrip i fun q => { q with v := 0 }
  | .touched => t
  | .latched => t
  | .calibrating => t
  | .stalled => t
  | .parked => t

/-! ## Holds (R78) -/

/-- A hold clears the strip's target and acts by its state (R78). -/
def State.hold (s : State) (i : StripId) : State :=
  let t := s.modStrip i fun q => { q with target := none }
  match (s.strip i).motion with
  | .queued => if s.purposeOf i = some .move then t.rest i else t
  | .moving => t.enter i .settling
  | .idle => t
  | .settling => t
  | .touched => t
  | .latched => t
  | .calibrating => t
  | .stalled => t
  | .parked => t

end Sys2Proof.Machine
end

