-- ==== Sys2Proof/Machine/Taper.lean ====
section
/-!
DEFINITION. The taper law (R42 to R46), the conversion queue and its slot wait list (R49 to R53).
-/

namespace Sys2Proof.Machine

open Sys2Proof

/-! ## The law -/

/-- Along one segment: `y0` plus the quotient, nearest with halves up, of `(x - x0) * (y1 - y0)` by `x1 - x0` (R44, R45). -/
def interpolate (x x0 x1 y0 y1 : Int) : Int := y0 + divNearest ((x - x0) * (y1 - y0)) (x1 - x0)

/-- The travel of a level by the segment with `l_i ≤ L < l_(i+1)`; at or above the last level, the last travel (R44). -/
def travelFrom (level : Int) : Breakpoint → List Breakpoint → Int
  | b, [] => b.travel
  | b, c :: rest =>
    if level < c.level then interpolate level b.level c.level b.travel c.travel
    else travelFrom level c rest

/-- LEVEL_TO_TRAVEL: OFF and levels at or below the lowest give 0, levels at or above the highest give 4095 (R44). -/
def levelToTravel (tp : Taper) (code : Code) : Nat :=
  let level := code.toInt
  if code = Config.off ∨ level ≤ tp[0].level then 0
  else if tp[16].level ≤ level then Config.travelTop
  else (travelFrom level tp[0] (tp.toList.drop 1)).toNat

/-- The level of a travel by the segment with `t_i < t ≤ t_(i+1)` (R45). -/
def levelFrom (travel : Nat) : Breakpoint → List Breakpoint → Int
  | b, [] => b.level
  | b, c :: rest =>
    if travel ≤ c.travel then interpolate travel b.travel c.travel b.level c.level
    else levelFrom travel c rest

/-- TRAVEL_TO_LEVEL: travel 0 gives OFF (R45). -/
def travelToLevel (tp : Taper) (travel : Nat) : Code :=
  if travel = 0 then Config.off
  else BitVec.ofInt 16 (levelFrom travel tp[0] (tp.toList.drop 1))

/-! ## The conversion queue -/

/-- The key of a request (Table 3.4). -/
def ConvWork.key : ConvWork → ConvKey
  | .levelToTravel c _ _ => .level c
  | .travelToLevel i _ _ => .readback i
  | .threshold i on _ => .threshold i on

/-- The started request of the queue: its head while a conversion runs (R49, R50). -/
def TaperUnit.started (u : TaperUnit) : List ConvReq :=
  match u.running with
  | some _ => u.queue.take 1
  | none => []

/-- The unstarted requests of the queue (R49). -/
def TaperUnit.unstarted (u : TaperUnit) : List ConvReq :=
  match u.running with
  | some _ => u.queue.drop 1
  | none => u.queue

/-- Whether an unstarted request has the key (R49). -/
def TaperUnit.hasUnstarted (u : TaperUnit) (k : ConvKey) : Bool :=
  u.unstarted.any fun r => r.work.key == k

/-- A new request replaces the input of an unstarted request of its key in place; the owner mark is kept, or set by an owned
request (R49). -/
def ConvReq.coalesce (new old : ConvReq) : ConvReq :=
  if old.work.key = new.work.key then ⟨new.work, old.owned || new.owned⟩ else old

/-- Start the head when the unit is idle, with the active table as it stands; it ends 1 us later (R50). -/
def State.startHead (s : State) : State :=
  match s.taper.running, s.taper.queue with
  | none, _ :: _ =>
    s.modTaper fun u => { u with running := some ⟨u.active, s.clock + 1 * Config.us⟩ }
  | none, [] => s
  | some _, _ => s

/-- Make a conversion request: it coalesces, is appended, or cannot be made (R49). A request appended to an empty queue is
started as soon as it is made (R50). -/
def State.convert (s : State) (q : ConvReq) : Option State :=
  if s.taper.hasUnstarted q.work.key then
    some (s.modTaper fun u => { u with queue := u.started ++ u.unstarted.map (ConvReq.coalesce q) })
  else if s.taper.queue.length < Config.conversionLimit then
    some (s.modTaper fun u => { u with queue := u.queue ++ [q] }).startHead
  else none

/-! ## The slot wait list -/

/-- The key of a waiter; a held beat is a waiter of no key (R52). -/
def Waiter.key : Waiter → Option ConvKey
  | .beat => none
  | .level c _ _ => some (.level c)
  | .threshold i on _ => some (.threshold i on)

/-- Whether a waiter carries the owner mark. -/
def Waiter.isOwned : Waiter → Bool
  | .beat => false
  | .level _ _ owned => owned
  | .threshold _ _ owned => owned

/-- Set a waiter's owner mark if `owned` holds. -/
def Waiter.own (owned : Bool) : Waiter → Waiter
  | .beat => .beat
  | .level c f o => .level c f (o || owned)
  | .threshold i on o => .threshold i on (o || owned)

/-- Whether a waiter of a key stands on the list (R52). -/
def TaperUnit.hasWaiter (u : TaperUnit) (k : ConvKey) : Bool :=
  u.waiters.any fun w => w.key == some k

/-- Join the slot wait list: a key that already waits keeps its waiter, which takes the owner mark (R52). -/
def State.wait (s : State) (w : Waiter) : State :=
  s.modTaper fun u =>
    match w.key with
    | some k =>
      if u.hasWaiter k then
        { u with waiters := u.waiters.map fun x => if x.key = some k then x.own w.isOwned else x }
      else { u with waiters := u.waiters ++ [w] }
    | none => { u with waiters := u.waiters ++ [w] }

/-- Make a request, or join the slot wait list when the queue is full (R52). -/
def State.convertOrWait (s : State) (q : ConvReq) (w : Waiter) : State :=
  match s.convert q with
  | some t => t
  | none => s.wait w

/-- The code a strip takes from a channel: the processor code if present, and the image code otherwise (R83, R129). -/
def ChanRec.codeToFollow (k : ChanRec) : Option Code :=
  match k.proc with
  | some code => some code
  | none => k.image

/-- The LEVEL_TO_TRAVEL request an adoption, a change of mode, UNLATCH or a re-seat makes for a SEEN channel (R59, R83, R129). -/
def State.convertChannel (s : State) (c : ChanId) (owned : Bool) : State :=
  match (s.chan c).image, (s.chan c).codeToFollow with
  | some _, some code =>
    s.convertOrWait ⟨.levelToTravel c code (s.chan c).seq, owned⟩ (.level c false owned)
  | _, _ => s

/-- The strip's code for a threshold key: its ON code or its OFF code (R46). -/
def Strip.thresholdCode (p : Strip) (on : Bool) : Code := if on then p.onCode else p.offCode

/-- A THRESHOLD request of a strip, with its code as it stands (R46, R52). -/
def State.convertThreshold (s : State) (i : StripId) (on owned : Bool) : State :=
  s.convertOrWait ⟨.threshold i on ((s.strip i).thresholdCode on), owned⟩ (.threshold i on owned)

end Sys2Proof.Machine
end

