-- ==== Sys2Proof/Machine/Channels.lean ====
section
/-!
DEFINITION. Homes, POSITION and FETCH requests, passing fader beats and their hand-off (R12, R13, R28, R33 to R40, R68 to R71).
-/

namespace Sys2Proof.Machine

open Sys2Proof

/-! ## Homes (R28) -/

/-- Whether a window serves a fader channel. -/
def Window.serves (w : Window) (c : ChanId) : Bool :=
  w.kind == .fader && decide (w.first ≤ c.val ∧ c.val < w.first + w.size)

/-- The home of a channel under a set of windows: its address and word order (R28). -/
def homeIn (ws : Vector Window 16) (c : ChanId) : Option (Nat × WordOrder) :=
  (ws.toList.find? fun w => w.serves c).map fun w => (w.base + (c.val - w.first), w.order)

/-- The home of a channel now (R28). -/
def State.home (s : State) (c : ChanId) : Option (Nat × WordOrder) := homeIn s.windows.active c

/-! ## POSITION and FETCH requests (R12, R13) -/

/-- Replace the code of a channel's POSITION in place, with the home as it is now (R12). -/
def InjEntry.replaceCode (c : ChanId) (code : Code) (addr : Nat) (order : WordOrder) (e : InjEntry) :
    InjEntry :=
  if e.isPositionOf c then { e with addr := addr, body := .position c code order } else e

/-- Request a POSITION for a channel: replaced in place, appended, or refused with WRITEBACK_ERROR when 32 are
unissued (R12). A channel without a home gets none. -/
def State.requestPosition (s : State) (c : ChanId) (code : Code) : State :=
  match s.home c with
  | none => s
  | some (addr, order) =>
    if s.port.queue.any (InjEntry.isPositionOf c) then
      s.modPort fun p => { p with queue := p.queue.map (InjEntry.replaceCode c code addr order) }
    else if s.port.queue.countP InjEntry.isPosition < Config.positionLimit then
      s.pushEntry addr (.position c code order)
    else s.createEvent .writebackError (BitVec.ofNat 8 c.val) 2#16

/-- Report a FETCH that failed, and hand a hold to the strip that shows the channel (R39). -/
def State.fetchFailed (s : State) (c : ChanId) (value : BitVec 16) : State :=
  let t := s.createEvent .fetchError (BitVec.ofNat 8 c.val) value
  match t.shownBy c with
  | some i => t.hold i
  | none => t

/-- Request a FETCH for a channel with a home: an unissued one stands, or it is appended, or it is refused when 32 are
unissued (R13, R39). -/
def State.requestFetch (s : State) (c : ChanId) : State :=
  match s.home c with
  | none => s
  | some (addr, order) =>
    if s.port.queue.any (InjEntry.isFetchOf c) then s
    else if s.port.queue.countP InjEntry.isFetch < Config.fetchLimit then
      s.pushEntry addr (.fetch c (s.chan c).seq order)
    else s.fetchFailed c 2#16

/-- Whether a POSITION for the channel stands in the injection queue or in the completion list (R112, R116). -/
def State.positionStands (s : State) (c : ChanId) : Bool :=
  s.port.queue.any (InjEntry.isPositionOf c) ||
  s.port.members.any fun
    | .position d _ _ _ _ => d == c
    | _ => false

/-- Whether memory may not hold a code for the channel: the image code is absent or differs, or a POSITION stands (R112, R116). -/
def State.mayDiffer (s : State) (c : ChanId) (code : Code) : Bool :=
  (s.chan c).image != some code || s.positionStands c

/-- The write-back test: a POSITION with the operator code when memory may not hold it (R116). -/
def State.writeBack (s : State) (c : ChanId) (code : Code) : State :=
  if s.mayDiffer c code then s.requestPosition c code else s

/-! ## Passing fader beats (R33 to R35, R68 to R71) -/

/-- What a strip does with a processor code (R68). -/
inductive Treatment where
  | conversion
  | restore
  | record
deriving DecidableEq, Repr

/-- The treatment by mode, touch and latch (R68). -/
def Strip.treatment (p : Strip) : Treatment :=
  match p.mode with
  | .parked => .record
  | .read => if p.touched then .record else .conversion
  | .touch => if p.touched then .restore else .conversion
  | .latch => if p.touched || p.latch then .restore else .conversion
  | .write => .restore

/-- Whether a channel's conversion finds a place: an unstarted request to coalesce with, a slot, or a waiter of its key that
carries it (R49, R52). -/
def State.canConvert (s : State) (c : ChanId) : Bool :=
  s.taper.hasUnstarted (.level c) || s.taper.queue.length < Config.conversionLimit ||
  s.taper.hasWaiter (.level c)

/-- The channel record after a full level code (R33). -/
def ChanRec.take (k : ChanRec) (code : Code) : ChanRec :=
  ⟨some code, some code, if k.proc = some code then k.seq else k.seq + 1#8⟩

/-- The hand-off of a processor code to the strip that shows the channel (R34, R68 to R71). When the queue is full and a waiter of
the key stands, the waiter carries the conversion (R52). -/
def State.handOff (s : State) (c : ChanId) (code : Code) : State :=
  match s.shownBy c with
  | none => s
  | some i =>
    match (s.strip i).treatment with
    | .record => s
    | .conversion =>
      match s.convert ⟨.levelToTravel c code (s.chan c).seq, false⟩ with
      | some t => t
      | none => s
    | .restore =>
      match (s.strip i).opCode with
      | some op => s.requestPosition c op
      | none => s

/-- A full level code for a channel: the record, then the hand-off (R33, R34). -/
def State.writeCode (s : State) (c : ChanId) (code : Code) : State :=
  (s.setChan c ((s.chan c).take code)).handOff c code

/-! ## Holds of channels without a home (R40) -/

/-- Report a strip whose channel has no home, and hand it a hold (R40). -/
def State.unmapped (s : State) (i : StripId) (c : ChanId) : State :=
  (s.stripEvent .unmapped i (field16 c.val)).hold i

end Sys2Proof.Machine
end

