-- ==== Sys2Proof/Machine/Layers.lean ====
section
/-!
DEFINITION. Layers, adoption, conflicts, isolation and fader start (07).
-/

namespace Sys2Proof.Machine

open Sys2Proof

/-! ## Fader start (R134 to R136) -/

/-- The conditions that force a strip's fader-start line OFF (R135). -/
def Strip.forcedOff (p : Strip) : Bool :=
  p.mode == .parked || !p.fsEnable || p.onCode.sle p.offCode || p.onTravel ≤ p.offTravel

/-- Set a strip's line; a change creates FSTART_ON or FSTART_OFF with the measured travel (R136). -/
def State.setLine (s : State) (i : StripId) (on : Bool) : State :=
  if (s.strip i).line = on then s
  else
    (s.modStrip i fun p => { p with line := on }).stripEvent (if on then .fstartOn else .fstartOff) i
      (field16 (s.strip i).m)

/-- An event that brings about a forcing condition forces the line OFF within itself (R136). -/
def State.forceLine (s : State) (i : StripId) : State :=
  if (s.strip i).forcedOff then s.setLine i false else s

/-- The line a servo sample gives: forced OFF, kept while CALIBRATING, else by the thresholds with hysteresis (R135). -/
def Strip.sampledLine (p : Strip) : Bool :=
  if p.forcedOff then false
  else if p.motion = .calibrating then p.line
  else if p.line then !decide (p.m ≤ p.offTravel)
  else decide (p.onTravel ≤ p.m)

/-- Evaluate the line at a servo sample (R135). -/
def State.evalLine (s : State) (i : StripId) : State := s.setLine i (s.strip i).sampledLine

/-! ## Adoption and conflicts (R125, R129, R130) -/

/-- Whether an open line defers a layer change: open protect is 1 and the line is ON (R125). -/
def State.openDefers (s : State) (i : StripId) : Bool :=
  s.param .openProtect != 0 && (s.strip i).line

/-- The deferral condition (R125). -/
def State.meetsDeferral (s : State) (i : StripId) : Bool := (s.strip i).touched || s.openDefers i

/-- The steps of an adoption that passed its check: the shown channel changes, then a hold, a conversion, a fetch with a hold, or
UNMAPPED with a hold (R129). -/
def State.takeChannel (s : State) (i : StripId) (x : Option ChanId) : State :=
  let t := s.modStrip i fun p =>
    { p with shown := x, opCode := none, lastReadback := none, waiting := none }
  match x with
  | none => t.hold i
  | some c =>
    if (t.chan c).image.isSome then t.convertChannel c false
    else if (t.home c).isSome then (t.requestFetch c).hold i
    else t.unmapped i c

/-- Whether another strip shows the channel (R129). -/
def State.shownElsewhere (s : State) (i : StripId) (c : ChanId) : Bool :=
  allStrips.any fun j => j != i && (s.strip j).shown == some c

/-- Adoption with its conflict check: a strip whose channel another strip shows adopts NONE and becomes conflict-blank on it (R129). -/
def State.adopt (s : State) (i : StripId) (x : Option ChanId) : State :=
  match x with
  | some c =>
    if s.shownElsewhere i c then
      (s.takeChannel i none).modStrip i fun p => { p with conflict := some c }
    else s.takeChannel i (some c)
  | none => s.takeChannel i none

/-- LAYER_APPLIED with the channel the strip shows, or 256 (R131). -/
def State.layerApplied (s : State) (i : StripId) : State :=
  s.stripEvent .layerApplied i (chanValue (s.strip i).shown)

/-- The conflict release of a channel given up: the lowest strip conflict-blank on it defers on it or adopts it (R130). -/
def State.releaseConflict (s : State) (x : ChanId) : State :=
  match allStrips.find? fun k => (s.strip k).conflict == some x with
  | none => s
  | some k =>
    if s.meetsDeferral k then
      s.modStrip k fun p => { p with conflict := none, waiting := some (some x) }
    else
      ((s.modStrip k fun p => { p with conflict := none }).adopt k (some x)).layerApplied k

/-- The conflict release that follows when a strip no longer shows the channel it showed (R130). -/
def State.giveUp (s : State) (i : StripId) (old : Option ChanId) : State :=
  match old with
  | some x => if (s.strip i).shown = some x then s else s.releaseConflict x
  | none => s

/-- A deferred strip adopts its pending channel: the adoption, LAYER_APPLIED, then the conflict release (R131). -/
def State.adoptPending (s : State) (i : StripId) (x : Option ChanId) : State :=
  ((s.adopt i x).layerApplied i).giveUp i (s.strip i).shown

/-- The test of a deferred strip at a servo sample (R131). -/
def State.deferredAdoption (s : State) (i : StripId) : State :=
  match (s.strip i).waiting with
  | some x => if s.meetsDeferral i then s else s.adoptPending i x
  | none => s

/-! ## SELECT_LAYER (R126 to R128) -/

/-- The entry of a layer for a strip (R122). -/
def State.layerEntry (s : State) (n : LayerId) (i : StripId) : Option ChanId :=
  (s.layers.maps[n.val])[i.val]

/-- Whether a strip keeps its channel at SELECT_LAYER: isolated or deferred (R126). -/
def State.keeps (s : State) (i : StripId) : Bool := (s.strip i).isolated || s.meetsDeferral i

/-- Classify one strip (R126). -/
def State.classify (s : State) (n : LayerId) (i : StripId) : State :=
  if (s.strip i).isolated then s
  else
    let e := s.layerEntry n i
    if s.meetsDeferral i then
      s.modStrip i fun p =>
        { p with conflict := none, waiting := if e = p.shown then none else some e }
    else s.modStrip i fun p => { p with conflict := none, waiting := none }

/-- The taking of one strip's entry, given the keeping strips (R127). -/
def State.takeEntry (n : LayerId) (keeping : List StripId) (i : StripId) (s : State) : State :=
  match s.layerEntry n i with
  | none => s.takeChannel i none
  | some c =>
    if keeping.any fun j => (s.strip j).shown == some c then
      (s.takeChannel i none).modStrip i fun p => { p with conflict := some c }
    else s.takeChannel i (some c)

/-- The number of strips whose pending channel is present (R128). -/
def State.deferredCount (s : State) : Nat := allStrips.countP fun i => (s.strip i).waiting.isSome

/-- SELECT_LAYER n: the layer becomes active, every strip is classified against the state it has, the taking strips take their
entries in strip order, and LAYER_DONE and RESULT carry the deferred count (R126 to R128). -/
def State.chooseLayer (s : State) (tag : BitVec 8) (n : LayerId) : State :=
  let keeping := allStrips.filter s.keeps
  let taking := allStrips.filter fun i => !s.keeps i
  let t := { s with layers := { s.layers with active := n } }
  let u := t.forStrips allStrips fun i v => v.classify n i
  let count := field16 u.deferredCount
  let w := u.forStrips taking (State.takeEntry n keeping)
  (w.createEvent .layerDone (BitVec.ofNat 8 n.val) count).writeResult tag .done count

/-- SELECT_LAYER (R126, R193). -/
def State.selectLayer (s : State) (tag : BitVec 8) (arg : BitVec 16) : State :=
  match argLayer arg with
  | none => s.writeResult tag .badArgument arg
  | some n => s.chooseLayer tag n

/-! ## LOAD_LAYER_MAP (R123) -/

/-- Whether the staged entry of a strip offends: neither a channel nor NONE, or a channel a lower-numbered entry
names (R123). -/
def State.layerEntryOffends (s : State) (i : StripId) : Bool :=
  match rawLayerEntry s.layers.staged[i.val] with
  | none => true
  | some none => false
  | some (some c) =>
    allStrips.any fun j => j < i && rawLayerEntry s.layers.staged[j.val] == some (some c)

/-- The staged map, for entries that do not offend (R123). -/
def LayerCtl.stagedMap (l : LayerCtl) : Vector (Option ChanId) 32 :=
  l.staged.map fun w => (rawLayerEntry w).getD none

/-- LOAD_LAYER_MAP (R123). -/
def State.loadLayerMap (s : State) (tag : BitVec 8) (arg : BitVec 16) : State :=
  match argLayer arg with
  | none => s.writeResult tag .badArgument arg
  | some n =>
    match allStrips.find? s.layerEntryOffends with
    | some i => s.writeResult tag .invalidTable (field16 i.val)
    | none =>
      let t := { s with layers := { s.layers with maps := s.layers.maps.set n.val s.layers.stagedMap } }
      if n = s.layers.active then t.chooseLayer tag n else t.writeResult tag .done 0#16

/-! ## ISOLATE (R132, R133) -/

/-- ISOLATE on (R132). -/
def State.isolateOn (s : State) (tag : BitVec 8) (arg : BitVec 16) : State :=
  match argStrip arg with
  | none => s.writeResult tag .badArgument arg
  | some i =>
    let t :=
      if (s.strip i).isolated then s
      else s.modStrip i fun p => { p with isolated := true, waiting := none, conflict := none }
    t.writeResult tag .done (chanValue (t.strip i).shown)

/-- An isolated strip re-joins the active layer by adoption or deferral (R133). -/
def State.rejoin (s : State) (i : StripId) : State :=
  let old := (s.strip i).shown
  let e := s.layerEntry s.layers.active i
  let t := s.modStrip i fun p => { p with isolated := false }
  if e = old then t.adopt i e
  else if s.meetsDeferral i then t.modStrip i fun p => { p with waiting := some e }
  else (t.adopt i e).giveUp i old

/-- ISOLATE off (R133). -/
def State.isolateOff (s : State) (tag : BitVec 8) (arg : BitVec 16) : State :=
  match argStrip arg with
  | none => s.writeResult tag .badArgument arg
  | some i =>
    let t := if (s.strip i).isolated then s.rejoin i else s
    t.writeResult tag .done (chanValue (t.strip i).shown)

/-- ISOLATE: bit 8 gives on or off (R194). -/
def State.isolate (s : State) (tag : BitVec 8) (arg : BitVec 16) : State :=
  if arg.getLsbD 8 then s.isolateOn tag arg else s.isolateOff tag arg

/-! ## Strip settings (R134, R189) -/

/-- Make a THRESHOLD request if the code changed (R134). -/
def State.convertIfChanged (s : State) (i : StripId) (on : Bool) (old : Code) : State :=
  if (s.strip i).thresholdCode on = old then s else s.convertThreshold i on false

/-- The first settings word: ON code in the low half, OFF code in the high half (R134, Table 11.4). When both change, the request of the ON code is made
first: the rule gives the two no order (DESIGN CHOICE, entry 32). -/
def State.writeCodes (s : State) (i : StripId) (w : Word) : State :=
  let p := s.strip i
  let t := s.modStrip i fun q => { q with onCode := lowHalf w, offCode := highHalf w }
  ((t.convertIfChanged i true p.onCode).convertIfChanged i false p.offCode).forceLine i

/-- The second settings word: enable in bit 0, policy in bits 9 and 8 (R134, Table 11.4). -/
def State.writeFlags (s : State) (i : StripId) (w : Word) : State :=
  (s.modStrip i fun q => { q with fsEnable := w.getLsbD 0, policy := policyOfWord w }).forceLine i

/-- A strip settings word is taken (R134). -/
def State.writeSettings (s : State) (i : StripId) (second : Bool) (w : Word) : State :=
  if second then s.writeFlags i w else s.writeCodes i w

end Sys2Proof.Machine
end

