-- ==== Sys2Proof/Machine/Conversions.lean ====
section
/-!
DEFINITION. What happens when a conversion completes: delivery (R54 to R56), the slot wait list (R53), the end of LOAD_TAPER
(R60); and the data beats that may be held for a slot (R5, R16, R21, R170).
-/

namespace Sys2Proof.Machine

open Sys2Proof

/-! ## Beat decode (R9) -/

/-- The decode classes of a write beat (Table 1.2). -/
inductive BeatClass where
  | control (offset : Nat)
  | fader (chan : ChanId) (order : WordOrder)
  | meter (chan : MeterId) (order : WordOrder)
  | outside
deriving DecidableEq, Repr

/-- Whether an active window covers an address (2.1). -/
def Window.covers (w : Window) (addr : Nat) : Bool :=
  w.kind != .unused && decide (w.base ≤ addr ∧ addr < w.base + w.size)

/-- The class of an address inside a window (R9). -/
def Window.classify (w : Window) (addr : Nat) : BeatClass :=
  let k := w.first + (addr - w.base)
  match w.kind with
  | .unused => .outside
  | .fader => if h : k < 256 then .fader ⟨k, h⟩ w.order else .outside
  | .meter => if h : k < 64 then .meter ⟨k, h⟩ w.order else .outside

/-- Beat decode: the control area first, then the active windows; addresses past the address space are outside (R2, R9). -/
def State.decodeBeat (s : State) (addr : Nat) : BeatClass :=
  if Config.addressSpace ≤ addr then .outside
  else if s.controlBase ≤ addr ∧ addr < s.controlBase + Config.controlWords then
    .control (addr - s.controlBase)
  else
    match s.windows.active.toList.find? fun w => w.covers addr with
    | some w => w.classify addr
    | none => .outside

/-! ## The image port's own work on an accepted beat (R16, R21) -/

/-- Whether the strip that shows a channel is operator-owned (R67). -/
def State.ownedByOperator (s : State) (c : ChanId) : Bool :=
  match s.shownBy c with
  | some i => (s.strip i).operatorOwned
  | none => false

/-- Whether an unissued entry stays when a beat is accepted (R16). -/
def State.survives (s : State) (addr : Nat) (e : Enables) (q : InjEntry) : Bool :=
  if q.addr = addr then
    match q.body with
    | .position c _ order => !touchesCode order e || s.ownedByOperator c
    | .fetch _ _ order => !coversCode order e
    | .status _ _ => true
    | .event _ _ => true
  else true

/-- Mark an issued POSITION superseded by a beat at its address that enables a byte of its code half (R21). -/
def Member.supersede (addr : Nat) (e : Enables) : Member → Member
  | .position c code a order mark => .position c code a order (mark || (a == addr && touchesCode order e))
  | m => m

/-- The image port's treatment of unissued entries and issued POSITIONs at an accepted beat (R16, R21). -/
def State.portWork (s : State) (addr : Nat) (e : Enables) : State :=
  (s.modPort fun p => { p with members := p.members.map (Member.supersede addr e) }).keepEntries
    (s.survives addr e)

/-! ## Data beats (R33 to R35, R170) -/

/-- The larger of a capture and a magnitude (R170). -/
def MeterRec.take (k : MeterRec) (magnitude : Nat) : MeterRec :=
  { k with capture := some (match k.capture with | some old => max old magnitude | none => magnitude) }

/-- A METER beat: with every byte enabled, bits 23 to 0 of the ordered word join the capture (R170). -/
def State.captureMeter (s : State) (k : MeterId) (order : WordOrder) (data : Word) (e : Enables) : State :=
  if e = allBytes then
    s.modMeter fun m =>
      let magnitude := ((orderWord order data).extractLsb' 0 24).toNat
      { m with recs := m.recs.set k.val ((m.recs[k.val]).take magnitude) }
  else s

/-- A FADER beat at the channel table (R33, R35). -/
def State.faderBeat (s : State) (c : ChanId) (order : WordOrder) (data : Word) (e : Enables) : State :=
  match beatCode order (s.chan c).image data e with
  | some code => s.writeCode c code
  | none => s

/-- The effects of an accepted beat that is not in the control area: the image port's, then its class's (R5, R10). -/
def State.dataBeat (s : State) (addr : Nat) (data : Word) (e : Enables) : State :=
  let t := s.portWork addr e
  match s.decodeBeat addr with
  | .fader c order => t.faderBeat c order data e
  | .meter k order => t.captureMeter k order data e
  | .control _ => t
  | .outside => t

/-- Whether the P-port holds a beat: it is a fader word whose handling must place a new request in a full conversion queue, and no
waiter of its key stands (R5, R34, R52). -/
def State.mustHold (s : State) (addr : Nat) (data : Word) (e : Enables) : Bool :=
  match s.decodeBeat addr with
  | .fader c order =>
    match beatCode order (s.chan c).image data e, s.shownBy c with
    | some _, some i => (s.strip i).treatment == .conversion && !s.canConvert c
    | _, _ => false
  | _ => false

/-- A write beat passes: it goes to the M-port, and the last one frees both ports and leaves the response owed (R5, R18). -/
def ImagePort.passBeat (p : ImagePort) (q : PortRequest) (data : Word) (e : Enables) : ImagePort :=
  let out := { p with toMemory := p.toMemory ++ [MOut.writeBeat data e], heldBeat := none }
  if q.atLast then { out with req := none, holder := .nobody, owed := p.owed ++ [Owed.memory] }
  else { out with req := some { q with done := q.done + 1 } }

/-! ## The slot wait list (R53) -/

/-- Serve the held processor beat: it is decoded and judged afresh, and accepted (R53). -/
def State.serveBeat (s : State) : State :=
  match s.port.heldBeat, s.port.req with
  | some (data, e), some q => (s.modPort fun p => p.passBeat q data e).dataBeat q.beatAddr data e
  | _, _ => s

/-- Serve one waiter: the beat, a channel's conversion if it is SEEN and shown, or a threshold (R53). -/
def State.serveOne (s : State) : Waiter → State
  | .beat => s.serveBeat
  | .level c fromFetch owned =>
    let code := if fromFetch then (s.chan c).image else (s.chan c).codeToFollow
    match (s.chan c).image, s.shownBy c, code with
    | some _, some _, some k =>
      match s.convert ⟨.levelToTravel c k (s.chan c).seq, owned⟩ with
      | some t => t
      | none => s
    | _, _, _ => s
  | .threshold i on owned =>
    match s.convert ⟨.threshold i on ((s.strip i).thresholdCode on), owned⟩ with
    | some t => t
    | none => s

/-- Serve the oldest waiters until the slots are taken or the list is empty; `n` bounds the waiters served (R53). -/
def State.serveWaiters : Nat → State → State
  | 0, s => s
  | n + 1, s =>
    match s.taper.waiters with
    | [] => s
    | w :: rest =>
      if s.taper.queue.length < Config.conversionLimit then
        State.serveWaiters n ((s.modTaper fun u => { u with waiters := rest }).serveOne w)
      else s

/-- Serve the waiters for the slots that are free (R53). -/
def State.serveSlots (s : State) : State := s.serveWaiters s.taper.waiters.length

/-! ## The end of LOAD_TAPER (R60) -/

/-- Whether an owned request is still to be finished (R60). -/
def TaperUnit.hasOwned (u : TaperUnit) : Bool :=
  u.queue.any ConvReq.owned || u.waiters.any Waiter.isOwned

/-- LOAD_TAPER completes when its last owned request is finished (R60). -/
def State.taperCheck (s : State) : State :=
  match s.ctl.busy with
  | some (.loadTaper tag reseats) =>
    if s.taper.hasOwned then s
    else (s.modCtl fun c => { c with busy := none }).writeResult tag .done (field16 reseats)
  | _ => s

/-! ## Delivery (R54 to R56, R117) -/

/-- A level-to-travel result is delivered as a target arrival if the channel is SEEN, its sequence number is the request's, and a
strip shows it (R54). -/
def State.deliverTravel (s : State) (c : ChanId) (code : Code) (seq : BitVec 8) (travel : Nat) : State :=
  match s.shownBy c with
  | some i =>
    if (s.chan c).image.isSome && (s.chan c).seq == seq then s.arrive i code travel c else s
  | none => s

/-- A readback result: the operator code and the last readback travel are set, and the write-back test is applied if the strip is
operator-owned and its channel has a home; a strip that shows another channel takes nothing (R55, R117). -/
def State.deliverLevel (s : State) (i : StripId) (c : ChanId) (travel : Nat) (code : Code) : State :=
  if (s.strip i).shown = some c then
    let t := s.modStrip i fun p => { p with opCode := some code, lastReadback := some travel }
    if (t.strip i).operatorOwned && (t.home c).isSome then t.writeBack c code else t
  else s

/-- A THRESHOLD result becomes on_travel or off_travel at once (R56, R136). -/
def State.deliverThreshold (s : State) (i : StripId) (on : Bool) (travel : Nat) : State :=
  (s.modStrip i fun p =>
    if on then { p with onTravel := travel } else { p with offTravel := travel }).forceLine i

/-- Deliver a completed conversion, computed with the table it was started with (R50, R54 to R56). -/
def State.deliver (s : State) (table : Taper) : ConvWork → State
  | .levelToTravel c code seq => s.deliverTravel c code seq (levelToTravel table code)
  | .travelToLevel i travel c => s.deliverLevel i c travel (travelToLevel table travel)
  | .threshold i on code => s.deliverThreshold i on (levelToTravel table code)

/-- The running conversion completes: its request leaves the queue, its result is delivered, the next head is started, the waiters are
served, and LOAD_TAPER completes if its last owned request is finished (R50, R53, R60). -/
def State.finishConversion (s : State) : State :=
  match s.taper.running, s.taper.queue with
  | some run, q :: rest =>
    let t := (s.reach run.due).modTaper fun u => { u with running := none, queue := rest }
    ((t.deliver run.table q.work).startHead.serveSlots).taperCheck
  | _, _ => s

/-- The direction of the running conversion's request, as its work (R50). -/
def State.runningWork (s : State) : Option ConvWork :=
  match s.taper.running, s.taper.queue with
  | some _, q :: _ => some q.work
  | _, _ => none

end Sys2Proof.Machine
end

