-- ==== Sys2Proof/Machine/Health.lean ====
section
/-!
DEFINITION. The health monitor: error slices, calibration runs and their outcomes (09), and its commands.
-/

namespace Sys2Proof.Machine

open Sys2Proof

/-- The milliseconds from one surface time to another, modulo 65536 (R97, R160). -/
def elapsedMs (now start : BitVec 16) : Nat := (now - start).toNat

/-! ## Errors (R154, R155) -/

/-- The recent error count: the sum of the eight slices (R155). -/
def Strip.recentErrors (p : Strip) : Nat := p.slices.sum

/-- One error counted: the current slice and the total rise, saturating (R155). -/
def Strip.countError (p : Strip) : Strip :=
  { p with
    slices := match p.slices with
      | c :: rest => min (c + 1) 255 :: rest
      | [] => []
    errorTotal := min (p.errorTotal + 1) 65535 }

/-- Whether the threshold test sets recal pending (R155). -/
def State.overThreshold (s : State) (i : StripId) : Bool :=
  (s.strip i).policy == .errorThreshold && s.param .healthThreshold != 0 &&
  s.param .healthThreshold ≤ (s.strip i).recentErrors

/-- Count an error for a strip and make the threshold test (R155). -/
def State.countError (s : State) (i : StripId) : State :=
  let t := s.modStrip i Strip.countError
  if t.overThreshold i then t.setRecal i else t

/-- The oldest slice is dropped and a new current slice opened (R154). -/
def Strip.turnSlices (p : Strip) : Strip := { p with slices := 0 :: p.slices.take 7 }

/-! ## Calibration runs (R158 to R163) -/

/-- A run begins: LOW_SEEK from now, with its drive at once (R158). -/
def State.beginRun (s : State) (i : StripId) : State :=
  s.modStrip i fun p =>
    { p with cal := some ⟨.lowSeek, s.ctl.time, none, 0⟩ }.setDrive (-(s.param .calDrive : Int))

/-- A run succeeds: the record, the slices, the attempts and the flag, CAL_DONE, then the strip leaves CALIBRATING toward its
target, or settles where it stands (R161, R162). -/
def State.runSucceeds (s : State) (i : StripId) (low high : Nat) : State :=
  let t := s.modStrip i fun p =>
    { p with
      calibration := some ⟨low, high⟩
      slices := [0, 0, 0, 0, 0, 0, 0, 0]
      attempts := 0
      recalPending := false }
  let u := (t.stripEvent .calDone i (field16 (high - low))).modStrip i fun p =>
    { p with r := p.m, v := 0, moveMarked := false }.setDrive 0
  u.enter i (if (u.strip i).target.isSome then .moving else .settling)

/-- A run fails: the attempt count rises, and a new run begins below bailout; at bailout the strip is STALLED with CAL_FAIL and
FAULT (R163). -/
def State.runFails (s : State) (i : StripId) : State :=
  let n := (s.strip i).attempts + 1
  let t := s.modStrip i fun p => { p with attempts := n }
  if n < s.param .bailout then t.beginRun i
  else
    (((t.enter i .stalled).modStrip i fun p => { p with recalPending := false }).stripEvent .calFail i
      (field16 n)).setFault

/-- Stillness at a sample: the anchor and the still count (R159, step 1). -/
def CalRun.stillness (c : CalRun) (raw : Nat) : CalRun :=
  match c.anchor with
  | none => { c with anchor := some raw }
  | some a => if dist raw a ≤ 1 then { c with still := c.still + 1 } else { c with anchor := some raw, still := 0 }

/-- Whether the phase finds its stop at a sample with this reading (R159, step 2). -/
def State.findsStop (s : State) (i : StripId) (raw : Nat) : Bool :=
  match (s.strip i).motion, (s.strip i).cal with
  | .calibrating, some c => s.param .calStill ≤ (c.stillness raw).still
  | _, _ => false

/-- Whether the phase times out at a sample with this reading (R160). -/
def State.phaseTimesOut (s : State) (i : StripId) (raw : Nat) : Bool :=
  match (s.strip i).motion, (s.strip i).cal with
  | .calibrating, some c => !s.findsStop i raw && s.param .calTimeout ≤ elapsedMs s.ctl.time c.start
  | _, _ => false

/-- The drive of a run that goes on (R159, step 4). -/
def CalPhase.drive (calDrive : Nat) : CalPhase → Int
  | .lowSeek => -(calDrive : Int)
  | .highSeek _ => calDrive

/-- The run goes on with its phase data, and drives as its phase calls for (R159). -/
def State.runGoesOn (s : State) (i : StripId) (c : CalRun) : State :=
  s.modStrip i fun p => { p with cal := some c }.setDrive (c.phase.drive (s.param .calDrive))

/-- The end of a phase: LOW_SEEK turns to HIGH_SEEK, HIGH_SEEK is judged by its span (R159, R161). -/
def State.phaseEnds (s : State) (i : StripId) (c : CalRun) (raw : Nat) : State :=
  match c.phase with
  | .lowSeek => s.runGoesOn i ⟨.highSeek raw, s.ctl.time, none, 0⟩
  | .highSeek low => if low + s.param .minSpan ≤ raw then s.runSucceeds i low raw else s.runFails i

/-- The run's work at a servo sample (R159, R160). -/
def State.calSample (s : State) (i : StripId) (raw : Nat) : State :=
  match (s.strip i).cal with
  | none => s
  | some c =>
    if s.findsStop i raw then s.phaseEnds i (c.stillness raw) raw
    else if s.phaseTimesOut i raw then s.runFails i
    else s.runGoesOn i (c.stillness raw)

/-! ## Commands (R166 to R168, R197) -/

/-- A touch accepted by the motion engine, whatever brought it (R107). -/
def State.takeTouch (s : State) (i : StripId) : State :=
  let t := s.modStrip i fun p =>
    { p with r := p.m, v := 0, latch := p.latch || p.mode == Mode.latch }.setDrive 0
  match (s.strip i).motion with
  | .parked => t
  | .stalled => t
  | .idle => t.enter i .touched
  | .queued => t.enter i .touched
  | .moving => t.enter i .touched
  | .settling => t.enter i .touched
  | .touched => t.enter i .touched
  | .latched => t.enter i .touched
  | .calibrating => t.enter i .touched

/-- CLEAR_FAULT of one strip (R166). -/
def State.clearFaultOf (i : StripId) (s : State) : State :=
  if (s.strip i).motion ≠ .stalled then s
  else
    let t := s.modStrip i fun p => { p with attempts := 0 }
    let p := s.strip i
    let u :=
      if p.mode = .parked then t.enter i .parked
      else if p.touched then (t.enter i .idle).takeTouch i
      else t.enter i .idle
    let w := if p.calibration.isSome then u else u.modStrip i fun q => { q with recalPending := true }
    let q := w.strip i
    if q.motion = .idle ∧ q.ready then
      if q.recalPending then w.joinStart i .calibrate
      else
        match q.target with
        | some g => if w.withinDeadband i g.travel then w else w.joinStart i .move
        | none => w
    else w

/-- Answer a command over named strips: BAD_ARGUMENT when the argument names none (R193). -/
def State.forNamed (s : State) (tag : BitVec 8) (arg : BitVec 16) (f : List StripId → State) : State :=
  match argStrips arg with
  | none => s.writeResult tag .badArgument arg
  | some l => f l

/-- CLEAR_FAULT (R166). -/
def State.clearFault (s : State) (tag : BitVec 8) (arg : BitVec 16) : State :=
  s.forNamed tag arg fun l =>
    (s.forStrips l State.clearFaultOf).writeResult tag .done
      (field16 (l.countP fun i => (s.strip i).motion == .stalled))

/-- The slices and the error total of a strip become 0 (R167). -/
def Strip.clearErrors (p : Strip) : Strip := { p with slices := [0, 0, 0, 0, 0, 0, 0, 0], errorTotal := 0 }

/-- CLEAR_ERRORS; naming all strips also zeroes the lost and parity counts (R167, R197). -/
def State.clearErrors (s : State) (tag : BitVec 8) (arg : BitVec 16) : State :=
  s.forNamed tag arg fun l =>
    let t := s.forStrips l fun i u => u.modStrip i Strip.clearErrors
    let u :=
      if arg.getLsbD 15 && (s.ctl.lostCount != 0 || s.ctl.parityCount != 0) then
        (t.modCtl fun c => { c with lostCount := 0, parityCount := 0 }).requestStatus .counters
      else t
    u.writeResult tag .done (field16 l.length)

/-- Whether a strip is QUEUED with purpose CALIBRATE (R168). -/
def State.queuedToCalibrate (s : State) (i : StripId) : Bool :=
  (s.strip i).motion == .queued && s.purposeOf i == some .calibrate

/-- RECALIBRATE (R168). -/
def State.recalibrate (s : State) (tag : BitVec 8) (arg : BitVec 16) : State :=
  s.forNamed tag arg fun l =>
    let t := s.forStrips l fun i u => u.setRecal i
    t.writeResult tag .done (field16 (l.countP t.queuedToCalibrate))

end Sys2Proof.Machine
end

