-- ==== Sys2Proof/Machine/Servo.lean ====
section
/-!
DEFINITION. The servo sample: scaling, motion profile, drive, settling, tracking (05), and the rows that name its outcomes.
-/

namespace Sys2Proof.Machine

open Sys2Proof

/-! ## Scaling (R89, R90) -/

/-- The measured travel of a raw reading: scaled and clamped with a valid calibration record, the reading itself without one (R89, R90). -/
def measured (cal : Option Calibration) (raw : Nat) : Nat :=
  match cal with
  | none => raw
  | some c =>
    (clampInt 0 Config.travelTop
      (divNearest (((raw : Int) - c.low) * Config.travelTop) ((c.high : Int) - c.low))).toNat

/-! ## Profile and drive (R91, R94) -/

/-- The speed limit of a speed class (R91). -/
def State.speedLimit (s : State) : SpeedClass → Nat
  | .normal => s.param .vmax
  | .ret => s.param .vret

/-- The reference speed of a profile step, bounded by the limit and by the braking bound (R91). -/
def profileSpeed (accel limit v d : Nat) : Nat := min (min (v + accel) limit) (isqrt (2 * accel * d))

/-- `r` moved toward `t` by at most `step` (R91). -/
def toward (r t step : Nat) : Nat := if r < t then r + min step (t - r) else r - min step (r - t)

/-- The reference speed with the sign of its direction (R94). -/
def Strip.signedSpeed (p : Strip) : Int :=
  match p.target with
  | some t => if p.r < t.travel then p.v else if t.travel < p.r then -(p.v : Int) else 0
  | none => 0

/-- The drive law (R94). -/
def driveLaw (kp kv : Nat) (e u : Int) : Int :=
  clampInt (-Config.driveMax) Config.driveMax (floorDiv ((kp : Int) * e + (kv : Int) * u + 32) 64)

/-- Compute a strip's drive with a signed speed (R94). -/
def State.driveWith (s : State) (i : StripId) (u : Int) : State :=
  s.modStrip i fun p => p.setDrive (driveLaw (s.param .kp) (s.param .kv) ((p.r : Int) - p.m) u)

/-- The tracking test: a lag above the tolerance marks the move and counts one error (R98). -/
def State.trackTest (s : State) (i : StripId) : State :=
  let p := s.strip i
  if s.param .trackTolerance < dist p.r p.m ∧ p.moveMarked = false then
    (s.modStrip i fun q => { q with moveMarked := true }).countError i
  else s

/-! ## The work of a sample by state (Table 5.1) -/

/-- The reference step of a MOVING strip; at its target it enters SETTLING (R91, R92). -/
def State.profileStep (s : State) (i : StripId) : State :=
  let p := s.strip i
  let t := (p.target.map Target.travel).getD p.r
  if t = p.r then s.enter i .settling
  else
    let v := profileSpeed (s.param .accel) (s.speedLimit p.speed) p.v (dist t p.r)
    let r := toward p.r t v
    let u := s.modStrip i fun q => { q with r := r, v := v }
    if r = t then u.enter i .settling else u

/-- The sample of a MOVING strip: step, drive, tracking (R88, R91 to R94, R98). -/
def State.moveSample (s : State) (i : StripId) : State :=
  let t := s.profileStep i
  (t.driveWith i (t.strip i).signedSpeed).trackTest i

/-- Whether a SETTLING strip's fader is within deadband of its reference (R96). -/
def State.nearReference (s : State) (i : StripId) : Bool :=
  dist (s.strip i).r (s.strip i).m ≤ s.param .deadband

/-- Whether the strip settles at this sample (R96). -/
def State.settlesNow (s : State) (i : StripId) : Bool :=
  (s.strip i).motion == .settling && s.nearReference i &&
  decide (s.param .settleCount ≤ (s.strip i).settled + 1)

/-- Whether the strip reaches its settle timeout at this sample (R97). -/
def State.timesOutNow (s : State) (i : StripId) : Bool :=
  (s.strip i).motion == .settling && !s.settlesNow i &&
  decide (s.param .settleTimeout ≤ elapsedMs s.ctl.time (s.strip i).settleStart)

/-- The settle timeout: STALLED, one error, STALL and FAULT (R97). -/
def State.stall (s : State) (i : StripId) : State :=
  let lag := dist (s.strip i).r (s.strip i).m
  (((s.enter i .stalled).countError i).stripEvent .stall i (field16 lag)).setFault

/-- The drive and the settle count of a SETTLING sample (R96). -/
def State.settleDrive (s : State) (i : StripId) : State :=
  if s.nearReference i then
    s.modStrip i fun p => { p with settled := p.settled + 1 }.setDrive 0
  else
    (s.modStrip i fun p => { p with settled := 0 }).driveWith i 0

/-- The sample of a SETTLING strip: drive, tracking, settled, timeout (R96 to R98). -/
def State.settleSample (s : State) (i : StripId) : State :=
  let t := (s.settleDrive i).trackTest i
  if s.settlesNow i then t.rest i
  else if s.timesOutNow i then t.stall i
  else t

/-- The work of the strip's motion state (Table 5.1). -/
def State.sampleWork (s : State) (i : StripId) (raw : Nat) : State :=
  match (s.strip i).motion with
  | .moving => s.moveSample i
  | .settling => s.settleSample i
  | .calibrating => s.calSample i raw
  | .parked => s
  | .idle => s
  | .queued => s
  | .touched => s
  | .latched => s
  | .stalled => s

/-! ## The sample -/

/-- Whether the sensor link has delivered a first reading for every strip (R87). -/
def State.allRead (s : State) : Bool := allStrips.all fun i => (s.strip i).reading.isSome

/-- The moment of strip `j`'s first sample when strip `i` makes the part's first one now: the samples stand 31.25 us apart in strip
order, once a millisecond (R87, entry 14). -/
def firstSample (clock : Nat) (i j : StripId) : Nat :=
  if i.val ≤ j.val then clock + 125 * (j.val - i.val) else clock + (Config.ms - 125 * (i.val - j.val))

/-- Start the sample schedule with strip `i`'s sample now, if it is not started (R87). -/
def State.startSamples (s : State) (i : StripId) : State :=
  match (s.strip i).sampleDue with
  | some _ => s
  | none =>
    s.forStrips allStrips fun j t => t.modStrip j fun p => { p with sampleDue := some (firstSample s.clock i j) }

/-- The strip's sample comes due: its next is 1 ms later, and its first starts the readback timer (R87, R115). -/
def State.comeDue (s : State) (i : StripId) : State :=
  let t := s.startSamples i
  let due := ((t.strip i).sampleDue).getD t.clock
  let u := t.reach due
  u.modStrip i fun p =>
    { p with
      sampleDue := some (due + Config.ms)
      readbackDue := match p.readbackDue with
        | some d => some d
        | none => some (u.clock + s.param .readbackPeriod * Config.ms) }

/-- Step 1 of a sample: the latest reading is scaled to m (R88). -/
def State.measure (s : State) (i : StripId) (raw : Nat) : State :=
  s.modStrip i fun p => { p with m := measured p.calibration raw }

/-- The latest raw reading of a strip. -/
def State.rawOf (s : State) (i : StripId) : Nat := (((s.strip i).reading).map BitVec.toNat).getD 0

/-- A strip's servo sample: scaling, the state's work, then the line and the deferred adoption (R88, R131). -/
def State.sample (s : State) (i : StripId) : State :=
  let raw := s.rawOf i
  ((((s.comeDue i).measure i raw).sampleWork i raw).evalLine i).deferredAdoption i

/-- The state in which the work of a strip's sample is judged. -/
def State.judged (s : State) (i : StripId) : State := (s.comeDue i).measure i (s.rawOf i)

/-! ## Commands -/

/-- SENSOR_READING: the reading is kept as the strip's latest (R87). -/
def execSensorReading (i : StripId) (raw : BitVec 12) (s : State) : Result :=
  live (fun s => s.modStrip i fun p => { p with reading := some raw }) s

/-- SERVO_SAMPLE (R88). No sample is taken before a first reading of every strip (R87). -/
def execServoSample (i : StripId) (s : State) : Result :=
  live (fun s => if s.allRead then s.sample i else s) s

/-- SETTLED: the sample in which the strip settles (R96, entry 4). -/
def execSettled (i : StripId) (s : State) : Result :=
  live (fun s => if s.allRead ∧ (s.judged i).settlesNow i then s.sample i else s) s

/-- SETTLE_TIMEOUT: the sample in which the strip reaches its settle timeout (R97, entry 4). -/
def execSettleTimeout (i : StripId) (s : State) : Result :=
  live (fun s => if s.allRead ∧ (s.judged i).timesOutNow i then s.sample i else s) s

/-- CAL_STOP_FOUND: the sample in which the phase finds its stop (R159, entry 4). -/
def execCalStopFound (i : StripId) (s : State) : Result :=
  live (fun s => if s.allRead ∧ (s.judged i).findsStop i (s.rawOf i) then s.sample i else s) s

/-- CAL_PHASE_TIMEOUT: the sample in which the phase times out (R160, entry 4). -/
def execCalPhaseTimeout (i : StripId) (s : State) : Result :=
  live (fun s => if s.allRead ∧ (s.judged i).phaseTimesOut i (s.rawOf i) then s.sample i else s) s

/-- SLICE_TIMER_EXPIRY: every strip's slices turn, and the next expiry is 125 ms after this one (R154). -/
def execSliceTimerExpiry (s : State) : Result :=
  live (fun s =>
    let t := { s.reach s.sliceDue with sliceDue := s.sliceDue + 125 * Config.ms }
    t.forStrips allStrips fun i u => u.modStrip i Strip.turnSlices) s

end Sys2Proof.Machine
end

