-- ==== Sys2Proof/Machine/Touch.lean ====
section
/-!
DEFINITION. The touch scanner, accepted touches and releases, and readback (06).
-/

namespace Sys2Proof.Machine

open Sys2Proof

/-! ## The touch scanner (R103, R104) -/

/-- A debounce timer is started in a direction, lasting its parameter as it stands (R104). -/
def State.startDebounce (s : State) (i : StripId) (press : Bool) : State :=
  let duration := if press then s.param .pressDebounce else s.param .releaseDebounce
  s.modStrip i fun p => { p with debounce := some ⟨press, s.clock + duration * Config.ms⟩ }

/-- A raw input takes a new level: a running timer is cancelled, and an idle one is started when the level differs from the accepted
touch (R104). -/
def State.rawChange (s : State) (i : StripId) (pressed : Bool) : State :=
  let t := s.modStrip i fun p => { p with rawTouch := pressed }
  match (s.strip i).debounce with
  | some _ => t.modStrip i fun p => { p with debounce := none }
  | none => if pressed = (s.strip i).touched then t else t.startDebounce i pressed

/-- A raw input takes a level. In reset only the input itself is followed (R103). -/
def State.touchInput (s : State) (i : StripId) (pressed : Bool) : State :=
  if pressed = (s.strip i).rawTouch then s
  else if s.inReset then s.modStrip i fun p => { p with rawTouch := pressed }
  else s.rawChange i pressed

/-! ## The hand level (R106) -/

/-- The level of a fader: its target code when retention holds, else the level of its travel (R106). -/
def State.faderLevel (s : State) (i : StripId) : Code :=
  match s.retained i with
  | some code => code
  | none => travelToLevel s.taper.active (s.strip i).m

/-- The value of TOUCH_OFF: the operator code in TOUCH, LATCH and WRITE when present, else the fader's level (R106). -/
def State.releaseLevel (s : State) (i : StripId) : Code :=
  match (s.strip i).mode, (s.strip i).opCode with
  | .touch, some code => code
  | .latch, some code => code
  | .write, some code => code
  | _, _ => s.faderLevel i

/-! ## Release (R109 to R114) -/

/-- The processor code of the channel a strip shows, with the channel (R111). -/
def State.processorCode (s : State) (i : StripId) : Option (ChanId × Code) :=
  match (s.strip i).shown with
  | some c => (s.chan c).proc.map fun code => (c, code)
  | none => none

/-- The strip's target travel when its target pairs with a channel and a code (R111). -/
def Strip.pairedTravel (p : Strip) (c : ChanId) (code : Code) : Option Nat :=
  match p.target with
  | some t => if t.code = code ∧ t.chan = c then some t.travel else none
  | none => none

/-- TOUCH behaviour at a release: TOUCH mode, or LATCH with its latch disengaged (R72, R111). -/
def Strip.touchBehaviour (p : Strip) : Bool := p.mode == .touch || (p.mode == .latch && !p.latch)

/-- The release restore: a POSITION with the processor code when memory may not hold it (R112). -/
def State.releaseRestore (s : State) (i : StripId) : State :=
  match s.processorCode i with
  | some (c, code) =>
    if (s.strip i).touchBehaviour && (s.home c).isSome then s.writeBack c code else s
  | none => s

/-- Set a strip's speed class. -/
def State.setSpeed (s : State) (i : StripId) (k : SpeedClass) : State :=
  s.modStrip i fun p => { p with speed := k }

/-- The return of READ and TOUCH behaviour, the strip already IDLE (R111). -/
def State.returnToChannel (s : State) (i : StripId) : State :=
  match s.processorCode i with
  | none => s.setSpeed i .normal
  | some (c, code) =>
    match (s.strip i).pairedTravel c code with
    | some travel =>
      if s.withinDeadband i travel then s.setSpeed i .normal else (s.setSpeed i .ret).queueMove i
    | none => (s.setSpeed i .ret).convertChannel c false

/-- What a STALLED strip does at a release: its level is given back, and its state kept (R113). -/
def State.stalledRelease (s : State) (i : StripId) : State :=
  if (s.strip i).mode == .read || (s.strip i).touchBehaviour then
    let t := s.releaseRestore i
    match s.processorCode i with
    | some (c, code) =>
      match (s.strip i).pairedTravel c code with
      | some _ => t
      | none => t.convertChannel c false
    | none => t
  else s

/-- Step 3 of a release with no channel adopted (R109, R111 to R113). -/
def State.ordinaryRelease (s : State) (i : StripId) : State :=
  let p := s.strip i
  if p.motion = .stalled then s.stalledRelease i
  else
    match p.mode with
    | .parked => s
    | .write => s.enter i .idle
    | .read => (s.enter i .idle).returnToChannel i
    | .touch => ((s.enter i .idle).releaseRestore i).returnToChannel i
    | .latch =>
      if p.latch then s.enter i .latched
      else ((s.enter i .idle).releaseRestore i).returnToChannel i

/-- Step 3 of a release that adopted a channel (R110). -/
def State.adoptedRelease (s : State) (i : StripId) : State :=
  let p := s.strip i
  if p.motion = .stalled ∨ p.mode = .parked then s.modStrip i fun q => { q with latch := false }
  else if p.mode = .write then s.enter i .idle
  else (s.enter i .idle).setSpeed i .ret

/-- The recalibration test of a release (R114). -/
def State.releaseRecal (s : State) (i : StripId) : State :=
  if (s.strip i).recalPending ∧ (s.strip i).mode.motorised then s.actOnRecal i else s

/-- An accepted release, its touch already not accepted: the pending channel, the mode's behaviour, the recalibration test, in this
order (R109). -/
def State.takeRelease (s : State) (i : StripId) : State :=
  let t :=
    match (s.strip i).waiting with
    | some x => if s.openDefers i then s.ordinaryRelease i else (s.adoptPending i x).adoptedRelease i
    | none => s.ordinaryRelease i
  t.releaseRecal i

/-- A debounce timer expires: the accepted touch takes the raw level, the motion engine takes it, and TOUCH_ON or TOUCH_OFF is created
with the level taken before (R105, R109). -/
def State.debounced (s : State) (i : StripId) (d : Debounce) : State :=
  let t := (s.reach d.expiry).modStrip i fun p => { p with debounce := none, touched := d.press }
  if d.press then (t.takeTouch i).stripEvent .touchOn i (s.faderLevel i)
  else (t.takeRelease i).stripEvent .touchOff i (s.releaseLevel i)

/-! ## Readback (R115, R116) -/

/-- The readback condition (R115). -/
def State.readsBack (s : State) (i : StripId) : Option ChanId :=
  let p := s.strip i
  if ((p.mode == .touch || p.mode == .latch) && p.touched) || p.mode == .write then
    match p.shown with
    | some c => if (s.home c).isSome then some c else none
    | none => none
  else none

/-- Whether the fader has moved since the last readback (R116). -/
def State.hasMoved (s : State) (i : StripId) : Bool :=
  match (s.strip i).lastReadback with
  | none => true
  | some t => s.param .readbackDeadband ≤ dist (s.strip i).m t

/-- A readback: by retention the operator code is the target code and is written back at once; else m is converted, unless the queue is
full (R52, R116). -/
def State.readback (s : State) (i : StripId) (c : ChanId) : State :=
  let m := (s.strip i).m
  match s.retained i with
  | some code =>
    (s.modStrip i fun p => { p with opCode := some code, lastReadback := some m }).writeBack c code
  | none =>
    match s.convert ⟨.travelToLevel i m c, false⟩ with
    | some t => t
    | none => s

/-- A readback timer expires: the next expiry is one period later, and a readback is made when the condition holds and the fader has
moved (R115, R116). -/
def State.readbackExpires (s : State) (i : StripId) : State :=
  match (s.strip i).readbackDue with
  | none => s
  | some due =>
    let t := (s.reach due).modStrip i fun p =>
      { p with readbackDue := some (due + s.param .readbackPeriod * Config.ms) }
    match s.readsBack i with
    | some c => if s.hasMoved i then t.readback i c else t
    | none => t

/-! ## Commands -/

/-- TOUCH_INPUT_CHANGE (R104). The input is followed in reset too (R103). -/
def execTouchInputChange (i : StripId) (pressed : Bool) (s : State) : Result :=
  .next (s.touchInput i pressed)

/-- DEBOUNCE_EXPIRY (R105). -/
def execDebounceExpiry (i : StripId) (s : State) : Result :=
  live (fun s =>
    match (s.strip i).debounce with
    | some d => s.debounced i d
    | none => s) s

/-- READBACK_EXPIRY (R115). -/
def execReadbackExpiry (i : StripId) (s : State) : Result := live (fun s => s.readbackExpires i) s

end Sys2Proof.Machine
end

