-- ==== Sys2Proof/Machine/Modes.lean ====
section
/-!
DEFINITION. Changes of mode and UNLATCH (R80 to R85, R195, R196).
-/

namespace Sys2Proof.Machine

open Sys2Proof

/-! ## One strip -/

/-- The request for the channel a strip shows, if that channel is SEEN (R83, step 2). -/
def State.convertShown (s : State) (i : StripId) (owned : Bool) : State :=
  match (s.strip i).shown with
  | some c => s.convertChannel c owned
  | none => s

/-- The mode changes to another, and with it the latch: out of LATCH mode it is disengaged, and into LATCH mode it engages when the
touch is accepted (R72, R80, R84). -/
def Strip.takeMode (p : Strip) (mode : Mode) : Strip :=
  { p with mode := mode, latch := mode == Mode.latch && p.touched }

/-- A strip comes to rest where its hand says: TOUCHED when its touch is accepted, and IDLE otherwise (R82, R83). -/
def State.enterAtHand (s : State) (i : StripId) : State :=
  if (s.strip i).touched then s.enter i .touched else s.enter i .idle

/-- A strip that is not STALLED, changed to PARKED (R81). -/
def State.toParked (s : State) (i : StripId) : State := s.enter i .parked

/-- A strip that is not STALLED, changed to WRITE (R82). -/
def State.toWrite (s : State) (i : StripId) : State :=
  match (s.strip i).motion with
  | .queued => s.enter i .idle
  | .moving => s.enter i .idle
  | .settling => s.enter i .idle
  | .calibrating => s.enter i .idle
  | .latched => s.enter i .idle
  | .parked => s.enterAtHand i
  | .idle => s
  | .touched => s
  | .stalled => s

/-- A strip that is not STALLED, changed from PARKED or WRITE to a motorised mode (R83): the state and the speed class, then a calibration
run owed if its record is invalid, then the request for its channel. -/
def State.toMotorised (s : State) (i : StripId) : State :=
  let t := (s.enterAtHand i).setSpeed i .normal
  let u := if (t.strip i).calibration.isSome then t
    else t.modStrip i fun p => { p with recalPending := true }
  (u.recalAtRest i).convertShown i false

/-- A LATCHED strip is given back to its channel: IDLE with speed class RETURN, and the request (R84, R85). -/
def State.leaveLatched (s : State) (i : StripId) : State :=
  (((s.modStrip i fun p => { p with latch := false }).setSpeed i .ret).rest i).convertShown i false

/-- A strip changed between two motorised modes (R84); `was` is the strip before the change. -/
def State.betweenMotorised (s : State) (i : StripId) (was : Strip) : State :=
  if was.mode = .latch ∧ was.latch ∧ was.motion = .latched then s.leaveLatched i else s

/-- SET_MODE for one strip (R80 to R84, R136). -/
def State.setModeOf (mode : Mode) (i : StripId) (s : State) : State :=
  let was := s.strip i
  if was.mode = mode then s
  else
    let t := s.modStrip i fun p => p.takeMode mode
    let u :=
      if was.motion = .stalled then t
      else
        match mode with
        | .parked => t.toParked i
        | .write => t.toWrite i
        | .read => if was.mode.motorised then t.betweenMotorised i was else t.toMotorised i
        | .touch => if was.mode.motorised then t.betweenMotorised i was else t.toMotorised i
        | .latch => if was.mode.motorised then t.betweenMotorised i was else t.toMotorised i
    u.forceLine i

/-- UNLATCH of one strip (R85). -/
def State.unlatchOf (i : StripId) (s : State) : State :=
  if (s.strip i).motion = .latched then s.leaveLatched i
  else s.modStrip i fun p => { p with latch := false }

/-! ## The commands -/

/-- SET_MODE (R195). -/
def State.setMode (s : State) (tag : BitVec 8) (arg : BitVec 16) : State :=
  match argStrips arg, modeOfCode (argField arg 8 3) with
  | some l, some mode =>
    (s.forStrips l (State.setModeOf mode)).writeResult tag .done
      (field16 (l.countP fun i => (s.strip i).mode != mode))
  | _, _ => s.writeResult tag .badArgument arg

/-- UNLATCH (R196). -/
def State.unlatch (s : State) (tag : BitVec 8) (arg : BitVec 16) : State :=
  s.forNamed tag arg fun l =>
    (s.forStrips l State.unlatchOf).writeResult tag .done
      (field16 (l.countP fun i => (s.strip i).latch))

end Sys2Proof.Machine
end

