-- ==== Sys2Proof/Machine/Tables.lean ====
section
/-!
DEFINITION. LOAD_WINDOWS (R29 to R31) and LOAD_TAPER (R58, R59).
-/

namespace Sys2Proof.Machine

open Sys2Proof

/-! ## Validation of windows (R29) -/

/-- The greatest size of a window of a kind code, and the number of its indexes (Table 2.1). -/
def windowLimit (kind : Nat) : Nat := if kind = 1 then 256 else 64

/-- Condition 1: a field holds a value outside its range (R29). -/
def RawWindow.outOfRange (d : RawWindow) : Bool :=
  2 < d.kind || 1 < d.order || d.base % 16 != 0 || 16777200 < d.base || d.size == 0 ||
  windowLimit d.kind < d.size || windowLimit d.kind ≤ d.first

/-- Conditions 2 to 4: past the address space, past the indexes of its kind, or in the control area (R29). -/
def RawWindow.misplaced (controlBase : Nat) (d : RawWindow) : Bool :=
  Config.addressSpace < d.base + d.size || windowLimit d.kind < d.first + d.size ||
  (d.base < controlBase + Config.controlWords && controlBase < d.base + d.size)

/-- Whether two stretches of numbers meet. -/
def stretchesMeet (a la b lb : Nat) : Bool := a < b + lb && b < a + la

/-- Conditions 5 and 6, against one lower-numbered descriptor (R29). -/
def RawWindow.conflicts (d lower : RawWindow) : Bool :=
  lower.kind != 0 &&
  (stretchesMeet d.base d.size lower.base lower.size ||
    (d.kind == lower.kind && stretchesMeet d.first d.size lower.first lower.size))

/-- Whether staged descriptor `n` offends (R29). -/
def State.windowOffends (s : State) (n : Fin 16) : Bool :=
  let d := rawWindow s.windows.staged n
  d.kind != 0 &&
  (d.outOfRange || d.misplaced s.controlBase ||
    (List.finRange 16).any fun k => k < n && d.conflicts (rawWindow s.windows.staged k))

/-! ## The load of windows (R30, R31) -/

/-- The staged set, for descriptors that do not offend. -/
def WindowDecoder.stagedSet (w : WindowDecoder) : Vector Window 16 :=
  Vector.ofFn fun n => (rawWindow w.staged n).window

/-- The channels in order. -/
def allChans : List ChanId := List.finRange 256

/-- Whether a channel's home under two sets differs (R30). -/
def homeChanged (old new : Vector Window 16) (c : ChanId) : Bool := homeIn old c != homeIn new c

/-- A channel becomes UNSEEN, its sequence number kept (R30, R41). -/
def ChanRec.unsee (k : ChanRec) : ChanRec := ⟨none, none, k.seq⟩

/-- Whether an unissued entry is a POSITION or FETCH of a channel that passes a test. -/
def InjEntry.carriesChan (test : ChanId → Bool) (e : InjEntry) : Bool :=
  match e.body with
  | .position c _ _ => test c
  | .fetch c _ _ => test c
  | .status _ _ => false
  | .event _ _ => false

/-- Whether a waiter is the waiting conversion of a fetch for a channel that passes a test (R38). -/
def Waiter.fetched (test : ChanId → Bool) : Waiter → Bool
  | .level c fromFetch _ => fromFetch && test c
  | .beat => false
  | .threshold _ _ _ => false

/-- Make a set active: the channels whose home changed become UNSEEN, and their unissued entries and waiting conversions go (R17, R30,
R38). -/
def State.applyWindows (s : State) (ws : Vector Window 16) : State :=
  let changed := homeChanged s.windows.active ws
  let t := { s with
    windows := { s.windows with active := ws }
    chans := Vector.ofFn fun c => if changed c then (s.chan c).unsee else s.chan c }
  (t.modTaper fun u => { u with waiters := u.waiters.filter fun w => !w.fetched changed }).keepEntries
    fun e => !e.carriesChan changed

/-- The examination of one strip after a window load; `old` is the set before (R31). -/
def State.examineStrip (old : Vector Window 16) (i : StripId) (s : State) : State :=
  match (s.strip i).shown with
  | none => s
  | some c =>
    if (s.home c).isSome then
      if homeChanged old s.windows.active c then s.requestFetch c else s
    else s.unmapped i c

/-- LOAD_WINDOWS (R29 to R31). -/
def State.loadWindows (s : State) (tag : BitVec 8) : State :=
  match (List.finRange 16).find? s.windowOffends with
  | some n => s.writeResult tag .invalidTable (field16 n.val)
  | none =>
    let ws := s.windows.stagedSet
    let t := (s.applyWindows ws).forStrips allStrips (State.examineStrip s.windows.active)
    t.writeResult tag .done (field16 (allChans.countP (homeChanged s.windows.active ws)))

/-! ## LOAD_TAPER (R58, R59) -/

/-- Staged breakpoint `i`. -/
def TaperUnit.stagedPoint (u : TaperUnit) (i : Fin 17) : Breakpoint := rawBreakpoint u.staged[i.val]

/-- Conditions 1 to 4 of a breakpoint (R58). -/
def TaperUnit.pointOutOfRange (u : TaperUnit) (i : Fin 17) : Bool :=
  let b := u.stagedPoint i
  Config.travelTop < b.travel || b.level < -1440 || 192 < b.level ||
  (i.val == 0 && b.travel != 0) || (i.val == 16 && b.travel != Config.travelTop)

/-- Conditions 5 and 6 of a breakpoint (R58). -/
def TaperUnit.pointOutOfOrder (u : TaperUnit) (i : Fin 17) : Bool :=
  let b := u.stagedPoint i
  let before := u.stagedPoint ⟨i.val - 1, by omega⟩
  0 < i.val && (decide (b.travel ≤ before.travel) || decide (b.level ≤ before.level))

/-- Whether staged breakpoint `i` offends (R58). -/
def TaperUnit.pointOffends (u : TaperUnit) (i : Fin 17) : Bool :=
  u.pointOutOfRange i || u.pointOutOfOrder i

/-- The staged table, for breakpoints that do not offend (R59). -/
def TaperUnit.stagedTable (u : TaperUnit) : Taper := u.staged.map rawBreakpoint

/-- Whether a strip gets a re-seat: it shows a SEEN channel (R59). -/
def State.reseats (s : State) (i : StripId) : Bool :=
  match (s.strip i).shown with
  | some c => (s.chan c).image.isSome
  | none => false

/-- The owned requests of one strip: its re-seat, then its two thresholds (R59). -/
def State.reseat (i : StripId) (s : State) : State :=
  ((s.convertShown i true).convertThreshold i true true).convertThreshold i false true

/-- LOAD_TAPER (R58, R59). -/
def State.loadTaper (s : State) (tag : BitVec 8) : State :=
  match (List.finRange 17).find? s.taper.pointOffends with
  | some i => s.writeResult tag .invalidTable (field16 i.val)
  | none =>
    let t := s.modTaper fun u => { u with active := u.stagedTable }
    (t.forStrips allStrips State.reseat).modCtl fun c =>
      { c with busy := some (.loadTaper tag (allStrips.countP s.reseats)) }

end Sys2Proof.Machine
end

