-- ==== Sys2Proof/Machine/Control.lean ====
section
/-!
DEFINITION. The control unit: live parameters, ACK, QUIET, the ring words, QUERY_STRIP, SYNC, SURFACE_RESET, the taking of a command
and the control area map (R188 to R204). One row of the table, one meaning.
-/

namespace Sys2Proof.Machine

open Sys2Proof

/-! ## Words with an effect of their own (Table 11.1) -/

/-- A live parameter takes a word, clamped to its range (R189). -/
def State.writeParam (s : State) (p : Param) (w : Word) : State :=
  s.modCtl fun c => { c with params := c.params.set p.index.val (clampNat p.spec.low p.spec.high w.toNat) }

/-- ACK removes the named sticky causes; bit 0 is disregarded (R200, Table 11.3). -/
def State.ack (s : State) (w : Word) : State :=
  s.modCauses fun c =>
    { c with
      lostCause := c.lostCause && !w.getLsbD 1
      parityCause := c.parityCause && !w.getLsbD 2
      faultCause := c.faultCause && !w.getLsbD 3
      commandCause := c.commandCause && !w.getLsbD 4 }

/-- QUIET sets the quiet state (R201). -/
def State.setQuiet (s : State) (w : Word) : State := s.modCtl fun c => { c with quiet := w }

/-- The ring is reconfigured and emptied: indices to 0, unissued EVENT entries discarded, PRODUCER requested, and then SUMMARY when EVENTS left the cause
set (R202). A SYNC that the discard completes answers at the discard, its RESULT and SUMMARY ahead of PRODUCER (DEDUCED, entry 23). -/
def State.reconfigureRing (s : State) (f : Control → Control) : State :=
  let t := s.modCtl fun c => { f c with producer := 0, consumer := 0 }
  let u := (t.keepEntries fun e => !e.isEvent).requestStatus .producer
  if s.ctl.eventsCause then u.requestStatus .summary else u

/-- RING_BASE takes bits 23 to 0 (R202). -/
def State.setRingBase (s : State) (w : Word) : State :=
  s.reconfigureRing fun c => { c with ringBase := (w.extractLsb' 0 24).toNat }

/-- The capacity a word gives (R202). -/
def ringCapacityOf (w : Word) : Nat := if w = 0#32 then 0 else clampNat 16 1024 w.toNat

/-- RING_CAPACITY (R202). -/
def State.setRingCapacity (s : State) (w : Word) : State :=
  s.reconfigureRing fun c => { c with ringCapacity := ringCapacityOf w }

/-- CONSUMER is taken when it is below the capacity, which a disabled ring's is never above (R204). -/
def State.setConsumer (s : State) (w : Word) : State :=
  if w.toNat < s.ctl.ringCapacity then s.modCauses fun c => { c with consumer := w.toNat } else s

/-! ## QUERY_STRIP (R198) -/

/-- Bit `k` of a value, set when `b` holds. -/
def valueBit (b : Bool) (k : Nat) : Nat := if b then 2 ^ k else 0

/-- The STATE_MODE value (Table 11.6). -/
def Strip.stateMode (p : Strip) : BitVec 16 :=
  field16 (p.motion.code + 16 * p.mode.code + valueBit p.touched 7 + valueBit p.latch 8 +
    valueBit p.isolated 9 + valueBit p.waiting.isSome 10 + valueBit p.conflict.isSome 11 +
    valueBit p.recalPending 12 + valueBit p.calibration.isSome 13)

/-- The CAL_SPAN value (R198). -/
def Strip.calSpan (p : Strip) : BitVec 16 :=
  match p.calibration with
  | some c => field16 (c.high - c.low)
  | none => 0#16

/-- The value of an item code (R198). -/
def Strip.queryItem (p : Strip) : Nat → Option (BitVec 16)
  | 0 => some p.stateMode
  | 1 => some (field16 p.errorTotal)
  | 2 => some p.calSpan
  | 3 => some (field16 p.m)
  | 4 => some (chanValue p.shown)
  | _ => none

/-- QUERY_STRIP (R193, R198). -/
def State.queryStrip (s : State) (tag : BitVec 8) (arg : BitVec 16) : State :=
  match argStrip arg with
  | none => s.writeResult tag .badArgument arg
  | some i =>
    match (s.strip i).queryItem (argField arg 8 4) with
    | none => s.writeResult tag .badArgument arg
    | some v => s.writeResult tag .done v

/-! ## SYNC (R199) -/

/-- SYNC is in progress from the point and the count noted at its taking, and completes at once when no entry stands (R199). -/
def State.startSync (s : State) (tag : BitVec 8) : State :=
  (s.modCtl fun c => { c with busy := some (.sync tag s.port.nextStamp s.port.queue.length) }).syncCheck

/-! ## SURFACE_RESET (R194) -/

/-- A THRESHOLD request's strip and direction, from its key. -/
def ConvKey.thresholdOf : ConvKey → Option (StripId × Bool)
  | .level _ => none
  | .readback _ => none
  | .threshold i on => some (i, on)

/-- The THRESHOLD requests of the queue, then of the slot wait list, in order (R57). -/
def TaperUnit.thresholds (u : TaperUnit) : List (StripId × Bool) :=
  u.queue.filterMap (fun q => q.work.key.thresholdOf) ++
    u.waiters.filterMap fun w => w.key.bind ConvKey.thresholdOf

/-- The taper unit's part: requests and waiters go, a running conversion is abandoned, and the THRESHOLD requests are made anew (R57). -/
def State.resetTaper (s : State) : State :=
  s.taper.thresholds.foldl (fun t k => t.convertThreshold k.1 k.2 false)
    (s.modTaper fun u => { u with queue := [], running := none, waiters := [] })

/-- The channel table's part, steps 1 to 3: every channel UNSEEN, unissued POSITION and FETCH entries discarded, issued POSITIONs marked
(R17, R21, R41). -/
def State.resetChannels (s : State) : State :=
  let t := { s with chans := s.chans.map ChanRec.unsee }
  (t.modPort fun p =>
    { p with members := p.members.map fun
        | .position c code addr order _ => .position c code addr order true
        | m => m }).keepEntries fun e => !e.isPosition && !e.isFetch

/-- A strip's record at SURFACE_RESET, its state already PARKED (R86, R124, R153). -/
def Strip.surfaceReset (p : Strip) : Strip :=
  { p with
    mode := .parked, r := p.m, v := 0, speed := .normal, settled := 0, moveMarked := false, latch := false
    target := none, opCode := none, lastReadback := none, attempts := 0, waiting := none, conflict := none }

/-- One strip is parked at SURFACE_RESET, its line forced OFF (R86, R136). -/
def State.parkStrip (i : StripId) (s : State) : State :=
  ((s.enter i .parked).modStrip i Strip.surfaceReset).forceLine i

/-- The fetch of a shown channel with a home, at the end of SURFACE_RESET (R41, step 4). -/
def State.refetch (i : StripId) (s : State) : State :=
  match (s.strip i).shown with
  | some c => s.requestFetch c
  | none => s

/-- SURFACE_RESET (R194). -/
def State.surfaceReset (s : State) (tag : BitVec 8) : State :=
  let t := s.resetChannels.resetTaper.modMeter MeterEngine.surfaceReset
  let u := (t.forStrips allStrips State.parkStrip).modDrive fun d => { d with queue := [] }
  (u.forStrips allStrips State.refetch).writeResult tag .done 0#16

/-! ## Taking a command (R191, R194) -/

/-- The code of the command in progress (R191). -/
def Busy.code : Busy → BitVec 16
  | .loadTaper _ _ => 0x0A#16
  | .sync _ _ _ => 0x0D#16

/-- A command that is not refused BUSY, by its code (R191, R194). -/
def State.runCommand (s : State) (code tag : BitVec 8) (arg : BitVec 16) : State :=
  match code.toNat with
  | 0x01 => s.selectLayer tag arg
  | 0x02 => s.setMode tag arg
  | 0x03 => s.unlatch tag arg
  | 0x04 => s.isolate tag arg
  | 0x05 => s.recalibrate tag arg
  | 0x06 => s.clearFault tag arg
  | 0x07 => s.clearErrors tag arg
  | 0x08 => s.loadWindows tag
  | 0x09 => s.loadLayerMap tag arg
  | 0x0A => s.loadTaper tag
  | 0x0B => s.loadMeterSetup tag
  | 0x0C => s.queryStrip tag arg
  | 0x0D => s.startSync tag
  | 0x0E => s.surfaceReset tag
  | _ => s.writeResult tag .unknownCommand (code.setWidth 16)

/-- A command is taken: refused BUSY while LOAD_TAPER or SYNC is in progress, and carried out otherwise (R191). -/
def State.takeCommand (s : State) (code tag : BitVec 8) (arg : BitVec 16) : State :=
  match s.ctl.busy with
  | some b => s.writeResult tag .busy b.code
  | none => s.runCommand code tag arg

/-! ## The control area map (R188, Table 11.1) -/

/-- A staging word is taken into its block's copy (R26, R43, R122, R182); the status words and the offsets of Table 11.1's gaps take none. -/
def State.stage (s : State) (o : Nat) (w : Word) : State :=
  if h : 0x040 ≤ o ∧ o < 0x080 then
    { s with windows := { s.windows with staged := s.windows.staged.set (o - 0x040) w (by omega) } }
  else if h : 0x080 ≤ o ∧ o < 0x0A0 then
    { s with layers := { s.layers with staged := s.layers.staged.set (o - 0x080) w (by omega) } }
  else if h : 0x0A0 ≤ o ∧ o < 0x0B1 then
    s.modTaper fun u => { u with staged := u.staged.set (o - 0x0A0) w (by omega) }
  else if h : 0x180 ≤ o ∧ o < 0x198 then
    s.modMeter fun e => { e with stagedProfiles := e.stagedProfiles.set (o - 0x180) w (by omega) }
  else if h : 0x198 ≤ o ∧ o < 0x19C then
    s.modMeter fun e => { e with stagedMap := e.stagedMap.set (o - 0x198) w (by omega) }
  else if h : 0x1A0 ≤ o ∧ o < 0x1D0 then
    s.modMeter fun e => { e with stagedScale := e.stagedScale.set (o - 0x1A0) w (by omega) }
  else s

/-- A full-word write to a control-area word is handed to the block that owns it (R188, Table 11.1). -/
def State.controlWrite (s : State) (o : Nat) (w : Word) : State :=
  if o = 0x000 then s.takeCommand (w.extractLsb' 0 8) (w.extractLsb' 8 8) (highHalf w)
  else if o = 0x003 then s.ack w
  else if o = 0x004 then s.setQuiet w
  else if o = 0x005 then s.setRingBase w
  else if o = 0x006 then s.setRingCapacity w
  else if o = 0x008 then s.setConsumer w
  else if h : 0x010 ≤ o ∧ o < 0x02C then s.writeParam (Param.ofIndex ⟨o - 0x010, by omega⟩) w
  else if h : 0x100 ≤ o ∧ o < 0x140 then
    s.writeSettings ⟨(o - 0x100) / 2, by omega⟩ (o % 2 == 1) w
  else s.stage o w

/-! ## Commands: words of the control area -/

/-- CONTROL_AREA_WRITE (R188). -/
def execControlAreaWrite (offset : BitVec 9) (data : Word) (s : State) : Result :=
  live (fun s => s.controlWrite offset.toNat data) s

/-- LIVE_PARAMETER_WRITE (R189). -/
def execLiveParameterWrite (p : Param) (data : Word) (s : State) : Result :=
  live (fun s => s.writeParam p data) s

/-- STRIP_SETTINGS_WRITE (R134). -/
def execStripSettingsWrite (i : StripId) (second : Bool) (data : Word) (s : State) : Result :=
  live (fun s => s.writeSettings i second data) s

/-- ACK_WRITE (R200). -/
def execAckWrite (data : Word) (s : State) : Result := live (fun s => s.ack data) s

/-- QUIET_WRITE (R201). -/
def execQuietWrite (data : Word) (s : State) : Result := live (fun s => s.setQuiet data) s

/-- RING_BASE_WRITE (R202). -/
def execRingBaseWrite (data : Word) (s : State) : Result := live (fun s => s.setRingBase data) s

/-- RING_CAPACITY_WRITE (R202). -/
def execRingCapacityWrite (data : Word) (s : State) : Result := live (fun s => s.setRingCapacity data) s

/-- CONSUMER_WRITE (R204). -/
def execConsumerWrite (data : Word) (s : State) : Result := live (fun s => s.setConsumer data) s

/-! ## Commands: processor commands (R191, R194) -/

/-- UNKNOWN_COMMAND (R191). -/
def execUnknownCommand (code tag : BitVec 8) (arg : BitVec 16) (s : State) : Result :=
  live (fun s => s.takeCommand code tag arg) s

/-- SELECT_LAYER (R126). -/
def execSelectLayer (tag : BitVec 8) (arg : BitVec 16) (s : State) : Result :=
  live (fun s => s.takeCommand 0x01#8 tag arg) s

/-- SET_MODE (R195). -/
def execSetMode (tag : BitVec 8) (arg : BitVec 16) (s : State) : Result :=
  live (fun s => s.takeCommand 0x02#8 tag arg) s

/-- UNLATCH (R196). -/
def execUnlatch (tag : BitVec 8) (arg : BitVec 16) (s : State) : Result :=
  live (fun s => s.takeCommand 0x03#8 tag arg) s

/-- ISOLATE_ON: the ISOLATE command with bit 8 set (R132). -/
def execIsolateOn (tag : BitVec 8) (arg : BitVec 16) (s : State) : Result :=
  live (fun s => s.takeCommand 0x04#8 tag (arg ||| 0x0100#16)) s

/-- ISOLATE_OFF: the ISOLATE command with bit 8 clear (R133). -/
def execIsolateOff (tag : BitVec 8) (arg : BitVec 16) (s : State) : Result :=
  live (fun s => s.takeCommand 0x04#8 tag (arg &&& 0xFEFF#16)) s

/-- RECALIBRATE (R168). -/
def execRecalibrate (tag : BitVec 8) (arg : BitVec 16) (s : State) : Result :=
  live (fun s => s.takeCommand 0x05#8 tag arg) s

/-- CLEAR_FAULT (R166). -/
def execClearFault (tag : BitVec 8) (arg : BitVec 16) (s : State) : Result :=
  live (fun s => s.takeCommand 0x06#8 tag arg) s

/-- CLEAR_ERRORS (R167, R197). -/
def execClearErrors (tag : BitVec 8) (arg : BitVec 16) (s : State) : Result :=
  live (fun s => s.takeCommand 0x07#8 tag arg) s

/-- LOAD_WINDOWS (R29). -/
def execLoadWindows (tag : BitVec 8) (arg : BitVec 16) (s : State) : Result :=
  live (fun s => s.takeCommand 0x08#8 tag arg) s

/-- LOAD_LAYER_MAP (R123). -/
def execLoadLayerMap (tag : BitVec 8) (arg : BitVec 16) (s : State) : Result :=
  live (fun s => s.takeCommand 0x09#8 tag arg) s

/-- LOAD_TAPER (R58). -/
def execLoadTaper (tag : BitVec 8) (arg : BitVec 16) (s : State) : Result :=
  live (fun s => s.takeCommand 0x0A#8 tag arg) s

/-- LOAD_TAPER_COMPLETE: LOAD_TAPER completes when no owned request is left to finish (R60). -/
def execLoadTaperComplete (s : State) : Result := live State.taperCheck s

/-- LOAD_METER_SETUP (R183). -/
def execLoadMeterSetup (tag : BitVec 8) (arg : BitVec 16) (s : State) : Result :=
  live (fun s => s.takeCommand 0x0B#8 tag arg) s

/-- QUERY_STRIP (R198). -/
def execQueryStrip (tag : BitVec 8) (arg : BitVec 16) (s : State) : Result :=
  live (fun s => s.takeCommand 0x0C#8 tag arg) s

/-- SYNC (R199). -/
def execSync (tag : BitVec 8) (arg : BitVec 16) (s : State) : Result :=
  live (fun s => s.takeCommand 0x0D#8 tag arg) s

/-- SYNC_COMPLETE: SYNC completes when no entry it waits for stands (R199). -/
def execSyncComplete (s : State) : Result := live State.syncCheck s

/-- SURFACE_RESET (R194). -/
def execSurfaceReset (tag : BitVec 8) (arg : BitVec 16) (s : State) : Result :=
  live (fun s => s.takeCommand 0x0E#8 tag arg) s

end Sys2Proof.Machine
end

