-- ==== Sys2Proof/Machine/Bus.lean ====
section
/-!
DEFINITION. The image port's commands: requests and beats at the P-port (R4 to R8), the arbiter (R18, R19), issue (R20), responses
(R22 to R24), read forwarding (R25).
-/

namespace Sys2Proof.Machine

open Sys2Proof

/-! ## Arrival (R4, R7, R8) -/

/-- A request stands at the P-port (R4). -/
def ImagePort.hold (p : ImagePort) (kind : ReqKind) (addr : BitVec 24) (lenCode : BitVec 2)
    (parity dropped : Bool) : ImagePort :=
  { p with req := some ⟨kind, addr, lenCode, parity, dropped, false, 0⟩ }

/-- ALERT_N goes low, and its interval ends 2 us from now (R8). -/
def State.alert (s : State) : State :=
  s.modPort fun p => { p with alertEnd := some (s.clock + 2 * Config.us) }

/-- The report of a dropped request: the PARITY_ERROR event, then the parity count with COUNTERS, then PARITY (R7, R205). R7 gives the four no order; the
event comes first, so that a delivered one's EVENT and PRODUCER stand ahead of COUNTERS and SUMMARY, as R203 orders them (DEDUCED, entry 34). -/
def State.reportParity (s : State) (addr : BitVec 24) : State :=
  let t := s.createEvent .parityError (addr.extractLsb' 16 8) (addr.extractLsb' 0 16)
  let u :=
    if t.ctl.parityCount < 255 then
      (t.modCtl fun c => { c with parityCount := c.parityCount + 1 }).requestStatus .counters
    else t
  u.modCauses fun c => { c with parityCause := true }

/-- A request's fields arrive: it becomes the passing claimant, or is dropped for bad parity (R4, R7). The P-port carries one request at a
time. -/
def State.arriveRequest (s : State) (kind : ReqKind) (addr : BitVec 24) (lenCode : BitVec 2)
    (parity : Bool) : State :=
  if s.port.req.isSome then s
  else if parityGood kind addr lenCode parity then
    s.modPort fun p => p.hold kind addr lenCode parity false
  else ((s.modPort fun p => p.hold kind addr lenCode parity true).alert).reportParity addr

/-- The ALERT_N interval ends (R8). -/
def State.endAlert (s : State) : State :=
  match s.port.alertEnd with
  | some t => (s.reach t).modPort fun p => { p with alertEnd := none }
  | none => s

/-! ## The arbiter (R18, R19) -/

/-- The passing request that waits for the M-port (R4). -/
def ImagePort.claimant (p : ImagePort) : Option PortRequest :=
  match p.req with
  | some q => if q.dropped || q.granted then none else some q
  | none => none

/-- Whether the arbiter grants the passing claimant: the port is free, and the injection head does not wait or the guard count is below 4
(R18). -/
def ImagePort.grantsPassing (p : ImagePort) : Bool :=
  p.holder == .nobody && (p.queue.isEmpty || p.guardCount < Config.guardLimit)

/-- Whether the arbiter grants the injection head: the port is free, and no passing request waits or the guard count is 4 (R18). -/
def ImagePort.grantsInjection (p : ImagePort) : Bool :=
  p.holder == .nobody && (p.claimant.isNone || Config.guardLimit ≤ p.guardCount)

/-- The completion list's member for a passing request (R20). -/
def Member.passing : ReqKind → Member
  | .read => .passingRead
  | .write => .passingWrite

/-- The passing request is granted: it is issued unchanged, joins the completion list, and counts on the guard when the queue holds an entry
(R5, R6, R19, R20). -/
def ImagePort.grant (p : ImagePort) (q : PortRequest) : ImagePort :=
  { p with
    req := some { q with granted := true }
    holder := .passing
    members := p.members ++ [Member.passing q.kind]
    guardCount := if p.queue.isEmpty then p.guardCount else p.guardCount + 1
    toMemory := p.toMemory ++ [MOut.request q.kind q.addr q.lenCode q.parity] }

/-- The passing claimant is granted, if the arbiter grants it (R18). -/
def State.grantPassing (s : State) : State :=
  match s.port.claimant with
  | some q => if s.port.grantsPassing then s.modPort fun p => p.grant q else s
  | none => s

/-! ## Issue (R20) -/

/-- An issued entry's member of the completion list, its mark clear (R20). -/
def InjEntry.member (e : InjEntry) : Member :=
  match e.body with
  | .position c code order => .position c code e.addr order false
  | .fetch c seq order => .fetch c seq e.addr order
  | .status w _ => .status w e.addr
  | .event _ _ => .event e.addr

/-- A request of the part's own at the M-port, with the parity R2 asks for. -/
def ownRequest (kind : ReqKind) (addr : Nat) (lenCode : BitVec 2) : MOut :=
  .request kind (BitVec.ofNat 24 addr) lenCode (parityFor kind (BitVec.ofNat 24 addr) lenCode)

/-- What an entry puts out at its issue: its request and its write beats (Table 1.3). An EVENT has two beats, length code 1; that it is one request for a
slot at the last word address too, where R202 puts the second word at 0 and R2 does not wrap, is the model's choice (DESIGN CHOICE, entry 22). -/
def InjEntry.out (e : InjEntry) : List MOut :=
  match e.body with
  | .position _ code order =>
    [ownRequest .write e.addr 0#2, .writeBeat (codeWord order code) (codeEnables order)]
  | .fetch _ _ _ => [ownRequest .read e.addr 0#2]
  | .status _ value => [ownRequest .write e.addr 0#2, .writeBeat value allBytes]
  | .event first second =>
    [ownRequest .write e.addr 1#2, .writeBeat first allBytes, .writeBeat second allBytes]

/-- The head is issued: it leaves the queue and joins the completion list, and the guard count becomes 0. A write's beats go out now; a FETCH
holds the M-port until its response (R19, R20, entry 10). -/
def ImagePort.issue (p : ImagePort) (e : InjEntry) (rest : List InjEntry) : ImagePort :=
  { p with
    queue := rest
    members := p.members ++ [e.member]
    guardCount := 0
    holder := if e.isFetch then .issuedFetch else .nobody
    toMemory := p.toMemory ++ e.out }

/-- The injection head is granted and issued, if the arbiter grants it (R18, R20); a SYNC that waited for it may complete (R199). -/
def State.issueHead (s : State) : State :=
  match s.port.queue with
  | e :: rest =>
    if s.port.grantsInjection then (s.modPort fun p => p.issue e rest).syncCheck else s
  | [] => s

/-! ## Passing write beats (R5) -/

/-- The beat is held: it waits for a conversion slot (R5, R52). -/
def State.holdBeat (s : State) (data : Word) (e : Enables) : State :=
  (s.modPort fun p => { p with heldBeat := some (data, e) }).wait .beat

/-- The beat is accepted: it passes to the M-port and takes its effects (R5, R10). -/
def State.acceptBeat (s : State) (q : PortRequest) (data : Word) (e : Enables) : State :=
  let t := (s.modPort fun p => p.passBeat q data e).dataBeat q.beatAddr data e
  match s.decodeBeat q.beatAddr with
  | .control o => if e = allBytes then t.controlWrite o data else t
  | .fader _ _ => t
  | .meter _ _ => t
  | .outside => t

/-- The granted passing write at the P-port, when no beat of it is held. -/
def ImagePort.openWrite (p : ImagePort) : Option PortRequest :=
  match p.req with
  | some q =>
    if q.granted && !q.dropped && q.kind == .write && p.heldBeat.isNone then some q else none
  | none => none

/-- The next write beat is presented: it is accepted, or held (R5). -/
def State.presentBeat (s : State) (data : Word) (e : Enables) : State :=
  match s.port.openWrite with
  | some q =>
    if s.mustHold q.beatAddr data e then s.holdBeat data e else s.acceptBeat q data e
  | none => s

/-! ## Passing read beats (R6, R25) -/

/-- One entry merged into a read beat's data (R25). -/
def InjEntry.mergeInto (addr : Nat) (data : Word) (e : InjEntry) : Word :=
  match e.body with
  | .position _ code order =>
    if e.addr = addr then mergeBytes (codeEnables order) data (codeWord order code) else data
  | .fetch _ _ _ => data
  | .status _ value => if e.addr = addr then value else data
  | .event first second =>
    if e.addr = addr then first
    else if (e.addr + 1) % Config.addressSpace = addr then second
    else data

/-- Read forwarding: the unissued entries merged in queue order (R25). -/
def forward (queue : List InjEntry) (addr : Nat) (data : Word) : Word :=
  queue.foldl (InjEntry.mergeInto addr) data

/-- The granted passing read at the P-port. -/
def ImagePort.openRead (p : ImagePort) : Option PortRequest :=
  match p.req with
  | some q => if q.granted && !q.dropped && q.kind == .read then some q else none
  | none => none

/-- A read beat passes to the P-port; the last one carries the status and frees both ports (R6, R18). -/
def ImagePort.returnBeat (p : ImagePort) (q : PortRequest) (data : Word) (status : RespStatus) : ImagePort :=
  let word := forward p.queue q.beatAddr data
  if q.atLast then
    { p with
      req := none, holder := .nobody, members := p.members.drop 1
      toProcessor := p.toProcessor ++ [POut.readBeat word, POut.response status] }
  else
    { p with
      req := some { q with done := q.done + 1 }, toProcessor := p.toProcessor ++ [POut.readBeat word] }

/-- A data beat returns from memory. The status of the last beat belongs to the oldest member (R6, R20). -/
def State.readReturns (s : State) (data : Word) (status : RespStatus) : State :=
  match s.port.openRead with
  | some q =>
    if q.atLast && s.port.members.head? != some .passingRead then s
    else s.modPort fun p => p.returnBeat q data status
  | none => s

/-! ## Responses (R3, R5, R22 to R24) -/

/-- The oldest member leaves the completion list (R20). -/
def ImagePort.dropMember (p : ImagePort) : ImagePort := { p with members := p.members.drop 1 }

/-- The ERROR of each dropped write that now stands first is returned (R3, R7). -/
def ImagePort.flushDropped (p : ImagePort) : ImagePort :=
  { p with
    owed := p.owed.dropWhile (· == .droppedWrite)
    toProcessor := p.toProcessor ++
      (p.owed.takeWhile (· == .droppedWrite)).map fun _ => POut.response .error }

/-- Memory's response to a passing write is returned unchanged (R5). -/
def ImagePort.answerWrite (p : ImagePort) (status : RespStatus) : ImagePort :=
  ImagePort.flushDropped
    { p.dropMember with
      owed := p.owed.drop 1, toProcessor := p.toProcessor ++ [POut.response status] }

/-- Memory answers the oldest member, a passing write whose last beat has gone (R5). -/
def State.writeAnswered (s : State) (status : RespStatus) : State :=
  match s.port.members, s.port.owed with
  | .passingWrite :: _, .memory :: _ => s.modPort fun p => p.answerWrite status
  | _, _ => s

/-- An issued POSITION has landed (R22). -/
def State.positionLands (s : State) (c : ChanId) (code : Code) (addr : Nat) (order : WordOrder)
    (superseded : Bool) : State :=
  if !superseded && s.home c == some (addr, order) then
    s.setChan c { s.chan c with image := some code }
  else s

/-- Memory answers the oldest member, a POSITION (R22). -/
def State.positionAnswered (s : State) (status : RespStatus) : State :=
  match s.port.members with
  | .position c code addr order superseded :: _ =>
    let t := s.modPort ImagePort.dropMember
    match status with
    | .ok => t.positionLands c code addr order superseded
    | .error => t.createEvent .writebackError (BitVec.ofNat 8 c.val) 1#16
  | _ => s

/-- A fetched code is applied when the sequence number is the channel's, and a conversion is requested for a shown channel (R37, R38). -/
def State.applyFetch (s : State) (c : ChanId) (seq : BitVec 8) (code : Code) : State :=
  if (s.chan c).seq = seq then
    let t := s.setChan c ⟨some code, some code, seq⟩
    match t.shownBy c with
    | some _ => t.convertOrWait ⟨.levelToTravel c code seq, false⟩ (.level c true false)
    | none => t
  else s

/-- Memory answers the oldest member, a FETCH: it frees the M-port, and its word is applied or its failure reported (R20, R23, R39). The word is applied
only if the channel's home is still the FETCH's (R28), and discarded otherwise (DEDUCED, entry 35). -/
def State.fetchAnswered (s : State) (data : Word) (status : RespStatus) : State :=
  match s.port.members with
  | .fetch c seq addr order :: _ =>
    let t := s.modPort fun p => { p.dropMember with holder := .nobody }
    match status with
    | .ok => if s.home c = some (addr, order) then t.applyFetch c seq (codeHalf order data) else t
    | .error => t.fetchFailed c 1#16
  | _ => s

/-- Memory answers the oldest member, a STATUS or EVENT write (R24). -/
def State.statusAnswered (s : State) : State :=
  match s.port.members with
  | .status _ _ :: _ => s.modPort ImagePort.dropMember
  | .event _ :: _ => s.modPort ImagePort.dropMember
  | _ => s

/-! ## Dropped requests (R7) -/

/-- The word a dropped read returns (R7). -/
def allOnes : Word := 0xFFFFFFFF#32

/-- A beat of a dropped write is accepted and discarded; ERROR follows the last one, in P-port order (R3, R7). -/
def ImagePort.dropWriteBeat (p : ImagePort) (q : PortRequest) : ImagePort :=
  if q.atLast then
    ImagePort.flushDropped { p with req := none, owed := p.owed ++ [Owed.droppedWrite] }
  else { p with req := some { q with done := q.done + 1 } }

/-- A beat of a dropped read is returned with all bits set; the last one carries ERROR, once no response is owed (R3, R7, entry 11). -/
def ImagePort.dropReadBeat (p : ImagePort) (q : PortRequest) : ImagePort :=
  if q.atLast then
    if p.owed.isEmpty then
      { p with
        req := none
        toProcessor := p.toProcessor ++ [POut.readBeat allOnes, POut.response .error] }
    else p
  else
    { p with
      req := some { q with done := q.done + 1 }
      toProcessor := p.toProcessor ++ [POut.readBeat allOnes] }

/-- A beat of the dropped request at the P-port (R7). -/
def ImagePort.dropBeat (p : ImagePort) : ImagePort :=
  match p.req with
  | some q =>
    if q.dropped then
      match q.kind with
      | .write => p.dropWriteBeat q
      | .read => p.dropReadBeat q
    else p
  | none => p

/-! ## Commands -/

/-- PPORT_REQUEST (R4). -/
def execPportRequest (kind : ReqKind) (addr : BitVec 24) (lenCode : BitVec 2) (parity : Bool) (s : State) :
    Result :=
  live (fun s => s.arriveRequest kind addr lenCode parity) s

/-- ALERT_TIMEOUT (R8). -/
def execAlertTimeout (s : State) : Result := live State.endAlert s

/-- PASSING_GRANT (R18). -/
def execPassingGrant (s : State) : Result := live State.grantPassing s

/-- INJECTION_ISSUE (R20). -/
def execInjectionIssue (s : State) : Result := live State.issueHead s

/-- WRITE_BEAT_ACCEPT (R5). -/
def execWriteBeatAccept (data : Word) (e : Enables) (s : State) : Result :=
  live (fun s => s.presentBeat data e) s

/-- READ_BEAT_RETURN (R6). -/
def execReadBeatReturn (data : Word) (status : RespStatus) (s : State) : Result :=
  live (fun s => s.readReturns data status) s

/-- MEMORY_WRITE_RESPONSE (R5). -/
def execMemoryWriteResponse (status : RespStatus) (s : State) : Result :=
  live (fun s => s.writeAnswered status) s

/-- POSITION_RESPONSE (R22). -/
def execPositionResponse (status : RespStatus) (s : State) : Result :=
  live (fun s => s.positionAnswered status) s

/-- FETCH_RESPONSE (R23). -/
def execFetchResponse (data : Word) (status : RespStatus) (s : State) : Result :=
  live (fun s => s.fetchAnswered data status) s

/-- STATUS_EVENT_RESPONSE: whatever the status, nothing further happens (R24). -/
def execStatusEventResponse (_status : RespStatus) (s : State) : Result := live State.statusAnswered s

/-- DROPPED_REQUEST_BEAT (R7). -/
def execDroppedRequestBeat (s : State) : Result := live (fun s => s.modPort ImagePort.dropBeat) s

end Sys2Proof.Machine
end

