-- ==== Sys2Proof/Machine/Drive.lean ====
section
/-!
DEFINITION. The drive supervisor's commands: grants under the start budget, rail wake ends and idle-off (08).
-/

namespace Sys2Proof.Machine

open Sys2Proof

/-! ## Eligibility (R148) -/

/-- The clock in whole microseconds, to which grant moments are kept (R147). That a moment between two of them is rounded down is the model's choice: the
rule names no term of R1 (DESIGN CHOICE, entry 31). -/
def State.nowUs (s : State) : Nat := s.clock / Config.us

/-- Whether a group's rail is ON (R148). -/
def State.railOn (s : State) (g : GroupId) : Bool :=
  match s.rail g with
  | .on _ => true
  | .off => false
  | .waking _ => false

/-- The grants of the history that lie within the preceding W_start at a moment (R147). -/
def State.grantsWithin (s : State) (n : Nat) : Nat :=
  s.drive.history.countP fun h => n - h.moment < s.param .wStart * 1000

/-- Whether a latest grant, if there is one, is at least a spacing before a moment (R148). -/
def spaced (latest : Option Nat) (spacing n : Nat) : Bool :=
  match latest with
  | none => true
  | some g => g + spacing ≤ n

/-- Whether an entry is eligible at a moment, in microseconds (R148). -/
def State.eligible (s : State) (n : Nat) (e : StartEntry) : Bool :=
  let g := groupOf e.strip
  s.railOn g && s.grantsWithin n < s.param .bStart &&
  spaced (s.drive.groupLatest[g.val]) (s.param .tSame) n && spaced s.drive.anyLatest (s.param .tAny) n

/-- The end of a spacing. -/
def spacedFrom (latest : Option Nat) (spacing : Nat) : Nat :=
  match latest with
  | none => 0
  | some g => g + spacing

/-- The moments, from now on, at which eligibility can change by time alone: a spacing or a grant's W_start runs out (R150). -/
def State.turningMoments (s : State) : List Nat :=
  s.nowUs ::
    (s.drive.queue.map (fun e => spacedFrom s.drive.groupLatest[(groupOf e.strip).val] (s.param .tSame)) ++
      [spacedFrom s.drive.anyLatest (s.param .tAny)] ++
      s.drive.history.map fun h => h.moment + s.param .wStart * 1000).filter (s.nowUs < ·)

/-- The first moment at which the start queue holds an eligible entry, if time alone brings one (R148, R150). -/
def State.grantMoment (s : State) : Option Nat :=
  (s.turningMoments.filter fun n => s.drive.queue.any (s.eligible n)).min?

/-- The grant of an entry at a moment: it leaves the queue, joins the history, and its strip enters MOVING or begins its run (R149). -/
def State.grantEntry (s : State) (n : Nat) (e : StartEntry) : State :=
  let t := (s.reach (n * Config.us)).modDrive fun d =>
    { d with
      history := (d.history ++ [GrantRec.mk n (groupOf e.strip)]).drop (d.history.length + 1 - 32)
      groupLatest := d.groupLatest.set (groupOf e.strip).val (some n)
      anyLatest := some n }
  match e.purpose with
  | .move =>
    (t.enter e.strip .moving).modStrip e.strip fun p => { p with r := p.m, v := 0, moveMarked := false }
  | .calibrate => (t.enter e.strip .calibrating).beginRun e.strip

/-- Grant the oldest eligible entry at the first moment that has one (R148, R149). -/
def State.grantOldest (s : State) : State :=
  match s.grantMoment with
  | none => s
  | some n =>
    match s.drive.queue.find? (s.eligible n) with
    | some e => s.grantEntry n e
    | none => s

/-! ## Rails (R140 to R142) -/

/-- The strips of a group, in order (3.4). -/
def groupStrips (g : GroupId) : List StripId := allStrips.filter fun i => groupOf i == g

/-- ON_WAKE arming of one strip (R141). -/
def State.armOnWake (i : StripId) (s : State) : State :=
  let p := s.strip i
  if p.policy = .onWake ∧ p.calibration.isSome then s.setRecal i
  else if p.recalPending then s.actOnRecal i
  else s

/-- A rail becomes ON at its wake end: its idle start is the wake end if the group is inactive, and recalibration is armed (R140, R141). -/
def State.endWake (s : State) (g : GroupId) (wakeEnd : Nat) : State :=
  let t := s.reach wakeEnd
  let u := t.setRail g (.on (if t.groupActive g then none else some wakeEnd))
  u.forStrips (groupStrips g) State.armOnWake

/-- An idle rail goes OFF one idle-off after its idle start, unless idle-off is 0 (R142). -/
def State.idleOff (s : State) (g : GroupId) : State :=
  match s.rail g with
  | .on (some start) =>
    if s.param .idleOff = 0 then s
    else (s.reach (start + s.param .idleOff * Config.ms)).setRail g .off
  | .on none => s
  | .off => s
  | .waking _ => s

/-! ## Commands -/

/-- GRANT (R149). -/
def execGrant (s : State) : Result := live State.grantOldest s

/-- RAIL_WAKE_END (R140). -/
def execRailWakeEnd (g : GroupId) (s : State) : Result :=
  live (fun s =>
    match s.rail g with
    | .waking wakeEnd => s.endWake g wakeEnd
    | .off => s
    | .on _ => s) s

/-- RAIL_IDLE_OFF (R142). -/
def execRailIdleOff (g : GroupId) (s : State) : Result := live (fun s => s.idleOff g) s

end Sys2Proof.Machine
end

