-- ==== Sys2Proof/Machine/Reset.lean ====
section
/-!
DEFINITION. Power-on reset and its end (R3, R87, R103), surface time (R190), and the taper unit's commands (R50, R53 to R56).
-/

namespace Sys2Proof.Machine

open Sys2Proof

/-! ## PORESET_N (R3, R87) -/

/-- PORESET_N falls: every piece of state takes its power-on value. The strap and touch pins, the commands that wait and the record of what was
put out are outside the part, and stay (R3, R103). -/
def State.fallReset (s : State) : State :=
  { State.powerOn with
    pending := s.pending
    strap := s.strap
    strips := s.strips.map fun p => { Strip.powerOn with rawTouch := p.rawTouch }
    port := { ImagePort.powerOn with toProcessor := s.port.toProcessor, toMemory := s.port.toMemory } }

/-- A pressed touch input starts a PRESS timer (R103). -/
def State.pressAtRelease (i : StripId) (s : State) : State :=
  if (s.strip i).rawTouch then s.startDebounce i true else s

/-- PORESET_N rises: surface time, the slice timer and the frame timer start, and pressed inputs start their timers (R103, R154, R172, R190). -/
def State.riseReset (s : State) : State :=
  let t := { s with inReset := false, sliceDue := s.clock + 125 * Config.ms }
  let u := (t.modMeter fun e => { e with frameDue := s.clock + s.param .framePeriod * Config.ms }).modCtl
    fun c => { c with nextTick := s.clock + 1 * Config.ms }
  u.forStrips allStrips State.pressAtRelease

/-- A millisecond of surface time passes (R190). -/
def State.tick (s : State) : State :=
  (s.reach s.ctl.nextTick).modCtl fun c =>
    { c with time := c.time + 1#16, nextTick := c.nextTick + 1 * Config.ms }

/-- POWER_ON_RESET (R3). -/
def execPowerOnReset (s : State) : Result := .next s.fallReset

/-- PORESET_RELEASE (R87). -/
def execPoresetRelease (s : State) : Result := .next (if s.inReset then s.riseReset else s)

/-- SURFACE_TIME_TICK (R190). -/
def execSurfaceTimeTick (s : State) : Result := live State.tick s

/-! ## Conversions (R50, R53 to R56) -/

/-- CONVERSION_START: the head is started when the unit is idle (R50). -/
def execConversionStart (s : State) : Result := live State.startHead s

/-- Whether a conversion's work is LEVEL_TO_TRAVEL. -/
def ConvWork.isLevelToTravel : ConvWork → Bool
  | .levelToTravel _ _ _ => true
  | .travelToLevel _ _ _ => false
  | .threshold _ _ _ => false

/-- Whether a conversion's work is TRAVEL_TO_LEVEL. -/
def ConvWork.isTravelToLevel : ConvWork → Bool
  | .levelToTravel _ _ _ => false
  | .travelToLevel _ _ _ => true
  | .threshold _ _ _ => false

/-- Whether a conversion's work is a THRESHOLD. -/
def ConvWork.isThreshold : ConvWork → Bool
  | .levelToTravel _ _ _ => false
  | .travelToLevel _ _ _ => false
  | .threshold _ _ _ => true

/-- LEVEL_TO_TRAVEL_COMPLETE (R54). -/
def execLevelToTravelComplete (s : State) : Result :=
  live (fun s => if s.runningWork.any ConvWork.isLevelToTravel then s.finishConversion else s) s

/-- TRAVEL_TO_LEVEL_COMPLETE (R55). -/
def execTravelToLevelComplete (s : State) : Result :=
  live (fun s => if s.runningWork.any ConvWork.isTravelToLevel then s.finishConversion else s) s

/-- THRESHOLD_COMPLETE (R56). -/
def execThresholdComplete (s : State) : Result :=
  live (fun s => if s.runningWork.any ConvWork.isThreshold then s.finishConversion else s) s

/-- SLOT_WAITER_SERVE: waiters are served for the slots that are free, and LOAD_TAPER completes if its last owned request is finished by it
(R53, R60). -/
def execSlotWaiterServe (s : State) : Result := live (fun s => s.serveSlots.taperCheck) s

end Sys2Proof.Machine
end

