-- ==== Sys2Proof/Machine/Dispatch.lean ====
section
/-!
DEFINITION. One arm for each command: its meaning, called by name.
-/

namespace Sys2Proof.Machine

open Sys2Proof

def exec (i : Instr) (s : State) : Host.Outcome State Fault Refusal :=
  match i with
  | .powerOnReset => Sys2Proof.Machine.execPowerOnReset s
  | .poresetRelease => Sys2Proof.Machine.execPoresetRelease s
  | .surfaceTimeTick => Sys2Proof.Machine.execSurfaceTimeTick s
  | .sensorReading strip raw => Sys2Proof.Machine.execSensorReading strip raw s
  | .pportRequest kind addr lenCode parity => Sys2Proof.Machine.execPportRequest kind addr lenCode parity s
  | .alertTimeout => Sys2Proof.Machine.execAlertTimeout s
  | .passingGrant => Sys2Proof.Machine.execPassingGrant s
  | .injectionIssue => Sys2Proof.Machine.execInjectionIssue s
  | .writeBeatAccept data enables => Sys2Proof.Machine.execWriteBeatAccept data enables s
  | .readBeatReturn data status => Sys2Proof.Machine.execReadBeatReturn data status s
  | .memoryWriteResponse status => Sys2Proof.Machine.execMemoryWriteResponse status s
  | .positionResponse status => Sys2Proof.Machine.execPositionResponse status s
  | .fetchResponse data status => Sys2Proof.Machine.execFetchResponse data status s
  | .statusEventResponse status => Sys2Proof.Machine.execStatusEventResponse status s
  | .controlAreaWrite offset data => Sys2Proof.Machine.execControlAreaWrite offset data s
  | .liveParameterWrite param data => Sys2Proof.Machine.execLiveParameterWrite param data s
  | .stripSettingsWrite strip second data => Sys2Proof.Machine.execStripSettingsWrite strip second data s
  | .ackWrite data => Sys2Proof.Machine.execAckWrite data s
  | .quietWrite data => Sys2Proof.Machine.execQuietWrite data s
  | .ringBaseWrite data => Sys2Proof.Machine.execRingBaseWrite data s
  | .ringCapacityWrite data => Sys2Proof.Machine.execRingCapacityWrite data s
  | .consumerWrite data => Sys2Proof.Machine.execConsumerWrite data s
  | .unknownCommand code tag arg => Sys2Proof.Machine.execUnknownCommand code tag arg s
  | .selectLayer tag arg => Sys2Proof.Machine.execSelectLayer tag arg s
  | .setMode tag arg => Sys2Proof.Machine.execSetMode tag arg s
  | .unlatch tag arg => Sys2Proof.Machine.execUnlatch tag arg s
  | .isolateOn tag arg => Sys2Proof.Machine.execIsolateOn tag arg s
  | .isolateOff tag arg => Sys2Proof.Machine.execIsolateOff tag arg s
  | .recalibrate tag arg => Sys2Proof.Machine.execRecalibrate tag arg s
  | .clearFault tag arg => Sys2Proof.Machine.execClearFault tag arg s
  | .clearErrors tag arg => Sys2Proof.Machine.execClearErrors tag arg s
  | .loadWindows tag arg => Sys2Proof.Machine.execLoadWindows tag arg s
  | .loadLayerMap tag arg => Sys2Proof.Machine.execLoadLayerMap tag arg s
  | .loadTaper tag arg => Sys2Proof.Machine.execLoadTaper tag arg s
  | .loadTaperComplete => Sys2Proof.Machine.execLoadTaperComplete s
  | .loadMeterSetup tag arg => Sys2Proof.Machine.execLoadMeterSetup tag arg s
  | .queryStrip tag arg => Sys2Proof.Machine.execQueryStrip tag arg s
  | .sync tag arg => Sys2Proof.Machine.execSync tag arg s
  | .syncComplete => Sys2Proof.Machine.execSyncComplete s
  | .surfaceReset tag arg => Sys2Proof.Machine.execSurfaceReset tag arg s
  | .conversionStart => Sys2Proof.Machine.execConversionStart s
  | .levelToTravelComplete => Sys2Proof.Machine.execLevelToTravelComplete s
  | .travelToLevelComplete => Sys2Proof.Machine.execTravelToLevelComplete s
  | .thresholdComplete => Sys2Proof.Machine.execThresholdComplete s
  | .slotWaiterServe => Sys2Proof.Machine.execSlotWaiterServe s
  | .servoSample strip => Sys2Proof.Machine.execServoSample strip s
  | .settled strip => Sys2Proof.Machine.execSettled strip s
  | .settleTimeout strip => Sys2Proof.Machine.execSettleTimeout strip s
  | .calStopFound strip => Sys2Proof.Machine.execCalStopFound strip s
  | .calPhaseTimeout strip => Sys2Proof.Machine.execCalPhaseTimeout strip s
  | .touchInputChange strip pressed => Sys2Proof.Machine.execTouchInputChange strip pressed s
  | .debounceExpiry strip => Sys2Proof.Machine.execDebounceExpiry strip s
  | .readbackExpiry strip => Sys2Proof.Machine.execReadbackExpiry strip s
  | .grant => Sys2Proof.Machine.execGrant s
  | .railWakeEnd group => Sys2Proof.Machine.execRailWakeEnd group s
  | .railIdleOff group => Sys2Proof.Machine.execRailIdleOff group s
  | .sliceTimerExpiry => Sys2Proof.Machine.execSliceTimerExpiry s
  | .frameExpiry => Sys2Proof.Machine.execFrameExpiry s
  | .peakHoldEnd chan => Sys2Proof.Machine.execPeakHoldEnd chan s
  | .overLatchEnd chan => Sys2Proof.Machine.execOverLatchEnd chan s
  | .staleEntry chan => Sys2Proof.Machine.execStaleEntry chan s
  | .droppedRequestBeat => Sys2Proof.Machine.execDroppedRequestBeat s
  | .meterShiftEnd => Sys2Proof.Machine.execMeterShiftEnd s

end Sys2Proof.Machine
end

