-- ==== Sys2Proof/Machine/Step.lean ====
section
/-!
DEFINITION. One step: the command at the front of the queue is taken, or the part idles for a microsecond.
-/

namespace Sys2Proof.Machine

open Sys2Proof

/-- The part idles: with no command waiting, 1 us of the clock passes and nothing else changes (entry 2). -/
def State.idle (s : State) : State := { s with clock := s.clock + 1 * Config.us }

/-- One step: the command at the front of the queue, on the state with the queue's rest (entry 1). -/
def step (s : State) : Host.Outcome State Fault Refusal :=
  match s.pending with
  | [] => .next s.idle
  | c :: rest => exec c { s with pending := rest }

/-- `s` with the command that a word of the table spells put at the front of its queue; unchanged where the word spells none. -/
def State.withFetchWord (s : State) (nbits w : Nat) : State :=
  match Sys2Proof.decodeTableWord nbits w with
  | some c => { s with pending := c :: s.pending }
  | none => s

end Sys2Proof.Machine
end

