-- ==== Sys2Proof/Safety.lean ====
section
/-!
DEFINITION. The laws the spec says always hold, as properties of one state: a run is safe when every state of it has them.
-/

namespace Sys2Proof.Machine

open Sys2Proof

/-! ## Parameters and tables -/

/-- Every live parameter lies in its range (R189, Table 11.2). -/
def State.paramsInRange (s : State) : Prop :=
  ∀ p : Fin 28, (Param.ofIndex p).spec.low ≤ s.ctl.params[p.val] ∧
    s.ctl.params[p.val] ≤ (Param.ofIndex p).spec.high

/-- A taper table that LOAD_TAPER would pass: travels from 0 to 4095 and levels from -1440 to 192, both strictly rising (R42, R58). -/
def Taper.wellFormed (tp : Taper) : Prop :=
  tp[0].travel = 0 ∧ tp[16].travel = 4095 ∧ -1440 ≤ tp[0].level ∧ tp[16].level ≤ 192 ∧
  ∀ i : Fin 16, tp[i.val].travel < tp[i.val + 1].travel ∧ tp[i.val].level < tp[i.val + 1].level

/-- The active table, and the table of a running conversion, are well formed (R42, R50, R58). -/
def State.tapersWellFormed (s : State) : Prop :=
  s.taper.active.wellFormed ∧ ∀ run, s.taper.running = some run → run.table.wellFormed

/-! ## Strips -/

/-- A strip's drive and travels lie in their ranges (R63), as do its speed, its thresholds and its calibration readings (Tables 4.1, 7.2,
9.1). -/
def Strip.inRange (p : Strip) : Prop :=
  p.drive.natAbs ≤ 1023 ∧ p.m ≤ 4095 ∧ p.r ≤ 4095 ∧ (∀ t, p.target = some t → t.travel ≤ 4095) ∧
  p.v ≤ 255 ∧ p.onTravel ≤ 4095 ∧ p.offTravel ≤ 4095

/-- Every strip's quantities lie in their ranges (R63). -/
def State.stripsInRange (s : State) : Prop := ∀ i : StripId, (s.strip i).inRange

/-- How a strip's mode, motion state, touch, latch, drive and phase data stand together (R62 to R66, R72, Table 4.1). -/
def Strip.coherent (p : Strip) : Prop :=
  (p.mode = .parked → p.motion = .parked ∨ p.motion = .stalled) ∧
  (p.motion = .parked → p.mode = .parked) ∧
  (p.touched = true → p.motion = .touched ∨ p.motion = .parked ∨ p.motion = .stalled) ∧
  (p.motion = .touched → p.touched = true) ∧
  (p.motion.active = true → p.mode.motorised = true) ∧
  (p.motion = .latched → p.latch = true) ∧
  (p.latch = true → p.mode = .latch) ∧
  (p.drive ≠ 0 → p.motion.driven = true) ∧
  (p.cal.isSome = true ↔ p.motion = .calibrating) ∧
  (p.motion = .moving ∨ p.motion = .settling → p.calibration.isSome = true)

/-- The start queue holds one entry for each QUEUED strip and no other, and a MOVE only for a strip with valid calibration (R66, R144). -/
def State.startsMatch (s : State) : Prop :=
  (s.drive.queue.map StartEntry.strip).Nodup ∧
  (∀ i : StripId, (s.strip i).motion = .queued ↔ i ∈ s.drive.queue.map StartEntry.strip) ∧
  ∀ e ∈ s.drive.queue, e.purpose = .move → (s.strip e.strip).calibration.isSome = true

/-- A driven strip's rail is ON, a QUEUED strip's rail is WAKING or ON, and an ON rail has an idle start exactly when its group is inactive (R64, R138,
R139, R142). -/
def State.railsMatch (s : State) : Prop :=
  (∀ i : StripId, (s.strip i).motion.driven = true → s.railOn (groupOf i) = true) ∧
  (∀ i : StripId, (s.strip i).motion = .queued → s.rail (groupOf i) ≠ .off) ∧
  ∀ g idle, s.rail g = .on idle → (idle = none ↔ s.groupActive g = true)

/-- The motion engine and the drive supervisor agree (R64, R66, R144). -/
def State.motionSafe (s : State) : Prop :=
  (∀ i : StripId, (s.strip i).coherent) ∧ s.startsMatch ∧ s.railsMatch

/-! ## Layers -/

/-- No channel stands twice in one layer (R123). -/
def State.mapsDistinct (s : State) : Prop :=
  ∀ (n : LayerId) (i j : StripId) (c : ChanId),
    s.layerEntry n i = some c → s.layerEntry n j = some c → i = j

/-- No channel is shown on two strips, and a strip's layer fields stand together (R124). -/
def State.layersSafe (s : State) : Prop :=
  (∀ (i j : StripId) (c : ChanId), (s.strip i).shown = some c → (s.strip j).shown = some c → i = j) ∧
  (∀ i : StripId, (s.strip i).isolated = true → (s.strip i).waiting = none ∧ (s.strip i).conflict = none) ∧
  (∀ i : StripId, (s.strip i).conflict.isSome = true →
    (s.strip i).shown = none ∧ (s.strip i).waiting = none) ∧
  s.mapsDistinct

/-! ## Queues -/

/-- The key under which an entry may stand only once: its channel or its status word (R11). -/
inductive EntryKey where
  | position (chan : ChanId)
  | fetch (chan : ChanId)
  | status (word : StatusWord)
deriving DecidableEq, Repr

/-- An entry's key; an EVENT has none (R11, R15). -/
def InjEntry.key (e : InjEntry) : Option EntryKey :=
  match e.body with
  | .position c _ _ => some (.position c)
  | .fetch c _ _ => some (.fetch c)
  | .status w _ => some (.status w)
  | .event _ _ => none

/-- The limits of the injection queue (R11), its creation order, and the guard count's range (R19). -/
def ImagePort.limitsKept (p : ImagePort) : Prop :=
  p.queue.countP InjEntry.isPosition ≤ 32 ∧ p.queue.countP InjEntry.isFetch ≤ 32 ∧
  p.queue.countP InjEntry.isEvent ≤ 12 ∧ (p.queue.filterMap InjEntry.key).Nodup ∧
  p.queue.Pairwise (fun a b => a.stamp < b.stamp) ∧ (∀ e ∈ p.queue, e.stamp < p.nextStamp) ∧
  p.guardCount ≤ 4 ∧ (p.queue = [] → p.guardCount = 0)

/-- The limits of the conversion queue and of the slot wait list: 16 requests, one unstarted request and one waiter for a key, a conversion
running exactly while a request stands, and waiters only before a full queue (R49, R50, R52, R53). -/
def TaperUnit.limitsKept (u : TaperUnit) : Prop :=
  u.queue.length ≤ 16 ∧ (u.unstarted.map fun q => q.work.key).Nodup ∧
  (u.waiters.filterMap Waiter.key).Nodup ∧ (u.queue = [] ↔ u.running = none) ∧
  (u.waiters ≠ [] → u.queue.length = 16)

/-- The conversion queue and the wait list keep their limits, and at most one processor beat waits, one that the P-port holds (R52). -/
def State.conversionsSafe (s : State) : Prop :=
  s.taper.limitsKept ∧ s.taper.waiters.count .beat ≤ (if s.port.heldBeat.isSome then 1 else 0)

/-! ## Meters and the ring -/

/-- A profile whose attack does not overshoot (Table 10.4, R175). -/
def MeterSetup.attacksInRange (w : MeterSetup) : Prop :=
  ∀ k : Fin 4, 1 ≤ w.profiles[k.val].attack ∧ w.profiles[k.val].attack ≤ 256

/-- floor ≤ D ≤ P ≤ 0 for every meter channel (R176), under setups that LOAD_METER_SETUP passes. -/
def MeterEngine.levelsSafe (e : MeterEngine) : Prop :=
  (∀ k : MeterId, -30720 ≤ e.recs[k.val].level ∧ e.recs[k.val].level ≤ e.recs[k.val].peak ∧
    e.recs[k.val].peak ≤ 0) ∧
  e.active.attacksInRange ∧ ∀ w, e.waiting = some w → w.attacksInRange

/-- The ring's capacity is 0 or 16 to 1024, and its indices lie below it, or are 0 while it is disabled (R202 to R204). -/
def Control.ringSafe (c : Control) : Prop :=
  (c.ringCapacity = 0 ∧ c.producer = 0 ∧ c.consumer = 0) ∨
  (16 ≤ c.ringCapacity ∧ c.ringCapacity ≤ 1024 ∧ c.producer < c.ringCapacity ∧
    c.consumer < c.ringCapacity)

/-- A command in progress still waits for something: SYNC for an entry made before its point (R199), LOAD_TAPER for an owned request or waiter (R60). -/
def State.progressOwed (s : State) : Prop :=
  (∀ tag point count, s.ctl.busy = some (.sync tag point count) →
    ∃ e ∈ s.port.queue, e.stamp < point) ∧
  (∀ tag reseats, s.ctl.busy = some (.loadTaper tag reseats) → s.taper.hasOwned = true)

/-! ## Terms of the statements -/

/-- A passing write has the M-port and no beat of it is held: its next beat may be presented (R5). -/
def ImagePort.writes (p : ImagePort) (q : PortRequest) : Prop :=
  p.req = some q ∧ q.granted = true ∧ q.dropped = false ∧ q.kind = .write ∧ p.heldBeat = none

/-- A passing read has the M-port (R6). -/
def ImagePort.reads (p : ImagePort) (q : PortRequest) : Prop :=
  p.req = some q ∧ q.granted = true ∧ q.dropped = false ∧ q.kind = .read

/-- A strip takes processor codes by conversion: untouched, in a motorised mode, its latch disengaged in LATCH mode (R68). -/
def Strip.converts (p : Strip) : Prop :=
  p.mode.motorised = true ∧ p.touched = false ∧ (p.mode = .latch → p.latch = false)

/-- A strip answers processor codes by image restore: WRITE mode, or touched in TOUCH or LATCH mode, or LATCH mode with its latch engaged (R68). -/
def Strip.restores (p : Strip) : Prop :=
  p.mode = .write ∨ (p.touched = true ∧ (p.mode = .touch ∨ p.mode = .latch)) ∨
    (p.mode = .latch ∧ p.latch = true)

/-- A channel's conversion with this code and sequence number stands in the conversion queue, or a waiter of its key stands that will carry it (R49,
R52). -/
def TaperUnit.carries (u : TaperUnit) (c : ChanId) (code : Code) (seq : BitVec 8) : Prop :=
  (∃ q ∈ u.queue, q.work = .levelToTravel c code seq) ∨ u.hasWaiter (.level c) = true

/-- A THRESHOLD request of the key stands in the conversion queue with this code, or a waiter of the key stands (R46, R49, R52). -/
def TaperUnit.carriesThreshold (u : TaperUnit) (i : StripId) (on : Bool) (code : Code) : Prop :=
  (∃ q ∈ u.queue, q.work = .threshold i on code) ∨ u.hasWaiter (.threshold i on) = true

/-- The code and tag of the rows that are processor commands (R194); UNKNOWN_COMMAND names its own code. -/
def commandOf : Instr → Option (BitVec 8 × BitVec 8)
  | .selectLayer tag _ => some (0x01#8, tag)
  | .setMode tag _ => some (0x02#8, tag)
  | .unlatch tag _ => some (0x03#8, tag)
  | .isolateOn tag _ => some (0x04#8, tag)
  | .isolateOff tag _ => some (0x04#8, tag)
  | .recalibrate tag _ => some (0x05#8, tag)
  | .clearFault tag _ => some (0x06#8, tag)
  | .clearErrors tag _ => some (0x07#8, tag)
  | .loadWindows tag _ => some (0x08#8, tag)
  | .loadLayerMap tag _ => some (0x09#8, tag)
  | .loadTaper tag _ => some (0x0A#8, tag)
  | .loadMeterSetup tag _ => some (0x0B#8, tag)
  | .queryStrip tag _ => some (0x0C#8, tag)
  | .sync tag _ => some (0x0D#8, tag)
  | .surfaceReset tag _ => some (0x0E#8, tag)
  | .unknownCommand code tag _ => some (code, tag)
  | _ => none

/-- The strip's servo sample can be taken on a schedule that has started: its latest reading is `raw`, its sample is due at `due`, and no pending channel
waits for adoption (R87, R88, R131). -/
def State.sampling (s : State) (i : StripId) (raw : BitVec 12) (due : Nat) : Prop :=
  s.inReset = false ∧ s.allRead = true ∧ (s.strip i).reading = some raw ∧
    (s.strip i).sampleDue = some due ∧ (s.strip i).readbackDue.isSome = true ∧
    (s.strip i).waiting = none

/-- The drive that position gain, speed gain, position error and signed speed give (R94). -/
def driveOf (kp kv : Nat) (e u : Int) : Int :=
  max (-1023) (min 1023 (((kp : Int) * e + (kv : Int) * u + 32) / 64))

/-- An entry is eligible at a moment in microseconds (R148). -/
def State.mayGrant (s : State) (n : Nat) (e : StartEntry) : Prop :=
  (∃ idle, s.rail (groupOf e.strip) = .on idle) ∧
  (s.drive.history.countP fun h => n - h.moment < s.param .wStart * 1000) < s.param .bStart ∧
  (∀ g, s.drive.groupLatest[(groupOf e.strip).val] = some g → g + s.param .tSame ≤ n) ∧
  (∀ g, s.drive.anyLatest = some g → g + s.param .tAny ≤ n)

/-- What counting `n` errors for a strip changes in its record: the current slice and the error total rise, saturating, and the threshold test sets recal
pending (R155). -/
def State.countsErrors (s : State) (n : Nat) (p p' : Strip) : Prop :=
  p'.slices = (if n = 0 then p.slices
    else match p.slices with
      | c :: rest => min (c + n) 255 :: rest
      | [] => []) ∧
  p'.errorTotal = (if n = 0 then p.errorTotal else min (p.errorTotal + n) 65535) ∧
  p'.recalPending = (p.recalPending || decide (n ≠ 0 ∧ p.policy = .errorThreshold ∧
    s.param .healthThreshold ≠ 0 ∧ s.param .healthThreshold ≤ p'.slices.sum))

/-- A strip meets the deferral condition (R125). -/
def State.defers (s : State) (k : StripId) : Prop :=
  (s.strip k).touched = true ∨ s.param .openProtect ≠ 0 ∧ (s.strip k).line = true

/-- `k` is the lowest strip other than `i` that is conflict-blank on the channel `x` (R130). -/
def State.owedRelease (s : State) (i : StripId) (x : Option ChanId) (k : StripId) : Prop :=
  k ≠ i ∧ x ≠ none ∧ (s.strip k).conflict = x ∧ ∀ j, j < k → j ≠ i → (s.strip j).conflict ≠ x

/-- The strips other than `i` after `i` gave up `x`, or gave up nothing with `x` absent: the strip owed the release defers on `x` or adopts it, and every
other strip is as before (R130). -/
def State.releases (s t : State) (i : StripId) (x : Option ChanId) : Prop :=
  ∀ k, k ≠ i →
    (¬ s.owedRelease i x k → t.strip k = s.strip k) ∧
    (s.owedRelease i x k →
      (s.defers k → t.strip k = { s.strip k with conflict := none, waiting := some x }) ∧
      (¬ s.defers k →
        (t.strip k).shown = x ∧ (t.strip k).conflict = none ∧ (t.strip k).waiting = none ∧
        (t.strip k).opCode = none ∧ (t.strip k).lastReadback = none ∧
        (t.strip k).mode = (s.strip k).mode ∧ (t.strip k).m = (s.strip k).m))

/-- The channel that a strip gave up from one state to another: the one it showed, when it shows another or none (R130). -/
def State.gaveUp (s t : State) (i : StripId) : Option ChanId :=
  if (t.strip i).shown = (s.strip i).shown then none else (s.strip i).shown

/-- The ring has room for an event (R203). -/
def State.ringHasRoom (s : State) : Prop :=
  s.ctl.ringCapacity ≠ 0 ∧ (s.ctl.producer + 1) % s.ctl.ringCapacity ≠ s.ctl.consumer ∧
    s.port.queue.countP InjEntry.isEvent < 12

/-- The ring has room for `n` events, one after the other (R203). -/
def State.ringHasRoomFor (s : State) (n : Nat) : Prop :=
  s.ctl.ringCapacity ≠ 0 ∧ (∀ j, j < n → (s.ctl.producer + j + 1) % s.ctl.ringCapacity ≠ s.ctl.consumer) ∧
    s.port.queue.countP InjEntry.isEvent + n ≤ 12

/-- The slot of the event delivered after `n` others (R203). -/
def Control.slotAfter (c : Control) (n : Nat) : Nat :=
  if n = 0 then c.producer else (c.producer + n) % c.ringCapacity

/-- In `t` stands the EVENT entry of the event created after `n` others since `s`, at its slot, with its serial and the surface time of `s` (R203, Table
11.5). -/
def State.eventAt (s t : State) (n : Nat) (kind : EventKind) (index : BitVec 8) (value : BitVec 16) : Prop :=
  ∃ e ∈ t.port.queue, e.addr = s.ctl.slotAddr (s.ctl.slotAfter n) ∧
    e.body = .event (eventWord0 kind index (s.ctl.serial + BitVec.ofNat 16 n)) (eventWord1 value s.ctl.time)

/-- LAYER_APPLIED of a strip, created after `n` other events: its value is the channel the strip shows, or 256 (R131). -/
def State.announces (s t : State) (i : StripId) (n : Nat) : Prop :=
  s.eventAt t n .layerApplied (BitVec.ofNat 8 i.val)
    (match (t.strip i).shown with
      | some c => BitVec.ofNat 16 c.val
      | none => 256#16)

/-- One event is created from `s` to `t`, and meets its fate: discarded with the ring disabled, lost and counted without room, and delivered else, its entry
behind the EVENT entries that stand, with PRODUCER; a changed cause set asks for SUMMARY (R200, R203, R205). -/
def State.createsEvent (s t : State) (kind : EventKind) (index : BitVec 8) (value : BitVec 16) : Prop :=
  let events : State → List InjEntry := fun u => u.port.queue.filter InjEntry.isEvent
  t.ctl.serial = s.ctl.serial + 1#16 ∧
  (s.ctl.ringCapacity = 0 → events t = events s ∧ t.ctl.producer = s.ctl.producer ∧
    t.ctl.lostCount = s.ctl.lostCount ∧ t.ctl.lostCause = s.ctl.lostCause) ∧
  (s.ctl.ringCapacity ≠ 0 → ¬ s.ringHasRoom → events t = events s ∧ t.ctl.producer = s.ctl.producer ∧
    t.ctl.lostCount = (if s.ctl.lostCount < 65535 then s.ctl.lostCount + 1 else s.ctl.lostCount) ∧
    (s.ctl.lostCount < 65535 → ∃ e ∈ t.port.queue, e.body = .status .counters t.ctl.countersWord) ∧
    t.ctl.lostCause = true) ∧
  (s.ringHasRoom →
    events t = events s ++ [⟨s.port.nextStamp, s.ctl.slotAddr s.ctl.producer,
      .event (eventWord0 kind index s.ctl.serial) (eventWord1 value s.ctl.time)⟩] ∧
    t.ctl.producer = (s.ctl.producer + 1) % s.ctl.ringCapacity ∧ t.ctl.eventsCause = true ∧
    (∃ e ∈ t.port.queue, e.body = .status .producer (BitVec.ofNat 32 t.ctl.producer)) ∧
    t.ctl.lostCount = s.ctl.lostCount ∧ t.ctl.lostCause = s.ctl.lostCause) ∧
  (t.ctl.summaryWord ≠ s.ctl.summaryWord →
    ∃ e ∈ t.port.queue, e.body = .status .summary t.ctl.summaryWord)

/-- A strip's line goes from `s` to `t` and nothing else reports: a change creates FSTART_ON or FSTART_OFF with the measured travel, and without one the image
port and the control unit are as before (R136). -/
def State.lineReported (s t : State) (i : StripId) : Prop :=
  ((t.strip i).line = (s.strip i).line → t.port = s.port ∧ t.ctl = s.ctl) ∧
  ((t.strip i).line ≠ (s.strip i).line → s.createsEvent t
    (if (t.strip i).line then .fstartOn else .fstartOff) (BitVec.ofNat 8 i.val) (BitVec.ofNat 16 (t.strip i).m))

/-- A strip takes a hold (R78): its target is absent, a QUEUED strip with purpose MOVE leaves the start queue for IDLE, or is queued to calibrate when a
calibration is owed (R157), and a MOVING strip settles on its reference; every other state, and everything else of the strip, is kept. -/
def State.tookHold (s t : State) (i : StripId) : Prop :=
  let p := s.strip i
  let owed := p.mode.motorised && !p.touched && p.recalPending
  (p.motion = .queued → s.purposeOf i = some .move →
    t.strip i = { p with
      target := none, motion := if owed then .queued else .idle, v := 0, latch := false, drive := 0
      cal := none } ∧
    (∀ e ∈ t.drive.queue, e.strip = i → owed = true ∧ e.purpose = .calibrate) ∧
    (owed = true → ⟨i, .calibrate⟩ ∈ t.drive.queue)) ∧
  (p.motion = .moving → t.strip i = { p with
    target := none, motion := .settling, v := 0, settled := 0, settleStart := s.ctl.time, speed := .normal
    cal := none }) ∧
  (p.motion ≠ .moving → ¬ (p.motion = .queued ∧ s.purposeOf i = some .move) →
    t.strip i = { p with target := none }) ∧
  (¬ (p.motion = .queued ∧ s.purposeOf i = some .move) →
    ∀ e, e.strip = i → (e ∈ t.drive.queue ↔ e ∈ s.drive.queue))

end Sys2Proof.Machine
end

