-- ==== Sys2Proof/Certificates/Slice0/Obligations.lean ====
section
/-!
DEFINITION. The statements made of the model, block by block, each naming the rules of spec/ it formalises.
-/

open Sys2Proof Sys2Proof.Machine

/-! ## The machine -/

/-- A step is the command at the front of the queue, taken on the state with the queue's rest. The second clause, that an empty queue lets 1 us
pass, is the model's choice (entry 2). -/
def Obligations.StepTakesFrontCommand : Prop :=
  (∀ (c : Instr) (rest : List Instr) (s : State), s.pending = c :: rest →
    step s = exec c { s with pending := rest }) ∧
  (∀ s : State, s.pending = [] → step s = .next { s with clock := s.clock + 4 })

/-- Every command completes in every state: that an event out of place and a command ill formed for its row answer a next state too is the model's choice
(entries 1 and 24). It leaves the commands that wait and the strap pins alone (the strap as a field that stays is the model's choice, entry 8); only
POWER_ON_RESET and PORESET_RELEASE move the reset line, only TOUCH_INPUT_CHANGE a touch pin. That only POWER_ON_RESET turns the clock back is the model's
choice (entries 2 and 30). -/
def Obligations.CommandsCompleteAndKeepPins : Prop :=
  ∀ (c : Instr) (s : State), ∃ t, exec c s = .next t ∧ t.pending = s.pending ∧ t.strap = s.strap ∧
    (c ≠ .powerOnReset → c ≠ .poresetRelease → t.inReset = s.inReset) ∧
    (c ≠ .powerOnReset → s.clock ≤ t.clock) ∧
    (∀ i : StripId, (∀ b, c ≠ .touchInputChange i b) → (t.strip i).rawTouch = (s.strip i).rawTouch)

/-- While PORESET_N is low every command but POWER_ON_RESET, PORESET_RELEASE and TOUCH_INPUT_CHANGE changes nothing (R3, R87, R138), and a touch
input is followed and nothing else (R103). That the blocks' own timers stand still too is the model's reading (entry 9). -/
def Obligations.PartStandsStillInReset : Prop :=
  (∀ (c : Instr) (s : State), s.inReset = true → c ≠ .powerOnReset → c ≠ .poresetRelease →
    (∀ i b, c ≠ .touchInputChange i b) → exec c s = .next s) ∧
  (∀ (i : StripId) (b : Bool) (s : State), s.inReset = true →
    ∃ t, exec (.touchInputChange i b) s = .next t ∧ (t.strip i) = { s.strip i with rawTouch := b } ∧
      (∀ j, j ≠ i → t.strip j = s.strip j) ∧ t = { s with strips := t.strips })

/-- POWER_ON_RESET leaves the power-on values of every block: R3, R8, R11, R19, R20 (the image port), R26, R32 (windows and channels), R42, R43, R49, R52
(the taper unit, its active table and its staged copy that of Table 3.1), R62, R103, R124, R136, R153 (the strips), R122 (layers, the staged map NONE
everywhere), R138, R144, R147 (the drive supervisor), R169, R182 (meters, the active setup and its staged copy those of Table 10.5 and the default scale),
R188 to R191, R200 to R202, R205 (the control unit). Pins, the queue of commands and the record of outputs are outside the part (entries 8, 9, 12). When PORESET_N
rises, surface time starts (R190), the slice timer is due 125 ms later (R154), the frame timer one frame period later (R172), and each strip whose
input reads pressed starts a PRESS timer (R103); nothing else changes. -/
def Obligations.ResetSetsPowerOnValuesAndStartsTimers : Prop :=
  (∀ s : State, ∃ t, exec .powerOnReset s = .next t ∧ t.inReset = true ∧
     t.pending = s.pending ∧ t.strap = s.strap ∧
     (t.port.req = none ∧ t.port.heldBeat = none ∧ t.port.owed = [] ∧ t.port.holder = .nobody ∧
       t.port.members = [] ∧ t.port.guardCount = 0 ∧ t.port.queue = [] ∧ t.alertLow = false) ∧
     (∀ k : Fin 64, t.windows.staged[k.val] = 0#32) ∧
     (∀ n : Fin 16, t.windows.active[n.val].kind = .unused) ∧
     (∀ c : ChanId, t.chan c = ⟨none, none, 0#8⟩) ∧
     (t.taper.active.toList = [⟨0, -1440⟩, ⟨256, -960⟩, ⟨512, -768⟩, ⟨768, -640⟩, ⟨1024, -560⟩, ⟨1280, -480⟩,
         ⟨1536, -400⟩, ⟨1792, -320⟩, ⟨2048, -256⟩, ⟨2304, -192⟩, ⟨2560, -144⟩, ⟨2816, -96⟩, ⟨3072, -48⟩,
         ⟨3328, 0⟩, ⟨3584, 64⟩, ⟨3840, 128⟩, ⟨4095, 192⟩] ∧
       (∀ k : Fin 17, (t.taper.staged[k.val].extractLsb' 0 16).toNat = t.taper.active[k.val].travel ∧
         (t.taper.staged[k.val].extractLsb' 16 16).toInt = t.taper.active[k.val].level) ∧
       t.taper.queue = [] ∧ t.taper.running = none ∧ t.taper.waiters = []) ∧
     (∀ i : StripId, t.strip i = { Strip.powerOn with rawTouch := (s.strip i).rawTouch }) ∧
     (∀ n i, t.layerEntry n i = none) ∧ t.layers.active = 0 ∧
     (∀ k : Fin 32, t.layers.staged[k.val] = 0x0000FFFF#32) ∧
     (∀ g, t.rail g = .off) ∧ t.drive.queue = [] ∧ t.drive.history = [] ∧
     (∀ g : GroupId, t.drive.groupLatest[g.val] = none) ∧ t.drive.anyLatest = none ∧
     (∀ k, t.meterRec k = ⟨none, -30720, -30720, 0, 0, 0, 0, true, ⟨0, 0, false⟩⟩) ∧
     t.meter.active.profiles.toList = [⟨64, 22, 150, -16, 3, 200⟩, ⟨256, 40, 100, -16, 1, 200⟩,
       ⟨16, 10, 200, -16, 3, 200⟩, ⟨64, 22, 150, -16, 3, 200⟩] ∧
     (∀ k : MeterId, t.meter.active.map[k.val] = 0) ∧
     (∀ k : Fin 48, t.meter.active.scale[k.val] = -960 + 20 * (k.val : Int) ∧
       t.meter.stagedScale[k.val].toInt = -960 + 20 * (k.val : Int)) ∧
     t.meter.stagedProfiles.toList.map BitVec.toInt = [64, 22, 150, -16, 3, 200, 256, 40, 100, -16, 1, 200,
       16, 10, 200, -16, 3, 200, 64, 22, 150, -16, 3, 200] ∧
     (∀ k : Fin 4, t.meter.stagedMap[k.val] = 0#32) ∧ t.meter.waiting = none ∧ t.meter.shift = none ∧
     (∀ w, t.ctl.statusValue w = 0#32) ∧ t.ctl.busy = none ∧ t.ctl.causesEmpty = true ∧
     t.ctl.quiet = 0#32 ∧ t.ctl.ringBase = 0 ∧ t.ctl.ringCapacity = 0 ∧ t.ctl.producer = 0 ∧
     t.ctl.consumer = 0 ∧ t.ctl.serial = 0#16 ∧ t.ctl.lostCount = 0 ∧ t.ctl.parityCount = 0 ∧
     t.ctl.time = 0#16 ∧ (∀ p : Param, t.param p = p.spec.default) ∧ t.attnLow = false) ∧
  (∀ s : State, s.inReset = true →
     ∃ t, exec .poresetRelease s = .next t ∧ t.inReset = false ∧
       t.ctl = { s.ctl with nextTick := s.clock + 4000 } ∧ t.sliceDue = s.clock + 125 * 4000 ∧
       t.meter = { s.meter with frameDue := s.clock + s.param .framePeriod * 4000 } ∧
       (∀ i, t.strip i =
         if (s.strip i).rawTouch then
           { s.strip i with debounce := some ⟨true, s.clock + s.param .pressDebounce * 4000⟩ }
         else s.strip i) ∧
       t = { s with
         inReset := t.inReset, ctl := t.ctl, sliceDue := t.sliceDue, meter := t.meter
         strips := t.strips })

/-- Surface time (R190): SURFACE_TIME_TICK adds one, wrapping, at a moment 1 ms after the last, and changes nothing else; no other command but
POWER_ON_RESET changes surface time. That the clock comes to the tick's moment is the model's choice (entry 2). -/
def Obligations.SurfaceTimeCountsMilliseconds : Prop :=
  (∀ s : State, s.inReset = false →
    exec .surfaceTimeTick s = .next { s with
      clock := max s.clock s.ctl.nextTick
      ctl := { s.ctl with time := s.ctl.time + 1#16, nextTick := s.ctl.nextTick + 4000 } }) ∧
  (∀ (c : Instr) (s t : State), c ≠ .surfaceTimeTick → c ≠ .powerOnReset → exec c s = .next t →
    t.ctl.time = s.ctl.time)

/-! ## The image port -/

/-- A request with bad parity is dropped and reported: it never claims the M-port, ALERT_N goes low for 2 us from now, the parity count rises,
saturating, with a COUNTERS entry when it changed, the PARITY cause is set, and a PARITY_ERROR event with the address is created (R7, R8). The event is
discarded with the ring disabled; without room it is lost, the lost count rising, saturating, with COUNTERS, and LOST set; and it is delivered else, the
producer advancing, with PRODUCER (R203, R205). SUMMARY is asked for when the cause set changed (R200).
When the interval ends ALERT_N goes high and nothing else changes. A dropped write's beats are accepted and discarded, and ERROR follows the last
one, after any response still owed; a dropped read's are returned with all bits set, with ERROR on the last one (R3, R7). The bits of the command
and length fields are the model's choice (entry 7), and so is the clock's coming to the interval's end (entry 2). -/
def Obligations.BadParityIsDroppedAndReported : Prop :=
  (∀ (kind : ReqKind) (addr : BitVec 24) (len : BitVec 2) (par : Bool) (s : State),
    s.inReset = false → s.port.req = none → (fieldOnes kind addr len + par.toNat) % 2 = 1 →
    ∃ t, exec (.pportRequest kind addr len par) s = .next t ∧
      t.port.req = some ⟨kind, addr, len, par, true, false, 0⟩ ∧ t.port.claimant = none ∧
      t.port.alertEnd = some (s.clock + 8) ∧ t.alertLow = true ∧
      t.port.members = s.port.members ∧ t.port.holder = s.port.holder ∧
      t.port.toMemory = s.port.toMemory ∧ t.port.toProcessor = s.port.toProcessor ∧
      t.ctl.parityCount = (if s.ctl.parityCount < 255 then s.ctl.parityCount + 1 else s.ctl.parityCount) ∧
      (s.ctl.parityCount < 255 →
        ∃ e ∈ t.port.queue, e.body = .status .counters t.ctl.countersWord) ∧
      t.ctl.parityCause = true ∧
      s.createsEvent t .parityError (addr.extractLsb' 16 8) (addr.extractLsb' 0 16) ∧
      t = { s with port := t.port, ctl := t.ctl }) ∧
  (∀ (m : Nat) (s : State), s.inReset = false → s.port.alertEnd = some m →
    exec .alertTimeout s =
      .next { s with clock := max s.clock m, port := { s.port with alertEnd := none } }) ∧
  (∀ (q : PortRequest) (s : State), s.inReset = false → s.port.req = some q → q.dropped = true →
    (q.done + 1 ≠ lengthOf q.lenCode → exec .droppedRequestBeat s = .next { s with port := { s.port with
      req := some { q with done := q.done + 1 }
      toProcessor := s.port.toProcessor ++
        match q.kind with
        | .write => []
        | .read => [POut.readBeat 0xFFFFFFFF#32] } }) ∧
    (q.done + 1 = lengthOf q.lenCode → s.port.owed = [] →
      exec .droppedRequestBeat s = .next { s with port := { s.port with
        req := none
        toProcessor := s.port.toProcessor ++
          match q.kind with
          | .write => [POut.response .error]
          | .read => [POut.readBeat 0xFFFFFFFF#32, POut.response .error] } }) ∧
    (∀ rest, q.done + 1 = lengthOf q.lenCode → q.kind = .write → s.port.owed = .memory :: rest →
      exec .droppedRequestBeat s = .next { s with port := { s.port with
        req := none, owed := .memory :: (rest ++ [.droppedWrite]) } }))

/-- A passing request (R2, R4, R5, R6, R18, R19, R20). With good parity it becomes the claimant, and nothing else changes. A claimant at a free port
is granted while the guard count is below 4 or no entry waits: it is issued unchanged, joins the completion list, and raises the guard count when
the queue holds an entry. It waits while the port is held, or when an entry waits at guard count 4. The bits of the command and length fields are
the model's choice (entry 7), and so is the grant as a command of its own (entry 3). -/
def Obligations.PassingRequestsClaimAndAreGranted : Prop :=
  (∀ (kind : ReqKind) (addr : BitVec 24) (len : BitVec 2) (par : Bool) (s : State),
    s.inReset = false → s.port.req = none → (fieldOnes kind addr len + par.toNat) % 2 = 0 →
    ∃ t, exec (.pportRequest kind addr len par) s = .next t ∧
      t.port.claimant = some ⟨kind, addr, len, par, false, false, 0⟩ ∧
      t = { s with port := { s.port with req := t.port.req } }) ∧
  (∀ (q : PortRequest) (s : State), s.inReset = false → s.port.claimant = some q →
    (s.port.holder = .nobody → s.port.queue = [] ∨ s.port.guardCount < 4 →
      exec .passingGrant s = .next { s with port := { s.port with
        req := some { q with granted := true }
        holder := .passing
        members := s.port.members ++ [Member.passing q.kind]
        guardCount := if s.port.queue = [] then s.port.guardCount else s.port.guardCount + 1
        toMemory := s.port.toMemory ++ [MOut.request q.kind q.addr q.lenCode q.parity] } }) ∧
    (s.port.holder ≠ .nobody ∨ s.port.queue ≠ [] ∧ 4 ≤ s.port.guardCount →
      exec .passingGrant s = .next s))

/-- The injection head is granted at a free port when no passing request waits or the guard count is 4: it leaves the queue, joins the completion list with a
clear mark, sets the guard count to 0, and goes out as its kind's request (R18, R19, R20, Table 1.3); a FETCH keeps the M-port. A SYNC in progress goes on
while an entry made before its point still stands, and answers DONE with its count when the issued one was the last (R199). Otherwise it waits. That a write's
beats go out with its issue is the model's choice (entry 10), and so are the fields' bits (entry 7) and the one request of an EVENT whose slot begins at the
last word address (entry 22). -/
def Obligations.InjectionHeadIsIssued : Prop :=
  ∀ (e : InjEntry) (rest : List InjEntry) (s : State), s.inReset = false → s.port.queue = e :: rest →
    (s.port.holder = .nobody → s.port.claimant = none ∨ 4 ≤ s.port.guardCount →
      ∃ t, exec .injectionIssue s = .next t ∧ t.port.members = s.port.members ++ [e.member] ∧
        t.port.guardCount = 0 ∧
        t.port.holder = (if e.isFetch then .issuedFetch else .nobody) ∧
        t.port.toMemory = s.port.toMemory ++
          (let own : BitVec 2 → ReqKind → MOut := fun len kind =>
            .request kind (BitVec.ofNat 24 e.addr) len
              (fieldOnes kind (BitVec.ofNat 24 e.addr) len % 2 == 1)
          match e.body with
          | .position _ code .native => [own 0#2 .write, .writeBeat (0#16 ++ code) 0b0011#4]
          | .position _ code .swapped => [own 0#2 .write, .writeBeat (code ++ 0#16) 0b1100#4]
          | .fetch _ _ _ => [own 0#2 .read]
          | .status _ v => [own 0#2 .write, .writeBeat v 0b1111#4]
          | .event a b => [own 1#2 .write, .writeBeat a 0b1111#4, .writeBeat b 0b1111#4]) ∧
        ((∀ tag point count, s.ctl.busy ≠ some (.sync tag point count)) →
          t.port.queue = rest ∧ t.ctl = s.ctl) ∧
        (∀ tag point count, s.ctl.busy = some (.sync tag point count) →
          let u : State := { s with port := { t.port with queue := rest, nextStamp := s.port.nextStamp } }
          ((∃ x ∈ rest, x.stamp < point) → t = u) ∧
          ((∀ x ∈ rest, point ≤ x.stamp) →
            t = ({ u with ctl := { s.ctl with busy := none } } : State).writeResult tag .done
              (BitVec.ofNat 16 count))) ∧
        t = { s with port := t.port, ctl := t.ctl }) ∧
    (s.port.holder ≠ .nobody ∨ s.port.claimant ≠ none ∧ s.port.guardCount < 4 →
      exec .injectionIssue s = .next s)

/-- A full level code written to a fader word (R33, R34, R68 to R70): the beat goes to memory unchanged, the channel becomes SEEN with image and
processor code K, its sequence number rises exactly when the processor code was not K, and the strip that shows it gets a conversion, an image restore at the
channel's home (R12) or nothing. No strip record changes. -/
def Obligations.FullCodeWriteSetsRecord : Prop :=
  ∀ (q : PortRequest) (c : ChanId) (order : WordOrder) (data : Word) (e : Enables) (s : State),
    s.inReset = false → s.port.writes q → s.decodeBeat q.beatAddr = .fader c order →
    coversCode order e = true → s.mustHold q.beatAddr data e = false →
    ∃ t, exec (.writeBeatAccept data e) s = .next t ∧
      (t.chan c = ⟨some (codeHalf order data), some (codeHalf order data),
        if (s.chan c).proc = some (codeHalf order data) then (s.chan c).seq else (s.chan c).seq + 1#8⟩) ∧
      (∀ d, d ≠ c → t.chan d = s.chan d) ∧
      t.port.toMemory = s.port.toMemory ++ [MOut.writeBeat data e] ∧
      (s.shownBy c = none → t.taper = s.taper) ∧
      (∀ i, s.shownBy c = some i → (s.strip i).converts →
        t.taper.carries c (codeHalf order data) (t.chan c).seq) ∧
      (∀ i, s.shownBy c = some i → ¬ (s.strip i).converts → t.taper = s.taper) ∧
      (∀ i op, s.shownBy c = some i → (s.strip i).restores → (s.strip i).opCode = some op →
        s.port.queue.countP InjEntry.isPosition < 32 →
        ∃ x ∈ t.port.queue, ∃ a o, s.home c = some (a, o) ∧ x.addr = a ∧ x.body = .position c op o) ∧
      t = { s with port := t.port, chans := t.chans, taper := t.taper, ctl := t.ctl }

/-- A fader beat that enables one byte of the code half (R35): on a SEEN channel the byte is merged into the image code and the beat is a full-code write of
the merged code, which is handed to the showing strip as one (R34); on an UNSEEN channel nothing of the record changes. A beat that enables neither byte
changes no record. -/
def Obligations.PartialWriteMergesOrIsIgnored : Prop :=
  ∀ (q : PortRequest) (c : ChanId) (order : WordOrder) (data : Word) (e : Enables) (s : State),
    s.inReset = false → s.port.writes q → s.decodeBeat q.beatAddr = .fader c order →
    coversCode order e = false → s.mustHold q.beatAddr data e = false →
    ∃ t, exec (.writeBeatAccept data e) s = .next t ∧
      t.port.toMemory = s.port.toMemory ++ [MOut.writeBeat data e] ∧
      (∀ old, touchesCode order e = true → (s.chan c).image = some old →
        ∃ k : Code, k.extractLsb' 0 8 = (if (orderEnables order e).getLsbD 0
            then (codeHalf order data).extractLsb' 0 8 else old.extractLsb' 0 8) ∧
          k.extractLsb' 8 8 = (if (orderEnables order e).getLsbD 1
            then (codeHalf order data).extractLsb' 8 8 else old.extractLsb' 8 8) ∧
          t.chan c = ⟨some k, some k,
            if (s.chan c).proc = some k then (s.chan c).seq else (s.chan c).seq + 1#8⟩ ∧
          (s.shownBy c = none → t.taper = s.taper) ∧
          (∀ i, s.shownBy c = some i → (s.strip i).converts → t.taper.carries c k (t.chan c).seq) ∧
          (∀ i, s.shownBy c = some i → ¬ (s.strip i).converts → t.taper = s.taper) ∧
          (∀ i op, s.shownBy c = some i → (s.strip i).restores → (s.strip i).opCode = some op →
            s.port.queue.countP InjEntry.isPosition < 32 →
            ∃ x ∈ t.port.queue, ∃ a o, s.home c = some (a, o) ∧ x.addr = a ∧ x.body = .position c op o)) ∧
      (touchesCode order e = false ∨ (s.chan c).image = none →
        t = { s with port := t.port, ctl := t.ctl }) ∧
      (∀ d, d ≠ c → t.chan d = s.chan d) ∧
      t = { s with port := t.port, chans := t.chans, taper := t.taper, ctl := t.ctl }

/-- What an accepted beat does to the unissued entries and the issued POSITIONs (R15, R16, R21): at the beat's address a POSITION whose code half is
touched is cancelled unless its strip is operator-owned, that is touched in TOUCH, LATCH or WRITE mode, or LATCHED, or in WRITE mode (R67); a FETCH whose code
half is covered is cancelled, and everything else stays; an issued POSITION at that address is marked when its code half is touched. The beat goes to memory
unchanged; one that is not the last advances the request, and the last frees both ports and leaves the response owed (R5, R18). -/
def Obligations.AcceptedBeatTreatsEntries : Prop :=
  ∀ (q : PortRequest) (data : Word) (e : Enables) (s : State),
    s.inReset = false → s.port.writes q → s.port.limitsKept → s.mustHold q.beatAddr data e = false →
    (∀ o, s.decodeBeat q.beatAddr ≠ .control o) →
    let owned : StripId → Prop := fun i =>
      let p := s.strip i
      p.touched = true ∧ (p.mode = .touch ∨ p.mode = .latch ∨ p.mode = .write) ∨ p.motion = .latched ∨ p.mode = .write
    ∃ t, exec (.writeBeatAccept data e) s = .next t ∧
      t.port.toMemory = s.port.toMemory ++ [MOut.writeBeat data e] ∧
      t.port.toProcessor = s.port.toProcessor ∧ t.port.heldBeat = none ∧
      (q.done + 1 ≠ lengthOf q.lenCode → t.port.req = some { q with done := q.done + 1 } ∧
        t.port.holder = s.port.holder ∧ t.port.owed = s.port.owed) ∧
      (q.done + 1 = lengthOf q.lenCode → t.port.req = none ∧ t.port.holder = .nobody ∧
        t.port.owed = s.port.owed ++ [.memory]) ∧
      (∀ x ∈ s.port.queue,
        match x.body with
        | .position c _ order =>
          (∃ y ∈ t.port.queue, y.stamp = x.stamp) ↔
            ¬ (x.addr = q.beatAddr ∧ touchesCode order e = true ∧ ∀ i, s.shownBy c = some i → ¬ owned i)
        | .fetch _ _ order =>
          x ∈ t.port.queue ↔ ¬ (x.addr = q.beatAddr ∧ coversCode order e = true)
        | .status w _ => ∃ y ∈ t.port.queue, y.isStatusOf w = true
        | .event _ _ => x ∈ t.port.queue) ∧
      t.port.members = s.port.members.map fun
        | .position c code a order mark =>
          .position c code a order (mark || (a == q.beatAddr && touchesCode order e))
        | m => m

/-- A meter beat with every byte enabled joins its channel's capture by its greatest magnitude; with any byte clear it is ignored, though memory takes it
(R170). Every other record is kept. -/
def Obligations.MeterBeatJoinsCapture : Prop :=
  ∀ (q : PortRequest) (k : MeterId) (order : WordOrder) (data : Word) (e : Enables) (s : State),
    s.inReset = false → s.port.writes q → s.decodeBeat q.beatAddr = .meter k order →
    ∃ t, exec (.writeBeatAccept data e) s = .next t ∧
      t.port.toMemory = s.port.toMemory ++ [MOut.writeBeat data e] ∧
      (e ≠ 0xF#4 → t.meter = s.meter) ∧
      (e = 0xF#4 → t.meterRec k = { s.meterRec k with
        capture := some (max (((s.meterRec k).capture).getD 0)
          (match order with
          | .native => data.extractLsb' 0 24
          | .swapped => data.extractLsb' 0 8 ++ data.extractLsb' 16 16).toNat) }) ∧
      (∀ j, j ≠ k → t.meterRec j = s.meterRec j) ∧
      t = { s with port := t.port, meter := { s.meter with recs := t.meter.recs }, ctl := t.ctl }

/-- A beat in the control area is passed to memory, the last one freeing both ports and leaving the response owed (R5, R18), with the image port's own work
done, and acts on the control unit exactly when every byte is enabled, as a write of the whole word at its offset (R10, R188); a beat that must wait for a
conversion slot is held, with no effect but its place on the wait list (R5, R34, R52). The row it is compared with is the word's hand-over (entry 6). -/
def Obligations.ControlBeatsActWholeAndFullQueuesHold : Prop :=
  let passed : PortRequest → Word → Enables → State → State := fun q data e s =>
    let last := q.done + 1 = lengthOf q.lenCode
    { s with port := { s.port with
      toMemory := s.port.toMemory ++ [MOut.writeBeat data e], heldBeat := none
      req := if last then none else some { q with done := q.done + 1 }
      holder := if last then .nobody else s.port.holder
      owed := if last then s.port.owed ++ [.memory] else s.port.owed } }
  (∀ (q : PortRequest) (o : BitVec 9) (data : Word) (e : Enables) (s : State),
    s.inReset = false → s.port.writes q → s.decodeBeat q.beatAddr = .control o.toNat →
    (e = 0xF#4 → exec (.writeBeatAccept data e) s = exec (.controlAreaWrite o data)
      ((passed q data e s).portWork q.beatAddr e)) ∧
    (e ≠ 0xF#4 → exec (.writeBeatAccept data e) s =
      .next ((passed q data e s).portWork q.beatAddr e))) ∧
  (∀ (q : PortRequest) (c : ChanId) (order : WordOrder) (i : StripId) (data : Word) (e : Enables)
      (s : State),
    s.inReset = false → s.port.writes q → s.decodeBeat q.beatAddr = .fader c order →
    coversCode order e = true → s.shownBy c = some i → (s.strip i).converts →
    16 ≤ s.taper.queue.length → s.taper.hasUnstarted (.level c) = false →
    s.taper.hasWaiter (.level c) = false →
    exec (.writeBeatAccept data e) s = .next { s with
      port := { s.port with heldBeat := some (data, e) }
      taper := { s.taper with waiters := s.taper.waiters ++ [.beat] } })

/-- Read forwarding (R25): each byte of a passing read's beat is that of the last unissued entry, in queue order, that covers it at the beat's address,
and memory's where none covers it; the last beat carries memory's status and frees the ports (R6). Nothing else changes. -/
def Obligations.ReadBeatsAreForwarded : Prop :=
  ∀ (q : PortRequest) (data : Word) (st : RespStatus) (s : State),
    s.inReset = false → s.port.reads q →
    (q.done + 1 = lengthOf q.lenCode → s.port.members.head? = some .passingRead) →
    ∃ (t : State) (w : Word), exec (.readBeatReturn data st) s = .next t ∧
      (∀ b : Fin 4,
        let covers : InjEntry → Option Word := fun x =>
          match x.body with
          | .position _ code .native =>
            if x.addr = q.beatAddr ∧ b.val < 2 then some (0#16 ++ code) else none
          | .position _ code .swapped =>
            if x.addr = q.beatAddr ∧ 2 ≤ b.val then some (code ++ 0#16) else none
          | .fetch _ _ _ => none
          | .status _ v => if x.addr = q.beatAddr then some v else none
          | .event v u =>
            if x.addr = q.beatAddr then some v
            else if (x.addr + 1) % 16777216 = q.beatAddr then some u
            else none
        w.extractLsb' (8 * b.val) 8 =
          (((s.port.queue.filterMap covers).getLast?).getD data).extractLsb' (8 * b.val) 8) ∧
      (q.done + 1 ≠ lengthOf q.lenCode → t = { s with port := { s.port with
        req := some { q with done := q.done + 1 }
        toProcessor := s.port.toProcessor ++ [POut.readBeat w] } }) ∧
      (q.done + 1 = lengthOf q.lenCode → t = { s with port := { s.port with
        req := none, holder := .nobody, members := s.port.members.drop 1
        toProcessor := s.port.toProcessor ++ [POut.readBeat w, POut.response st] } })

/-- Memory's answer to a passing write is returned unchanged, and the ERRORs of dropped writes that then stand first follow it (R3, R5, R7); its answer to
a STATUS or EVENT write takes the member off the completion list and does nothing else, whatever the status (R24). -/
def Obligations.WriteAnswersAreReturned : Prop :=
  (∀ (st : RespStatus) (ms : List Member) (n : Nat) (rest : List Owed) (s : State), s.inReset = false →
    s.port.members = .passingWrite :: ms →
    s.port.owed = .memory :: (List.replicate n .droppedWrite ++ rest) → rest.head? ≠ some .droppedWrite →
    exec (.memoryWriteResponse st) s = .next { s with port := { s.port with
      members := ms, owed := rest
      toProcessor := s.port.toProcessor ++ POut.response st ::
        List.replicate n (POut.response .error) } }) ∧
  (∀ (st : RespStatus) (m : Member) (ms : List Member) (s : State), s.inReset = false →
    s.port.members = m :: ms →
    ((∃ w a, m = .status w a) ∨ (∃ a, m = .event a)) →
    exec (.statusEventResponse st) s = .next { s with port := { s.port with members := ms } })

/-- Memory's answer to a POSITION (R22): on OK the channel's image code becomes the POSITION's code exactly when it is unmarked and the home is still its
own; on ERROR a WRITEBACK_ERROR event with value 1 is created. No other record changes. -/
def Obligations.PositionAnswerSetsImageCode : Prop :=
  ∀ (c : ChanId) (code : Code) (addr : Nat) (order : WordOrder) (mark : Bool) (ms : List Member)
      (s : State),
    s.inReset = false → s.port.members = .position c code addr order mark :: ms →
    (mark = false → s.home c = some (addr, order) → exec (.positionResponse .ok) s = .next { s with
      port := { s.port with members := ms }
      chans := s.chans.set c.val { s.chan c with image := some code } }) ∧
    (mark = true ∨ s.home c ≠ some (addr, order) →
      exec (.positionResponse .ok) s = .next { s with port := { s.port with members := ms } }) ∧
    exec (.positionResponse .error) s = .next
      (({ s with port := { s.port with members := ms } } : State).createEvent .writebackError
        (BitVec.ofNat 8 c.val) 1#16)

/-- Memory's answer to a FETCH (R20, R23, R37 to R39): the M-port is freed; on OK with the channel's sequence number the channel becomes SEEN with the
fetched code and a shown channel's conversion is asked for, and with another number the word is discarded; on ERROR a FETCH_ERROR event with value 1 is
created and the showing strip takes a hold. Where the home is no longer the FETCH's (R28 has it checked) the word is discarded, by the model's reading
(entry 35). -/
def Obligations.FetchAnswerSetsRecord : Prop :=
  ∀ (c : ChanId) (seq : BitVec 8) (addr : Nat) (order : WordOrder) (ms : List Member) (data : Word)
      (s : State),
    s.inReset = false → s.port.members = .fetch c seq addr order :: ms →
    ((s.chan c).seq ≠ seq ∨ s.home c ≠ some (addr, order) → exec (.fetchResponse data .ok) s =
      .next { s with port := { s.port with members := ms, holder := .nobody } }) ∧
    ((s.chan c).seq = seq → s.home c = some (addr, order) → ∃ t, exec (.fetchResponse data .ok) s = .next t ∧
      t.chan c = ⟨some (codeHalf order data), some (codeHalf order data), seq⟩ ∧
      (∀ d, d ≠ c → t.chan d = s.chan d) ∧
      (s.shownBy c = none → t.taper = s.taper) ∧
      (s.shownBy c ≠ none → t.taper.carries c (codeHalf order data) seq) ∧
      t = { s with
        port := { s.port with members := ms, holder := .nobody }, chans := t.chans
        taper := t.taper }) ∧
    exec (.fetchResponse data .error) s = .next
      (let u := ({ s with port := { s.port with members := ms, holder := .nobody } } : State).createEvent
        .fetchError (BitVec.ofNat 8 c.val) 1#16
      match s.shownBy c with
      | some i => u.hold i
      | none => u)

/-! ## The control area -/

/-- Each row of the control area is a full-word write at its offset of Table 11.1: ACK, QUIET, the ring words, CONSUMER, the live parameters (R189),
the strip settings (R134), and COMMAND with the command's code, its tag and its argument in the fields of Table 11.3 (R191, R194). That such a row
is the word's hand-over to the control unit is the model's choice (entry 6), and so is the meaning of CONTROL_AREA_WRITE at an offset with a row of its own
and of UNKNOWN_COMMAND with one of the fourteen codes, which are ill formed for their rows (entry 24). -/
def Obligations.RowsAreControlAreaWrites : Prop :=
  ∀ s : State,
    (∀ w, exec (.ackWrite w) s = exec (.controlAreaWrite 0x003#9 w) s) ∧
    (∀ w, exec (.quietWrite w) s = exec (.controlAreaWrite 0x004#9 w) s) ∧
    (∀ w, exec (.ringBaseWrite w) s = exec (.controlAreaWrite 0x005#9 w) s) ∧
    (∀ w, exec (.ringCapacityWrite w) s = exec (.controlAreaWrite 0x006#9 w) s) ∧
    (∀ w, exec (.consumerWrite w) s = exec (.controlAreaWrite 0x008#9 w) s) ∧
    (∀ p w, exec (.liveParameterWrite p w) s =
      exec (.controlAreaWrite (BitVec.ofNat 9 (0x010 + p.index.val)) w) s) ∧
    (∀ i second w, exec (.stripSettingsWrite i second w) s =
      exec (.controlAreaWrite (BitVec.ofNat 9 (0x100 + 2 * i.val + second.toNat)) w) s) ∧
    (∀ tag arg,
      exec (.selectLayer tag arg) s = exec (.controlAreaWrite 0#9 (arg ++ (tag ++ 0x01#8))) s ∧
      exec (.setMode tag arg) s = exec (.controlAreaWrite 0#9 (arg ++ (tag ++ 0x02#8))) s ∧
      exec (.unlatch tag arg) s = exec (.controlAreaWrite 0#9 (arg ++ (tag ++ 0x03#8))) s ∧
      (arg.getLsbD 8 = true →
        exec (.isolateOn tag arg) s = exec (.controlAreaWrite 0#9 (arg ++ (tag ++ 0x04#8))) s) ∧
      (arg.getLsbD 8 = false →
        exec (.isolateOff tag arg) s = exec (.controlAreaWrite 0#9 (arg ++ (tag ++ 0x04#8))) s) ∧
      exec (.recalibrate tag arg) s = exec (.controlAreaWrite 0#9 (arg ++ (tag ++ 0x05#8))) s ∧
      exec (.clearFault tag arg) s = exec (.controlAreaWrite 0#9 (arg ++ (tag ++ 0x06#8))) s ∧
      exec (.clearErrors tag arg) s = exec (.controlAreaWrite 0#9 (arg ++ (tag ++ 0x07#8))) s ∧
      exec (.loadWindows tag arg) s = exec (.controlAreaWrite 0#9 (arg ++ (tag ++ 0x08#8))) s ∧
      exec (.loadLayerMap tag arg) s = exec (.controlAreaWrite 0#9 (arg ++ (tag ++ 0x09#8))) s ∧
      exec (.loadTaper tag arg) s = exec (.controlAreaWrite 0#9 (arg ++ (tag ++ 0x0A#8))) s ∧
      exec (.loadMeterSetup tag arg) s = exec (.controlAreaWrite 0#9 (arg ++ (tag ++ 0x0B#8))) s ∧
      exec (.queryStrip tag arg) s = exec (.controlAreaWrite 0#9 (arg ++ (tag ++ 0x0C#8))) s ∧
      exec (.sync tag arg) s = exec (.controlAreaWrite 0#9 (arg ++ (tag ++ 0x0D#8))) s ∧
      exec (.surfaceReset tag arg) s = exec (.controlAreaWrite 0#9 (arg ++ (tag ++ 0x0E#8))) s) ∧
    (∀ code tag arg, exec (.unknownCommand code tag arg) s =
      exec (.controlAreaWrite 0#9 (arg ++ (tag ++ code))) s)

/-- A full-word write to a staging word is kept in its block's staged copy at its place, and changes nothing else; a write to a status word or to an
offset that Table 11.1 does not list changes nothing (R26, R43, R122, R182, R188). -/
def Obligations.StagingWritesAreKept : Prop :=
  ∀ (o : BitVec 9) (w : Word) (s : State), s.inReset = false → hasOwnRow o.toNat = false →
    ∃ t, exec (.controlAreaWrite o w) s = .next t ∧
      (∀ k : Fin 64, t.windows.staged[k.val] =
        if o.toNat = 0x040 + k.val then w else s.windows.staged[k.val]) ∧
      (∀ k : Fin 32, t.layers.staged[k.val] =
        if o.toNat = 0x080 + k.val then w else s.layers.staged[k.val]) ∧
      (∀ k : Fin 17, t.taper.staged[k.val] =
        if o.toNat = 0x0A0 + k.val then w else s.taper.staged[k.val]) ∧
      (∀ k : Fin 24, t.meter.stagedProfiles[k.val] =
        if o.toNat = 0x180 + k.val then w else s.meter.stagedProfiles[k.val]) ∧
      (∀ k : Fin 4, t.meter.stagedMap[k.val] =
        if o.toNat = 0x198 + k.val then w else s.meter.stagedMap[k.val]) ∧
      (∀ k : Fin 48, t.meter.stagedScale[k.val] =
        if o.toNat = 0x1A0 + k.val then w else s.meter.stagedScale[k.val]) ∧
      t = { s with
        windows := { s.windows with staged := t.windows.staged }
        layers := { s.layers with staged := t.layers.staged }
        taper := { s.taper with staged := t.taper.staged }
        meter := { s.meter with
          stagedProfiles := t.meter.stagedProfiles, stagedMap := t.meter.stagedMap
          stagedScale := t.meter.stagedScale } }

/-- The live parameters and the strip settings (R134 to R136, R189). A parameter takes the whole word, clamped to its range, at once. The first settings
word's codes are in force at once, and each code that differs asks for its threshold; the second word's enable and policy are in force at once. A forcing
condition that holds afterwards takes the line OFF; a change of the line creates FSTART_OFF with the strip and its measured travel (R136). The thresholds in
force, and every other strip, are kept. -/
def Obligations.ParametersAndSettingsAreTaken : Prop :=
  (∀ (p : Param) (w : Word) (s : State), s.inReset = false →
    ∃ t, exec (.liveParameterWrite p w) s = .next t ∧
      t.param p = (if w.toNat < p.spec.low then p.spec.low
        else if p.spec.high < w.toNat then p.spec.high else w.toNat) ∧
      (∀ p', p' ≠ p → t.param p' = s.param p') ∧
      t = { s with ctl := { s.ctl with params := t.ctl.params } }) ∧
  (∀ (i : StripId) (w : Word) (s : State), s.inReset = false →
    ∃ t, exec (.stripSettingsWrite i false w) s = .next t ∧
      t.strip i = { s.strip i with
        onCode := w.extractLsb' 0 16, offCode := w.extractLsb' 16 16
        line := (s.strip i).line && !((s.strip i).mode == .parked || !(s.strip i).fsEnable ||
          (w.extractLsb' 0 16).sle (w.extractLsb' 16 16) ||
          decide ((s.strip i).onTravel ≤ (s.strip i).offTravel)) } ∧
      (w.extractLsb' 0 16 ≠ (s.strip i).onCode →
        t.taper.carriesThreshold i true (w.extractLsb' 0 16)) ∧
      (w.extractLsb' 16 16 ≠ (s.strip i).offCode →
        t.taper.carriesThreshold i false (w.extractLsb' 16 16)) ∧
      (w.extractLsb' 0 16 = (s.strip i).onCode → w.extractLsb' 16 16 = (s.strip i).offCode →
        t.taper = s.taper) ∧
      (∀ j, j ≠ i → t.strip j = s.strip j) ∧ s.lineReported t i ∧
      t = { s with strips := t.strips, taper := t.taper, port := t.port, ctl := t.ctl }) ∧
  (∀ (i : StripId) (w : Word) (s : State), s.inReset = false →
    ∃ t, exec (.stripSettingsWrite i true w) s = .next t ∧
      t.strip i = { s.strip i with
        fsEnable := w.getLsbD 0
        policy := if (w.extractLsb' 8 2).toNat = 0 then .errorThreshold
          else if (w.extractLsb' 8 2).toNat = 1 then .onWake else .never
        line := (s.strip i).line && !((s.strip i).mode == .parked || !w.getLsbD 0 ||
          (s.strip i).onCode.sle (s.strip i).offCode ||
          decide ((s.strip i).onTravel ≤ (s.strip i).offTravel)) } ∧
      (∀ j, j ≠ i → t.strip j = s.strip j) ∧ s.lineReported t i ∧
      t = { s with strips := t.strips, port := t.port, ctl := t.ctl })

/-- ACK clears the named sticky causes, keeps the others, and asks for SUMMARY when the set changed and for nothing when it did not (R200); QUIET is taken
whole, and ATTN_N is low exactly while it is 0 and a cause is present (R201). -/
def Obligations.AckAndQuietDriveAttention : Prop :=
  (∀ (w : Word) (s : State), s.inReset = false →
    ∃ t, exec (.ackWrite w) s = .next t ∧
      t.ctl.lostCause = (s.ctl.lostCause && !w.getLsbD 1) ∧
      t.ctl.parityCause = (s.ctl.parityCause && !w.getLsbD 2) ∧
      t.ctl.faultCause = (s.ctl.faultCause && !w.getLsbD 3) ∧
      ((∀ tag point count, s.ctl.busy ≠ some (.sync tag point count)) →
        t.ctl.commandCause = (s.ctl.commandCause && !w.getLsbD 4)) ∧
      t.ctl.eventsCause = s.ctl.eventsCause ∧
      (t.ctl.summaryWord ≠ s.ctl.summaryWord →
        ∃ e ∈ t.port.queue, e.body = .status .summary t.ctl.summaryWord) ∧
      ((s.ctl.lostCause && w.getLsbD 1) = false → (s.ctl.parityCause && w.getLsbD 2) = false →
        (s.ctl.faultCause && w.getLsbD 3) = false → (s.ctl.commandCause && w.getLsbD 4) = false →
        t = s) ∧
      t = { s with port := t.port, ctl := t.ctl }) ∧
  (∀ (w : Word) (s : State), s.inReset = false →
    exec (.quietWrite w) s = .next { s with ctl := { s.ctl with quiet := w } } ∧
    (∀ t, exec (.quietWrite w) s = .next t →
      (t.attnLow = true ↔ w = 0#32 ∧
        (s.ctl.ringCapacity ≠ 0 ∧ s.ctl.producer ≠ s.ctl.consumer ∨ s.ctl.lostCause = true ∨
          s.ctl.parityCause = true ∨ s.ctl.faultCause = true ∨ s.ctl.commandCause = true))))

/-- The event ring's words. A write to RING_BASE or RING_CAPACITY sets its value, clamped as R202 states, and empties the ring: both indices 0, unissued EVENT
entries discarded, PRODUCER asked for with 0, EVENTS absent, with SUMMARY asked for when it was present (R200). CONSUMER is taken when the ring is enabled and
the value is below the capacity, and ignored otherwise (R204). -/
def Obligations.RingWordsAreTaken : Prop :=
  (∀ (c : Instr) (w : Word) (s : State), s.inReset = false → c = .ringBaseWrite w ∨ c = .ringCapacityWrite w →
    ∃ t, exec c s = .next t ∧
      t.ctl.ringBase = (if c = .ringBaseWrite w then (w.extractLsb' 0 24).toNat else s.ctl.ringBase) ∧
      t.ctl.ringCapacity = (if c = .ringBaseWrite w then s.ctl.ringCapacity
        else if w.toNat = 0 then 0 else if w.toNat < 16 then 16
        else if 1024 < w.toNat then 1024 else w.toNat) ∧
      t.ctl.producer = 0 ∧ t.ctl.consumer = 0 ∧ t.ctl.eventsCause = false ∧
      t.ctl.serial = s.ctl.serial ∧ t.ctl.lostCount = s.ctl.lostCount ∧
      (∀ e ∈ t.port.queue, e.isEvent = false) ∧
      (∃ e ∈ t.port.queue, e.body = .status .producer 0#32) ∧
      (s.ctl.eventsCause = true → ∃ e ∈ t.port.queue, e.body = .status .summary t.ctl.summaryWord) ∧
      (∀ e ∈ s.port.queue, e.isPosition = true ∨ e.isFetch = true → e ∈ t.port.queue) ∧
      t.port.members = s.port.members ∧
      t = { s with port := t.port, ctl := t.ctl }) ∧
  (∀ (w : Word) (s : State), s.inReset = false →
    (w.toNat < s.ctl.ringCapacity → ∃ t, exec (.consumerWrite w) s = .next t ∧
      t.ctl.consumer = w.toNat ∧ t.ctl.producer = s.ctl.producer ∧ t.ctl.serial = s.ctl.serial ∧
      (t.ctl.eventsCause = true ↔ s.ctl.producer ≠ w.toNat) ∧
      (t.ctl.eventsCause ≠ s.ctl.eventsCause →
        ∃ e ∈ t.port.queue, e.body = .status .summary t.ctl.summaryWord) ∧
      t = { s with port := t.port, ctl := t.ctl }) ∧
    (s.ctl.ringCapacity ≤ w.toNat → exec (.consumerWrite w) s = .next s))

/-- A RESULT write (R192): the RESULT word is value, result code and tag, its STATUS entry stands in the queue even when the word is as before, the COMMAND
cause is set, and SUMMARY is asked for when that changed the cause set; no other entry and no other state changes. That the guard count stays even where
the replaced entry was the queue's only one is the model's reading (entry 13). With SYNC in progress the removal of an
older RESULT entry may complete it (R199), so that case is stated with SYNC. -/
def Obligations.ResultIsWritten : Prop :=
  ∀ (tag : BitVec 8) (code : ResultCode) (v : BitVec 16) (s : State),
    (∀ tag' point count, s.ctl.busy ≠ some (.sync tag' point count)) →
    let t := s.writeResult tag code v
    t.ctl = { s.ctl with
      result := v ++ ((match code with
        | .done => 1#8
        | .busy => 2#8
        | .badArgument => 3#8
        | .invalidTable => 4#8
        | .unknownCommand => 5#8) ++ tag)
      commandCause := true } ∧
    (∃ e ∈ t.port.queue, e.addr = s.controlBase + 1 ∧ e.body = .status .result t.ctl.result) ∧
    (s.ctl.commandCause = false →
      ∃ e ∈ t.port.queue, e.addr = s.controlBase + 2 ∧ e.body = .status .summary t.ctl.summaryWord) ∧
    (∀ keep : InjEntry → Bool, (∀ e, keep e = true → e.isStatusOf .result = false) →
      (∀ e, keep e = true → s.ctl.commandCause = false → e.isStatusOf .summary = false) →
      t.port.queue.filter keep = s.port.queue.filter keep) ∧
    t = { s with
      port := { s.port with queue := t.port.queue, nextStamp := t.port.nextStamp }, ctl := t.ctl }

/-- Refusals (R191, R193). While LOAD_TAPER or SYNC is in progress every command is refused BUSY with the code of the command in progress. With none in
progress, a code that is none of the fourteen is answered UNKNOWN_COMMAND with the code; a strip index above 31 without an accepted bit 15, a layer above 3,
a mode code of 5 to 7 and an item code above 4 are answered BAD_ARGUMENT with the argument. A refused command does nothing else. -/
def Obligations.CommandsAreRefused : Prop :=
  (∀ (c : Instr) (code tag : BitVec 8) (b : Busy) (s : State), s.inReset = false →
    commandOf c = some (code, tag) → s.ctl.busy = some b →
    exec c s = .next (s.writeResult tag .busy
      (match b with
      | .loadTaper _ _ => 0x000A#16
      | .sync _ _ _ => 0x000D#16))) ∧
  (∀ (code tag : BitVec 8) (arg : BitVec 16) (s : State), s.inReset = false → s.ctl.busy = none →
    code.toNat = 0 ∨ 14 < code.toNat →
    exec (.unknownCommand code tag arg) s = .next (s.writeResult tag .unknownCommand (0#8 ++ code))) ∧
  (∀ (c : Instr) (tag : BitVec 8) (arg : BitVec 16) (s : State), s.inReset = false → s.ctl.busy = none →
    ((c = .selectLayer tag arg ∨ c = .loadLayerMap tag arg) ∧ 3 < arg.toNat ∨
      (c = .setMode tag arg ∨ c = .unlatch tag arg ∨ c = .recalibrate tag arg ∨ c = .clearFault tag arg ∨
        c = .clearErrors tag arg) ∧ arg.getLsbD 15 = false ∧ 31 < (arg.extractLsb' 0 8).toNat ∨
      c = .setMode tag arg ∧ 4 < (arg.extractLsb' 8 3).toNat ∨
      (c = .isolateOn tag arg ∧ arg.getLsbD 8 = true ∨ c = .isolateOff tag arg ∧ arg.getLsbD 8 = false ∨
        c = .queryStrip tag arg) ∧ 31 < (arg.extractLsb' 0 8).toNat ∨
      c = .queryStrip tag arg ∧ 4 < (arg.extractLsb' 8 4).toNat) →
    exec c s = .next (s.writeResult tag .badArgument arg))

/-- QUERY_STRIP answers DONE with the item it names, and changes nothing but RESULT and its cause (R198, Table 11.6). -/
def Obligations.QueryStripReadsTheStrip : Prop :=
  ∀ (i : StripId) (tag : BitVec 8) (arg : BitVec 16) (s : State), s.inReset = false → s.ctl.busy = none →
    (arg.extractLsb' 0 8).toNat = i.val → (arg.extractLsb' 8 4).toNat ≤ 4 →
    ∃ v, exec (.queryStrip tag arg) s = .next (s.writeResult tag .done v) ∧
      ((arg.extractLsb' 8 4).toNat = 0 →
        (v.extractLsb' 0 4).toNat = (s.strip i).motion.code ∧
        (v.extractLsb' 4 3).toNat = (s.strip i).mode.code ∧
        v.getLsbD 7 = (s.strip i).touched ∧ v.getLsbD 8 = (s.strip i).latch ∧
        v.getLsbD 9 = (s.strip i).isolated ∧ v.getLsbD 10 = (s.strip i).waiting.isSome ∧
        v.getLsbD 11 = (s.strip i).conflict.isSome ∧ v.getLsbD 12 = (s.strip i).recalPending ∧
        v.getLsbD 13 = (s.strip i).calibration.isSome ∧ v.extractLsb' 14 2 = 0#2) ∧
      ((arg.extractLsb' 8 4).toNat = 1 → v = BitVec.ofNat 16 (s.strip i).errorTotal) ∧
      ((arg.extractLsb' 8 4).toNat = 2 → (s.strip i).calibration = none → v = 0#16) ∧
      (∀ low high, (arg.extractLsb' 8 4).toNat = 2 → (s.strip i).calibration = some ⟨low, high⟩ →
        v = BitVec.ofNat 16 (high - low)) ∧
      ((arg.extractLsb' 8 4).toNat = 3 → v = BitVec.ofNat 16 (s.strip i).m) ∧
      ((arg.extractLsb' 8 4).toNat = 4 → (s.strip i).shown = none → v = 256#16) ∧
      (∀ c, (arg.extractLsb' 8 4).toNat = 4 → (s.strip i).shown = some c → v = BitVec.ofNat 16 c.val)

/-- SYNC (R199): with no entry in the queue it completes at once with 0; otherwise it is in progress, with the point of the creation order and the count of
entries at its taking. It goes on while an entry created before that point stands, and completes in the very event that leaves none, whatever takes the
last one (issue, cancelling, discard, or the coalescing of a STATUS entry), with DONE and that count. A beat written to COMMAND is left out of that clause:
when its own cancelling completes SYNC, the command it carries is then taken and answers too (entry 23). -/
def Obligations.SyncWaitsForOlderEntries : Prop :=
  (∀ (tag : BitVec 8) (arg : BitVec 16) (s : State), s.inReset = false → s.ctl.busy = none →
    (s.port.queue = [] → exec (.sync tag arg) s = .next (s.writeResult tag .done 0#16)) ∧
    (s.port.queue ≠ [] → (∀ e ∈ s.port.queue, e.stamp < s.port.nextStamp) →
      exec (.sync tag arg) s = .next { s with ctl := { s.ctl with
        busy := some (.sync tag s.port.nextStamp s.port.queue.length) } })) ∧
  (∀ (tag : BitVec 8) (point count : Nat) (s : State), s.inReset = false →
    s.ctl.busy = some (.sync tag point count) →
    ((∃ e ∈ s.port.queue, e.stamp < point) → exec .syncComplete s = .next s) ∧
    ((∀ e ∈ s.port.queue, point ≤ e.stamp) → exec .syncComplete s = .next
      (({ s with ctl := { s.ctl with busy := none } } : State).writeResult tag .done
        (BitVec.ofNat 16 count)))) ∧
  (∀ (c : Instr) (tag : BitVec 8) (point count : Nat) (s : State), s.inReset = false → c ≠ .powerOnReset →
    s.ctl.busy = some (.sync tag point count) → (∃ e ∈ s.port.queue, e.stamp < point) →
    point ≤ s.port.nextStamp →
    (∀ data e q, c = .writeBeatAccept data e → s.port.writes q → s.decodeBeat q.beatAddr ≠ .control 0) →
    ∃ t, exec c s = .next t ∧
      ((∃ e ∈ t.port.queue, e.stamp < point) → t.ctl.busy = some (.sync tag point count)) ∧
      ((∀ e ∈ t.port.queue, point ≤ e.stamp) → t.ctl.busy = none ∧
        t.ctl.result = BitVec.ofNat 16 count ++ (1#8 ++ tag) ∧
        ∃ e ∈ t.port.queue, e.body = .status .result t.ctl.result))

/-- A command in progress has something left to wait for: SYNC an entry of the injection queue made before its point (R199), LOAD_TAPER an owned request
or waiter (R60). Every step keeps this, so each completes at the moment its last one goes. -/
def Obligations.CommandsInProgressComplete : Prop :=
  ∀ s t : State, s.progressOwed → step s = .next t → t.progressOwed

/-! ## Processor commands -/

/-- SURFACE_RESET (R194), each block's part: every channel UNSEEN with its sequence number kept (R41), every strip PARKED with its fields as R86, R124, R136
and R153 state, the start queue emptied and each active group's ON rail idling from now (R152), unissued POSITION and FETCH entries discarded, issued
POSITIONs marked, and each shown channel with a home fetched, at its home with its sequence number (R13, R17, R21, R41), conversions removed with threshold
requests made anew (R57), meter records at the floor (R187). Parameters, ring configuration, quiet state, surface time, calibration, windows and layers are
kept. -/
def Obligations.SurfaceResetParksTheSurface : Prop :=
  ∀ (tag : BitVec 8) (arg : BitVec 16) (s : State), s.inReset = false → s.ctl.busy = none →
    ∃ t, exec (.surfaceReset tag arg) s = .next t ∧
      (∀ c, t.chan c = ⟨none, none, (s.chan c).seq⟩) ∧
      (∀ i, t.strip i = { s.strip i with
        mode := .parked, motion := .parked, r := (s.strip i).m, v := 0, target := none, opCode := none
        lastReadback := none, speed := .normal, settled := 0, moveMarked := false, latch := false
        drive := 0, cal := none, attempts := 0, waiting := none, conflict := none, line := false }) ∧
      t.drive.queue = [] ∧ t.drive.history = s.drive.history ∧
      t.drive.groupLatest = s.drive.groupLatest ∧ t.drive.anyLatest = s.drive.anyLatest ∧
      (∀ g, s.rail g = .on none → s.groupActive g = true → t.rail g = .on (some s.clock)) ∧
      (∀ g, s.groupActive g = false ∨ s.railOn g = false → t.rail g = s.rail g) ∧
      (∀ e ∈ t.port.queue, e.isPosition = false) ∧
      (∀ c, (∃ e ∈ t.port.queue, e.isFetchOf c = true) ↔
        (∃ i, (s.strip i).shown = some c) ∧ s.home c ≠ none) ∧
      (∀ e ∈ t.port.queue, ∀ c, e.isFetchOf c = true →
        ∃ a o, s.home c = some (a, o) ∧ e.addr = a ∧ e.body = .fetch c (s.chan c).seq o) ∧
      (∀ e ∈ s.port.queue, e.isEvent = true → e ∈ t.port.queue) ∧
      t.port.members = s.port.members.map (fun
        | .position c code a order _ => .position c code a order true
        | m => m) ∧
      (∀ q ∈ t.taper.queue, ∃ i on, q.work = .threshold i on ((s.strip i).thresholdCode on) ∧
        ((∃ q' ∈ s.taper.queue, q'.work.key = .threshold i on) ∨
          s.taper.hasWaiter (.threshold i on) = true)) ∧
      (∀ i on, (∃ q' ∈ s.taper.queue, q'.work.key = .threshold i on) ∨
          s.taper.hasWaiter (.threshold i on) = true →
        t.taper.carriesThreshold i on ((s.strip i).thresholdCode on)) ∧
      t.taper.active = s.taper.active ∧ t.taper.staged = s.taper.staged ∧
      (∀ k, t.meterRec k = { s.meterRec k with
        level := -30720, peak := -30720, hold := 0, overRun := 0, overLatch := 0 }) ∧
      t.meter = { s.meter with recs := t.meter.recs } ∧
      t.ctl.result = 0#16 ++ (1#8 ++ tag) ∧ t.ctl.params = s.ctl.params ∧
      t.ctl.ringBase = s.ctl.ringBase ∧ t.ctl.ringCapacity = s.ctl.ringCapacity ∧
      t.ctl.consumer = s.ctl.consumer ∧ t.ctl.quiet = s.ctl.quiet ∧ t.ctl.time = s.ctl.time ∧
      t.ctl.parityCount = s.ctl.parityCount ∧
      t = { s with
        port := t.port, chans := t.chans, taper := t.taper, strips := t.strips, drive := t.drive
        meter := t.meter, ctl := t.ctl }

/-- Layers (R123, R126 to R128). At SELECT_LAYER the layer becomes active: an isolated strip is not changed; a deferred one keeps its channel with the
layer's entry pending, or none when it shows it already; every other takes its entry, or shows NONE with its conflict-blank on an entry that a keeping strip
shows; the RESULT value is the number of strips left with a pending channel. At LOAD_LAYER_MAP the lowest staged entry that is neither a channel nor NONE, or
repeats a lower one's channel, refuses the load, which then changes nothing; else the staged map becomes the layer's, and a load of the active layer does
everything SELECT_LAYER of it does. -/
def Obligations.LayersAreSelectedAndLoaded : Prop :=
  (∀ (n : LayerId) (tag : BitVec 8) (arg : BitVec 16) (s : State), s.inReset = false →
    s.ctl.busy = none → s.layersSafe → arg.toNat = n.val →
    ∃ t, exec (.selectLayer tag arg) s = .next t ∧ t.layers = { s.layers with active := n } ∧
      (∀ i, (s.strip i).isolated = true → t.strip i = s.strip i) ∧
      (∀ i, (s.strip i).isolated = false →
        ((s.strip i).touched = true ∨ s.param .openProtect ≠ 0 ∧ (s.strip i).line = true) →
        t.strip i = { s.strip i with
          conflict := none
          waiting := if s.layerEntry n i = (s.strip i).shown then none else some (s.layerEntry n i) }) ∧
      (∀ i, s.keeps i = false →
        (t.strip i).waiting = none ∧ (t.strip i).opCode = none ∧ (t.strip i).lastReadback = none ∧
        (t.strip i).mode = (s.strip i).mode ∧ (t.strip i).isolated = false ∧
        (∀ c, s.layerEntry n i = some c → (∃ j, s.keeps j = true ∧ (s.strip j).shown = some c) →
          (t.strip i).shown = none ∧ (t.strip i).conflict = some c) ∧
        ((∀ c j, s.layerEntry n i = some c → s.keeps j = true → (s.strip j).shown ≠ some c) →
          (t.strip i).shown = s.layerEntry n i ∧ (t.strip i).conflict = none)) ∧
      t.ctl.result = BitVec.ofNat 16 ((List.finRange 32).countP fun i => (t.strip i).waiting.isSome) ++
        (1#8 ++ tag) ∧
      t = { s with
        port := t.port, taper := t.taper, strips := t.strips, layers := t.layers, drive := t.drive
        ctl := t.ctl }) ∧
  (∀ (n : LayerId) (tag : BitVec 8) (arg : BitVec 16) (s : State), s.inReset = false →
    s.ctl.busy = none → arg.toNat = n.val →
    let entry : StripId → Nat := fun i => (lowHalf s.layers.staged[i.val]).toNat
    let offends : StripId → Prop := fun i =>
      255 < entry i ∧ entry i ≠ 0xFFFF ∨ entry i < 256 ∧ ∃ j, j < i ∧ entry j = entry i
    (∀ i, offends i → (∀ j, j < i → ¬ offends j) →
      exec (.loadLayerMap tag arg) s = .next (s.writeResult tag .invalidTable (BitVec.ofNat 16 i.val))) ∧
    ((∀ i, ¬ offends i) → ∃ u : State,
      (∀ k i, u.layerEntry k i = if k = n
        then (if h : entry i < 256 then some ⟨entry i, h⟩ else none) else s.layerEntry k i) ∧
      u = { s with layers := { s.layers with maps := u.layers.maps } } ∧
      (n ≠ s.layers.active → exec (.loadLayerMap tag arg) s = .next (u.writeResult tag .done 0#16)) ∧
      (n = s.layers.active → exec (.loadLayerMap tag arg) s = exec (.selectLayer tag arg) u)))

/-- SET_MODE of the named strips, one or all (R80 to R84, R136, R193, R195): each whose mode differs takes the mode and the latch, and then the motion state
by the pair of modes; every other strip is kept. A STALLED strip stays STALLED. A strip that leaves LATCHED for another motorised mode by this, and one that
leaves PARKED or WRITE, asks for its SEEN channel's conversion; the latter is queued to calibrate when a calibration is owed. Strips that are queued join the
start queue in strip order. The value counts the strips changed. That a touched STALLED strip put into LATCH engages its latch is the model's reading (entry
15). -/
def Obligations.SetModeChangesNamedStrips : Prop :=
  ∀ (m : Mode) (tag : BitVec 8) (arg : BitVec 16) (s : State), s.inReset = false → s.ctl.busy = none →
    arg.getLsbD 15 = true ∨ (arg.extractLsb' 0 8).toNat < 32 → (arg.extractLsb' 8 3).toNat = m.code →
    let changed : StripId → Bool := fun i =>
      (arg.getLsbD 15 || (arg.extractLsb' 0 8).toNat == i.val) && (s.strip i).mode != m
    ∃ t, exec (.setMode tag arg) s = .next t ∧
      ((∀ i, changed i = false) → t = s.writeResult tag .done 0#16) ∧
      (∀ i, changed i = false → t.strip i = s.strip i) ∧
      (∀ i, changed i = true →
        let p := s.strip i
        let p' := t.strip i
        let kept := p'.motion = p.motion ∧ p'.drive = p.drive ∧
          (∀ e, e.strip = i → (e ∈ t.drive.queue ↔ e ∈ s.drive.queue)) ∧
          (arg.getLsbD 15 = false → t.drive = s.drive ∧ t.taper = s.taper)
        p'.mode = m ∧ p'.latch = (decide (m = .latch) && p.touched) ∧ p'.shown = p.shown ∧
        p'.target = p.target ∧ p'.opCode = p.opCode ∧ p'.lastReadback = p.lastReadback ∧
        p'.calibration = p.calibration ∧ p'.touched = p.touched ∧ p'.m = p.m ∧
        (m = .parked → p'.line = false) ∧ (p.motion = .stalled → kept) ∧
        (p.motion = .queued → p'.motion ≠ .queued → ∀ e ∈ t.drive.queue, e.strip ≠ i) ∧
        (p.motion ≠ .stalled →
          (m = .parked → p'.motion = .parked ∧ p'.drive = 0 ∧ p'.cal = none ∧
            p'.recalPending = p.recalPending ∧ p'.attempts = p.attempts) ∧
          (m = .write →
            (p.motion = .parked → p'.motion = if p.touched then .touched else .idle) ∧
            (p.motion = .idle ∨ p.motion = .touched → p'.motion = p.motion) ∧
            (p.motion.active = true ∨ p.motion = .latched → p'.motion = .idle ∧ p'.drive = 0)) ∧
          (m.motorised = true → p.mode = .parked ∨ p.mode = .write →
            p'.speed = .normal ∧ p'.recalPending = (p.recalPending || p.calibration.isNone) ∧
            p'.motion = (if p.touched then .touched else if p'.recalPending then .queued else .idle) ∧
            (p'.motion = .queued → ⟨i, .calibrate⟩ ∈ t.drive.queue) ∧
            (∀ c im, p.shown = some c → (s.chan c).image = some im →
              t.taper.carries c ((s.chan c).proc.getD im) (s.chan c).seq)) ∧
          (m.motorised = true → p.mode.motorised = true →
            ((p.mode = .latch ∧ p.latch = true ∧ p.motion = .latched) →
              p'.speed = .ret ∧
              p'.motion = (if p.recalPending && !p.touched then .queued else .idle) ∧
              (p'.motion = .queued → ⟨i, .calibrate⟩ ∈ t.drive.queue) ∧
              (∀ c im, p.shown = some c → (s.chan c).image = some im →
                t.taper.carries c ((s.chan c).proc.getD im) (s.chan c).seq)) ∧
            (¬ (p.mode = .latch ∧ p.latch = true ∧ p.motion = .latched) → kept)))) ∧
      (s.startsMatch → (∀ i : StripId, (s.strip i).coherent) →
        t.drive.queue.map StartEntry.strip =
          (s.drive.queue.map StartEntry.strip).filter (fun i => (t.strip i).motion == .queued) ++
            (List.finRange 32).filter fun i =>
              (t.strip i).motion == .queued && (s.strip i).motion != .queued) ∧
      t.ctl.result = BitVec.ofNat 16 ((List.finRange 32).countP changed) ++ (1#8 ++ tag) ∧
      t = { s with
        port := t.port, taper := t.taper, strips := t.strips, drive := t.drive, ctl := t.ctl }

/-- UNLATCH (R85, R196): every named strip's latch is disengaged. A LATCHED one enters IDLE (or QUEUED, where a calibration is owed, R157) with speed class
RETURN and asks for its SEEN channel's conversion; any other keeps its state. The value counts the latches cleared. -/
def Obligations.UnlatchGivesTheStripBack : Prop :=
  ∀ (tag : BitVec 8) (arg : BitVec 16) (s : State), s.inReset = false → s.ctl.busy = none →
    arg.getLsbD 15 = true ∨ (arg.extractLsb' 0 8).toNat < 32 →
    let named : StripId → Bool := fun i => arg.getLsbD 15 || (arg.extractLsb' 0 8).toNat == i.val
    ∃ t, exec (.unlatch tag arg) s = .next t ∧
      (∀ i, named i = false → t.strip i = s.strip i) ∧
      (∀ i, named i = true → (s.strip i).motion ≠ .latched →
        t.strip i = { s.strip i with latch := false }) ∧
      (∀ i, named i = true → (s.strip i).motion = .latched →
        (t.strip i).latch = false ∧ (t.strip i).speed = .ret ∧ (t.strip i).drive = 0 ∧
        (t.strip i).motion = (if (s.strip i).mode.motorised && !(s.strip i).touched &&
          (s.strip i).recalPending then .queued else .idle) ∧
        ((t.strip i).motion = .queued → ⟨i, .calibrate⟩ ∈ t.drive.queue) ∧
        (t.strip i).target = (s.strip i).target ∧ (t.strip i).opCode = (s.strip i).opCode ∧
        (∀ c im, (s.strip i).shown = some c → (s.chan c).image = some im →
          t.taper.carries c ((s.chan c).proc.getD im) (s.chan c).seq)) ∧
      t.ctl.result = BitVec.ofNat 16 ((List.finRange 32).countP fun i => named i && (s.strip i).latch) ++
        (1#8 ++ tag) ∧
      t = { s with
        port := t.port, taper := t.taper, strips := t.strips, drive := t.drive, ctl := t.ctl }

/-- ISOLATE on sets the flag and drops the pending channel and the conflict-blank of a strip not yet isolated, and changes no shown channel (R132). ISOLATE
off re-joins an isolated strip to the active layer: it keeps its channel with the entry pending when it meets the deferral condition, and adopts the entry
otherwise, with the conflict check (R129, R133). When it gives up a channel, the lowest strip that is conflict-blank on it defers on it or adopts it with
LAYER_APPLIED, and every other strip is as before (R130). The value is the channel then shown, or 256. -/
def Obligations.IsolateHoldsAndRejoins : Prop :=
  ∀ (i : StripId) (tag : BitVec 8) (arg : BitVec 16) (s : State), s.inReset = false →
    s.ctl.busy = none → s.layersSafe → (arg.extractLsb' 0 8).toNat = i.val →
    let p := s.strip i
    let e := s.layerEntry s.layers.active i
    let value : Option ChanId → BitVec 16 := fun x =>
      match x with
      | some c => BitVec.ofNat 16 c.val
      | none => 256#16
    (arg.getLsbD 8 = true →
      (p.isolated = true →
        exec (.isolateOn tag arg) s = .next (s.writeResult tag .done (value p.shown))) ∧
      (p.isolated = false → ∃ u : State,
        u.strip i = { p with isolated := true, waiting := none, conflict := none } ∧
        (∀ j, j ≠ i → u.strip j = s.strip j) ∧ u = { s with strips := u.strips } ∧
        exec (.isolateOn tag arg) s = .next (u.writeResult tag .done (value p.shown)))) ∧
    (arg.getLsbD 8 = false →
      (p.isolated = false →
        exec (.isolateOff tag arg) s = .next (s.writeResult tag .done (value p.shown))) ∧
      (p.isolated = true → ∃ t, exec (.isolateOff tag arg) s = .next t ∧
        (t.strip i).isolated = false ∧
        t.ctl.result = value (t.strip i).shown ++ (1#8 ++ tag) ∧
        (e ≠ p.shown → (p.touched = true ∨ s.param .openProtect ≠ 0 ∧ p.line = true) →
          t.strip i = { p with isolated := false, waiting := some e }) ∧
        (e = p.shown ∨ p.touched = false ∧ (s.param .openProtect = 0 ∨ p.line = false) →
          (t.strip i).opCode = none ∧ (t.strip i).lastReadback = none ∧ (t.strip i).waiting = none ∧
          (∀ c, e = some c → (∃ j, j ≠ i ∧ (s.strip j).shown = some c) →
            (t.strip i).shown = none ∧ (t.strip i).conflict = some c) ∧
          ((∀ c j, e = some c → j ≠ i → (s.strip j).shown ≠ some c) → (t.strip i).shown = e)) ∧
        s.releases t i (s.gaveUp t i) ∧
        (∀ k x, s.owedRelease i (s.gaveUp t i) k → ¬ s.defers k → p.shown = some x → s.ringHasRoom →
          (∀ c, e = some c → (s.chan c).image ≠ none) → (s.chan x).image ≠ none → s.announces t k 0) ∧
        t = { s with
          port := t.port, taper := t.taper, strips := t.strips, drive := t.drive, ctl := t.ctl }))

/-- RECALIBRATE (R156, R157, R168): the flag of every named strip; an IDLE one that is ready is queued to calibrate, and a QUEUED one's MOVE becomes
CALIBRATE in place. The value counts the named strips then QUEUED to calibrate. -/
def Obligations.RecalibrateQueuesRuns : Prop :=
  ∀ (tag : BitVec 8) (arg : BitVec 16) (s : State), s.inReset = false → s.ctl.busy = none →
    s.startsMatch → arg.getLsbD 15 = true ∨ (arg.extractLsb' 0 8).toNat < 32 →
    let named : StripId → Bool := fun i => arg.getLsbD 15 || (arg.extractLsb' 0 8).toNat == i.val
    ∃ t, exec (.recalibrate tag arg) s = .next t ∧
      (∀ i, named i = false → t.strip i = s.strip i) ∧
      (∀ i, named i = true → (t.strip i).recalPending = true ∧
        (t.strip i).calibration = (s.strip i).calibration ∧ (t.strip i).mode = (s.strip i).mode ∧
        (t.strip i).motion = (if (s.strip i).motion = .idle ∧ (s.strip i).mode.motorised = true ∧
          (s.strip i).touched = false then .queued else (s.strip i).motion)) ∧
      (∀ i, named i = true → (s.strip i).mode.motorised = true →
        ∀ e ∈ t.drive.queue, e.strip = i → e.purpose = .calibrate) ∧
      (∃ rest, t.drive.queue.map StartEntry.strip = s.drive.queue.map StartEntry.strip ++ rest) ∧
      t.ctl.result = BitVec.ofNat 16 ((List.finRange 32).countP fun i =>
        named i && decide ((t.strip i).motion = .queued) && decide (⟨i, .calibrate⟩ ∈ t.drive.queue)) ++
        (1#8 ++ tag) ∧
      t = { s with port := t.port, strips := t.strips, drive := t.drive, ctl := t.ctl }

/-- CLEAR_FAULT of the named strips, one or all (R166, R193): each STALLED one goes out of STALLED into PARKED, TOUCHED, QUEUED or IDLE, by its mode, its
touch, what calibration is owed and how far its target lies; a strip that is not STALLED is left as it is. Strips that are queued join the start queue in
strip order. The value counts the strips taken out of STALLED. The FAULT cause is kept. -/
def Obligations.ClearFaultLeavesStalled : Prop :=
  ∀ (tag : BitVec 8) (arg : BitVec 16) (s : State), s.inReset = false → s.ctl.busy = none →
    arg.getLsbD 15 = true ∨ (arg.extractLsb' 0 8).toNat < 32 →
    let freed : StripId → Bool := fun i =>
      (arg.getLsbD 15 || (arg.extractLsb' 0 8).toNat == i.val) && decide ((s.strip i).motion = .stalled)
    ∃ t, exec (.clearFault tag arg) s = .next t ∧
      ((∀ i, freed i = false) → t = s.writeResult tag .done 0#16) ∧
      (∀ i, freed i = false → t.strip i = s.strip i) ∧
      (∀ i, freed i = true →
        let p := s.strip i
        let p' := t.strip i
        let owed := p.recalPending || p.calibration.isNone
        p'.attempts = 0 ∧ p'.recalPending = owed ∧ p'.target = p.target ∧ p'.shown = p.shown ∧
        p'.slices = p.slices ∧ p'.errorTotal = p.errorTotal ∧ p'.calibration = p.calibration ∧
        p'.mode = p.mode ∧ p'.drive = 0 ∧
        (p.mode = .parked → p'.motion = .parked) ∧
        (p.mode ≠ .parked → p.touched = true →
          p'.motion = .touched ∧ p'.r = p.m ∧ p'.latch = decide (p.mode = .latch)) ∧
        (p.mode = .write → p.touched = false → p'.motion = .idle) ∧
        (p.mode.motorised = true → p.touched = false →
          (owed = true → p'.motion = .queued ∧ ⟨i, .calibrate⟩ ∈ t.drive.queue) ∧
          (∀ g, owed = false → p.target = some g → s.param .deadband < Machine.dist g.travel p.m →
            p'.motion = .queued ∧ ⟨i, .move⟩ ∈ t.drive.queue) ∧
          (owed = false → (∀ g, p.target = some g → Machine.dist g.travel p.m ≤ s.param .deadband) →
            p'.motion = .idle))) ∧
      t.drive.queue.map StartEntry.strip = s.drive.queue.map StartEntry.strip ++
        (List.finRange 32).filter (fun i => freed i && decide ((t.strip i).motion = .queued)) ∧
      t.ctl.faultCause = s.ctl.faultCause ∧
      t.ctl.result = BitVec.ofNat 16 ((List.finRange 32).countP freed) ++ (1#8 ++ tag) ∧
      t = { s with port := t.port, strips := t.strips, drive := t.drive, ctl := t.ctl }

/-- CLEAR_ERRORS (R167, R197): the slices and the error total of every named strip become 0, and nothing else of any strip changes; naming all strips also
zeroes the lost and parity counts, with a COUNTERS entry when either was above 0, and leaves the causes. -/
def Obligations.ClearErrorsZeroesCounts : Prop :=
  ∀ (tag : BitVec 8) (arg : BitVec 16) (s : State), s.inReset = false → s.ctl.busy = none →
    arg.getLsbD 15 = true ∨ (arg.extractLsb' 0 8).toNat < 32 →
    ∃ t, exec (.clearErrors tag arg) s = .next t ∧
      (∀ i : StripId, t.strip i =
        if arg.getLsbD 15 || (arg.extractLsb' 0 8).toNat == i.val then
          { s.strip i with slices := [0, 0, 0, 0, 0, 0, 0, 0], errorTotal := 0 }
        else s.strip i) ∧
      t.ctl.lostCount = (if arg.getLsbD 15 then 0 else s.ctl.lostCount) ∧
      t.ctl.parityCount = (if arg.getLsbD 15 then 0 else s.ctl.parityCount) ∧
      (arg.getLsbD 15 = true → 0 < s.ctl.lostCount ∨ 0 < s.ctl.parityCount →
        ∃ e ∈ t.port.queue, e.body = .status .counters 0#32) ∧
      t.ctl.lostCause = s.ctl.lostCause ∧ t.ctl.parityCause = s.ctl.parityCause ∧
      t.ctl.result = (if arg.getLsbD 15 then 32#16 else 1#16) ++ (1#8 ++ tag) ∧
      t = { s with port := t.port, strips := t.strips, ctl := t.ctl }

/-- LOAD_WINDOWS (R29 to R31). The lowest staged descriptor that offends by one of R29's six conditions refuses the load, which changes nothing. Else the
staged set becomes active, the channels whose home changed become UNSEEN with their unissued entries discarded, a shown channel that has a new home is
fetched there, with its sequence number (R13), a strip whose channel has none takes a hold (R78) and is reported by an UNMAPPED event, in strip order (R31,
R40), the waiting conversions of fetches of channels whose home changed are dropped (R38), and the value counts the changed homes. -/
def Obligations.LoadWindowsJudgesStagedSet : Prop :=
  ∀ (tag : BitVec 8) (arg : BitVec 16) (s : State), s.inReset = false → s.ctl.busy = none →
    let d : Fin 16 → RawWindow := rawWindow s.windows.staged
    let limit : Fin 16 → Nat := fun n => if (d n).kind = 1 then 256 else 64
    let offends : Fin 16 → Prop := fun n => (d n).kind ≠ 0 ∧
      ((2 < (d n).kind ∨ 1 < (d n).order ∨ (d n).base % 16 ≠ 0 ∨ 16777200 < (d n).base ∨
          (d n).size = 0 ∨ limit n < (d n).size ∨ limit n ≤ (d n).first) ∨
        16777216 < (d n).base + (d n).size ∨ limit n < (d n).first + (d n).size ∨
        (∃ a, (d n).base ≤ a ∧ a < (d n).base + (d n).size ∧
          s.controlBase ≤ a ∧ a ≤ s.controlBase + 511) ∨
        (∃ k a, k < n ∧ (d k).kind ≠ 0 ∧ (d n).base ≤ a ∧ a < (d n).base + (d n).size ∧
          (d k).base ≤ a ∧ a < (d k).base + (d k).size) ∨
        (∃ k a, k < n ∧ (d k).kind = (d n).kind ∧ (d n).first ≤ a ∧ a < (d n).first + (d n).size ∧
          (d k).first ≤ a ∧ a < (d k).first + (d k).size))
    (∀ n, offends n → (∀ k, k < n → ¬ offends k) →
      exec (.loadWindows tag arg) s = .next (s.writeResult tag .invalidTable (BitVec.ofNat 16 n.val))) ∧
    ((∀ n, ¬ offends n) → ∃ t, exec (.loadWindows tag arg) s = .next t ∧
      (∀ n : Fin 16, t.windows.active[n.val] = (d n).window) ∧ t.windows.staged = s.windows.staged ∧
      (∀ c, t.chan c = if t.home c = s.home c then s.chan c else ⟨none, none, (s.chan c).seq⟩) ∧
      (∀ e ∈ s.port.queue, ∀ c, e.isPositionOf c = true ∨ e.isFetchOf c = true →
        (t.home c = s.home c → e ∈ t.port.queue)) ∧
      (∀ e ∈ t.port.queue, ∀ c, e.isPositionOf c = true → t.home c = s.home c) ∧
      ((∀ e ∈ s.port.queue, e.isFetch = false) → ∀ i c, (s.strip i).shown = some c →
        t.home c ≠ s.home c → t.home c ≠ none → ∃ e ∈ t.port.queue, e.isFetchOf c = true) ∧
      (∀ e ∈ t.port.queue, ∀ c, e.isFetchOf c = true → t.home c ≠ s.home c →
        ∃ a o, t.home c = some (a, o) ∧ e.addr = a ∧ e.body = .fetch c (s.chan c).seq o) ∧
      (∀ i, (t.strip i).shown = (s.strip i).shown) ∧
      (∀ i, (∀ c, (s.strip i).shown = some c → t.home c = s.home c ∧ t.home c ≠ none) →
        t.strip i = s.strip i ∧ ∀ e, e.strip = i → (e ∈ t.drive.queue ↔ e ∈ s.drive.queue)) ∧
      (let unmapped : StripId → Bool := fun i =>
        match (s.strip i).shown with
        | some c => (t.home c).isNone
        | none => false
      let above : StripId → Nat := fun i => (List.finRange 32).countP fun j => decide (j < i) && unmapped j
      (∀ i, unmapped i = true → s.tookHold t i) ∧
      ((∀ e ∈ s.port.queue, e.isFetch = false) →
        t.ctl.serial = s.ctl.serial + BitVec.ofNat 16 ((List.finRange 32).countP unmapped) ∧
        (∀ i c, (s.strip i).shown = some c → t.home c = none → s.ringHasRoomFor (above i + 1) →
          s.eventAt t (above i) .unmapped (BitVec.ofNat 8 i.val) (BitVec.ofNat 16 c.val)) ∧
        (∀ i, unmapped i = false → t.strip i = s.strip i))) ∧
      t.taper = { s.taper with waiters := s.taper.waiters.filter fun w =>
        match w with
        | .level c true _ => decide (t.home c = s.home c)
        | _ => true } ∧
      t.ctl.result = BitVec.ofNat 16 ((List.finRange 256).countP fun c => t.home c != s.home c) ++
        (1#8 ++ tag) ∧
      t = { s with
        port := t.port, windows := t.windows, chans := t.chans, taper := t.taper, strips := t.strips
        drive := t.drive, ctl := t.ctl })

/-- LOAD_TAPER (R58, R59). The lowest staged breakpoint that offends by one of R58's six conditions refuses the load, which changes nothing. Else the staged
table becomes active, a running conversion keeps its own table, the command is in progress with the number of re-seats, and every strip's two thresholds and
the re-seat of its SEEN channel are asked for with the owner mark. LOAD_TAPER_COMPLETE answers when no owned request is left (R60). -/
def Obligations.LoadTaperJudgesStagedTable : Prop :=
  (∀ (tag : BitVec 8) (arg : BitVec 16) (s : State), s.inReset = false → s.ctl.busy = none →
    let tr : Fin 17 → Nat := fun k => (s.taper.staged[k.val].extractLsb' 0 16).toNat
    let lv : Fin 17 → Int := fun k => (s.taper.staged[k.val].extractLsb' 16 16).toInt
    let offends : Fin 17 → Prop := fun k =>
      4095 < tr k ∨ lv k < -1440 ∨ 192 < lv k ∨ k.val = 0 ∧ tr k ≠ 0 ∨ k.val = 16 ∧ tr k ≠ 4095 ∨
      ∃ j : Fin 17, j.val + 1 = k.val ∧ (tr k ≤ tr j ∨ lv k ≤ lv j)
    (∀ k, offends k → (∀ j, j < k → ¬ offends j) →
      exec (.loadTaper tag arg) s = .next (s.writeResult tag .invalidTable (BitVec.ofNat 16 k.val))) ∧
    ((∀ k, ¬ offends k) → ∃ t, exec (.loadTaper tag arg) s = .next t ∧
      (∀ k : Fin 17, t.taper.active[k.val] = ⟨tr k, lv k⟩) ∧ t.taper.staged = s.taper.staged ∧
      (∀ run, s.taper.running = some run → t.taper.running = some run) ∧
      (∀ i on, (∃ q ∈ t.taper.queue, q.work = .threshold i on ((s.strip i).thresholdCode on) ∧
          q.owned = true) ∨
        (∃ w ∈ t.taper.waiters, w.key = some (.threshold i on) ∧ w.isOwned = true)) ∧
      (∀ i c im, (s.strip i).shown = some c → (s.chan c).image = some im →
        (∃ q ∈ t.taper.queue, q.work = .levelToTravel c ((s.chan c).proc.getD im) (s.chan c).seq ∧
          q.owned = true) ∨
        (∃ w ∈ t.taper.waiters, w.key = some (.level c) ∧ w.isOwned = true)) ∧
      t = { s with
        taper := t.taper
        ctl := { s.ctl with busy := some (.loadTaper tag ((List.finRange 32).countP fun i =>
          (s.strip i).shown.any fun c => (s.chan c).image.isSome)) } })) ∧
  (∀ (tag : BitVec 8) (n : Nat) (s : State), s.inReset = false →
    s.ctl.busy = some (.loadTaper tag n) →
    (s.taper.hasOwned = true → exec .loadTaperComplete s = .next s) ∧
    (s.taper.hasOwned = false → exec .loadTaperComplete s = .next
      (({ s with ctl := { s.ctl with busy := none } } : State).writeResult tag .done (BitVec.ofNat 16 n))))

/-- LOAD_METER_SETUP (R183, R184, Table 10.4): the first staged word in offset order that lies outside its range, or a threshold not above the one before,
refuses the load with its offset; else the staged copy becomes the pending setup, and the value tells whether it replaced one. -/
def Obligations.LoadMeterSetupJudgesStagedCopy : Prop :=
  ∀ (tag : BitVec 8) (arg : BitVec 16) (s : State), s.inReset = false → s.ctl.busy = none →
    let pr : Fin 24 → Int := fun k => s.meter.stagedProfiles[k.val].toInt
    let sc : Fin 48 → Int := fun k => s.meter.stagedScale[k.val].toInt
    let range : Nat → Int × Int := fun f =>
      [(1, 256), (0, 4096), (0, 1000), (-1920, 0), (1, 16), (1, 1000)].getD f (0, 0)
    let badP : Fin 24 → Prop := fun k => pr k < (range (k.val % 6)).1 ∨ (range (k.val % 6)).2 < pr k
    let badS : Fin 48 → Prop := fun k => sc k < -1919 ∨ 0 < sc k ∨
      ∃ j : Fin 48, j.val + 1 = k.val ∧ sc k ≤ sc j
    (∀ k, badP k → (∀ j, j < k → ¬ badP j) → exec (.loadMeterSetup tag arg) s =
      .next (s.writeResult tag .invalidTable (BitVec.ofNat 16 (0x180 + k.val)))) ∧
    (∀ k, (∀ j, ¬ badP j) → badS k → (∀ j, j < k → ¬ badS j) → exec (.loadMeterSetup tag arg) s =
      .next (s.writeResult tag .invalidTable (BitVec.ofNat 16 (0x1A0 + k.val)))) ∧
    ((∀ k, ¬ badP k) → (∀ k, ¬ badS k) → ∃ w : MeterSetup,
      exec (.loadMeterSetup tag arg) s = .next
        (({ s with meter := { s.meter with waiting := some w } } : State).writeResult tag .done
          (if s.meter.waiting.isSome then 1#16 else 0#16)) ∧
      (∀ p : Fin 4,
        (w.profiles[p.val].attack : Int) = pr ⟨6 * p.val, by omega⟩ ∧
        (w.profiles[p.val].decay : Int) = pr ⟨6 * p.val + 1, by omega⟩ ∧
        (w.profiles[p.val].hold : Int) = pr ⟨6 * p.val + 2, by omega⟩ ∧
        w.profiles[p.val].overLevel = pr ⟨6 * p.val + 3, by omega⟩ ∧
        (w.profiles[p.val].overCount : Int) = pr ⟨6 * p.val + 4, by omega⟩ ∧
        (w.profiles[p.val].overHold : Int) = pr ⟨6 * p.val + 5, by omega⟩) ∧
      (∀ k : MeterId, (w.map[k.val]).val =
        ((s.meter.stagedMap[k.val / 16]'(by omega)).extractLsb' (2 * (k.val % 16)) 2).toNat) ∧
      (∀ k : Fin 48, w.scale[k.val] = sc k))

/-! ## The taper unit -/

/-- The taper law (R44, R45): a level code's travel by its segment, rounded nearest with halves up, clamped at the table's ends; a travel's level likewise,
travel 0 giving OFF; the results lie within 0 to 4095 and within the table's levels. -/
def Obligations.TaperLawInterpolates : Prop :=
  ∀ tp : Taper, tp.wellFormed →
    (∀ code : Code, code = 0x8000#16 ∨ code.toInt ≤ tp[0].level → levelToTravel tp code = 0) ∧
    (∀ code : Code, tp[16].level ≤ code.toInt → levelToTravel tp code = 4095) ∧
    (∀ (code : Code) (k : Fin 16), tp[k.val].level ≤ code.toInt → code.toInt < tp[k.val + 1].level →
      (levelToTravel tp code : Int) = (tp[k.val].travel : Int) +
        ((code.toInt - tp[k.val].level) * ((tp[k.val + 1].travel : Int) - tp[k.val].travel) +
          (tp[k.val + 1].level - tp[k.val].level) / 2) / (tp[k.val + 1].level - tp[k.val].level)) ∧
    (∀ code : Code, levelToTravel tp code ≤ 4095) ∧
    travelToLevel tp 0 = 0x8000#16 ∧
    (∀ (t : Nat) (k : Fin 16), tp[k.val].travel < t → t ≤ tp[k.val + 1].travel →
      (travelToLevel tp t).toInt = tp[k.val].level +
        (((t : Int) - tp[k.val].travel) * (tp[k.val + 1].level - tp[k.val].level) +
          ((tp[k.val + 1].travel : Int) - tp[k.val].travel) / 2) /
            ((tp[k.val + 1].travel : Int) - tp[k.val].travel)) ∧
    (∀ t : Nat, 0 < t → t ≤ 4095 → tp[0].level ≤ (travelToLevel tp t).toInt ∧
      (travelToLevel tp t).toInt ≤ tp[16].level)

/-- A LEVEL_TO_TRAVEL result (R54) is delivered when its channel is SEEN with the request's sequence number and shown, and is then a target arrival,
by the strip's motion state (R73 to R77), with the travel of the table the conversion was started with (R50). Otherwise it is discarded. An IDLE strip
that is queued joins the start queue at its tail; its rail, when it is OFF, begins to wake at that moment and ends one rail wake later, and a WAKING or ON rail
is not changed but for the idle start, which becomes absent (R139, R142, R144). The clock comes to the conversion's end by the model's choice (entry 2). -/
def Obligations.DeliveredTravelIsATargetArrival : Prop :=
  ∀ (run : ConvRun) (c : ChanId) (code : Code) (seq : BitVec 8) (o : Bool) (rest : List ConvReq) (s : State),
    s.inReset = false → s.taper.running = some run →
    s.taper.queue = ⟨.levelToTravel c code seq, o⟩ :: rest →
    ∃ t, exec .levelToTravelComplete s = .next t ∧ t.clock = max s.clock run.due ∧
      ((s.chan c).image = none ∨ (s.chan c).seq ≠ seq ∨ s.shownBy c = none →
        t.strips = s.strips ∧ t.drive = s.drive) ∧
      (∀ i, (s.chan c).image ≠ none → (s.chan c).seq = seq → s.shownBy c = some i →
        let p := s.strip i
        let p' := t.strip i
        let T := levelToTravel run.table code
        let near := Machine.dist T p.m ≤ s.param .deadband
        let old := (p.target.map Target.travel).getD p.r
        p'.target = some ⟨code, T, c⟩ ∧ p'.mode = p.mode ∧ p'.m = p.m ∧ p'.r = p.r ∧
        p'.moveMarked = p.moveMarked ∧ p'.shown = p.shown ∧
        (p.motion = .idle → p.mode.motorised = true → ¬ near →
          p'.motion = .queued ∧ p'.speed = p.speed ∧
          t.drive.queue = s.drive.queue ++
            [⟨i, if p.calibration.isSome then .move else .calibrate⟩] ∧
          t.railEnabled (groupOf i) = true ∧
          t.rail (groupOf i) = (match s.rail (groupOf i) with
            | .off => .waking (t.clock + s.param .railWake * 4000)
            | .waking w => .waking w
            | .on _ => .on none) ∧
          (∀ g, g ≠ groupOf i → t.rail g = s.rail g)) ∧
        (p.motion = .idle → p.mode.motorised = false ∨ near → p' = { p with target := p'.target }) ∧
        (p.motion = .queued → s.purposeOf i = some .move → near →
          p'.motion = if p.mode.motorised && !p.touched && p.recalPending then .queued else .idle) ∧
        (p.motion = .queued → ¬ (s.purposeOf i = some .move ∧ near) →
          p' = { p with target := p'.target } ∧ t.drive = s.drive) ∧
        (p.motion = .moving → T = p.r → p'.motion = .settling ∧ p'.v = 0 ∧ p'.settled = 0 ∧
          p'.settleStart = s.ctl.time ∧ p'.speed = .normal) ∧
        (p.motion = .moving → T ≠ p.r → p' = { p with
          target := p'.target
          v := if (p.r < old ∧ p.r < T) ∨ (old < p.r ∧ T < p.r) then p.v else 0 }) ∧
        (p.motion = .settling → T = p.r → p' = { p with target := p'.target }) ∧
        (p.motion = .settling → T ≠ p.r →
          p'.motion = .moving ∧ p'.v = 0 ∧ p'.speed = p.speed) ∧
        (p.motion ≠ .idle → p.motion ≠ .queued → p.motion ≠ .moving → p.motion ≠ .settling →
          p' = { p with target := p'.target } ∧ t.drive = s.drive) ∧
        (∀ j, j ≠ i → t.strip j = s.strip j))

/-- The other work of the conversion queue. A TRAVEL_TO_LEVEL result sets the operator code and the last readback travel of a strip that still shows
the request's channel, and writes back to the channel's home (R12) when the strip is operator-owned, the channel has a home, and memory may not hold the
code (R55, R116, R117); a THRESHOLD result becomes the threshold at once, and forces the line OFF when it leaves it no span (R56, R136). When a conversion
completes the next head is started with the table then active, to end 1 us later (R50), and the slot freed in a full queue goes to the oldest waiter (R53):
its request takes the slot, with the code its origin calls for; one that is dropped, or whose request coalesces, leaves the slot to the next; a held beat is
judged afresh and accepted. LOAD_TAPER answers DONE with its re-seats in the very completion that finishes its last owned request (R60). CONVERSION_START
starts the head of an idle unit. The clock comes to a conversion's end by the model's choice (entry 2), and the order of this work within the completion is
its reading (entry 19). -/
def Obligations.OtherConversionsAreDelivered : Prop :=
  (∀ (run : ConvRun) (i : StripId) (travel : Nat) (c : ChanId) (o : Bool) (rest : List ConvReq)
      (s : State),
    s.inReset = false → s.taper.running = some run →
    s.taper.queue = ⟨.travelToLevel i travel c, o⟩ :: rest →
    let k := travelToLevel run.table travel
    ∃ t, exec .travelToLevelComplete s = .next t ∧
      t.strip i = (if (s.strip i).shown = some c then
        { s.strip i with opCode := some k, lastReadback := some travel } else s.strip i) ∧
      (∀ j, j ≠ i → t.strip j = s.strip j) ∧
      (s.port.heldBeat = none → (s.strip i).shown = some c → (s.strip i).operatorOwned = true →
        s.home c ≠ none → (s.chan c).image ≠ some k ∨ s.positionStands c = true →
        s.port.queue.countP InjEntry.isPosition < 32 ∨ s.port.queue.any (InjEntry.isPositionOf c) = true →
        ∃ e ∈ t.port.queue, ∃ a w, s.home c = some (a, w) ∧ e.addr = a ∧ e.body = .position c k w) ∧
      (s.port.heldBeat = none →
        ¬ ((s.strip i).shown = some c ∧ (s.strip i).operatorOwned = true ∧ s.home c ≠ none ∧
          ((s.chan c).image ≠ some k ∨ s.positionStands c = true)) →
        ∀ e, e.isPosition = true → (e ∈ t.port.queue ↔ e ∈ s.port.queue))) ∧
  (∀ (run : ConvRun) (i : StripId) (on : Bool) (code : Code) (o : Bool) (rest : List ConvReq) (s : State),
    s.inReset = false → s.taper.running = some run → s.taper.queue = ⟨.threshold i on code, o⟩ :: rest →
    let x := levelToTravel run.table code
    ∃ t, exec .thresholdComplete s = .next t ∧
      (let p := s.strip i
       let n := if on then x else p.onTravel
       let f := if on then p.offTravel else x
       t.strip i = { p with
        onTravel := n, offTravel := f
        line := p.line && !(p.mode == .parked || !p.fsEnable || p.onCode.sle p.offCode ||
          decide (n ≤ f)) }) ∧
      (∀ j, j ≠ i → t.strip j = s.strip j)) ∧
  (∀ (run : ConvRun) (q : ConvReq) (rest : List ConvReq) (c : Instr) (s : State), s.inReset = false →
    s.taper.running = some run → s.taper.queue = q :: rest →
    (match q.work with
      | .levelToTravel _ _ _ => c = .levelToTravelComplete
      | .travelToLevel _ _ _ => c = .travelToLevelComplete
      | .threshold _ _ _ => c = .thresholdComplete) →
    let head : ConvRun := ⟨s.taper.active, max s.clock run.due + 4⟩
    let request : Waiter → Option ConvReq := fun w =>
      match w with
      | .beat => none
      | .threshold i on o => some ⟨.threshold i on ((s.strip i).thresholdCode on), o⟩
      | .level k fromFetch o =>
        match (s.chan k).image, s.shownBy k with
        | some im, some _ =>
          some ⟨.levelToTravel k (if fromFetch then im else (s.chan k).proc.getD im) (s.chan k).seq, o⟩
        | _, _ => none
    ∃ t, exec c s = .next t ∧
      (s.taper.waiters = [] → t.taper = { s.taper with
        queue := rest, running := if rest = [] then none else some head }) ∧
      (∀ w ws, s.taper.waiters = w :: ws → rest.length = 15 →
        let takes : ConvReq → Prop := fun r =>
          t.taper = { s.taper with queue := rest ++ [r], running := some head, waiters := ws }
        let alone : ConvKey → Prop := fun k => ∀ x ∈ rest.drop 1, x.work.key ≠ k
        (∀ r, request w = some r → alone r.work.key → takes r) ∧
        (∀ r, request w = some r → ¬ alone r.work.key → exec c s = exec c { s with taper := { s.taper with
          queue := q :: (rest.take 1 ++ (rest.drop 1).map fun x =>
            if x.work.key = r.work.key then ⟨r.work, x.owned || r.owned⟩ else x)
          waiters := ws } }) ∧
        (request w = none → w ≠ .beat →
          exec c s = exec c { s with taper := { s.taper with waiters := ws } }) ∧
        (∀ b data e, w = .beat → s.port.req = some b → s.port.heldBeat = some (data, e) →
          t.port.heldBeat = none ∧ t.port.toMemory = s.port.toMemory ++ [MOut.writeBeat data e] ∧
          (∀ k order, s.decodeBeat b.beatAddr = .fader k order → coversCode order e = true →
            (t.chan k).image = some (codeHalf order data) ∧
            (∀ i, s.shownBy k = some i → (s.strip i).converts → alone (.level k) →
              takes ⟨.levelToTravel k (codeHalf order data) (t.chan k).seq, false⟩)))) ∧
      (∀ tag n, s.ctl.busy = some (.loadTaper tag n) →
        (t.taper.hasOwned = true → t.ctl.busy = some (.loadTaper tag n) ∧ t.ctl.result = s.ctl.result) ∧
        (t.taper.hasOwned = false → t.ctl.busy = none ∧
          t.ctl.result = BitVec.ofNat 16 n ++ (1#8 ++ tag) ∧ t.ctl.commandCause = true ∧
          ∃ e ∈ t.port.queue, e.body = .status .result t.ctl.result))) ∧
  (∀ s : State, s.inReset = false →
    (s.taper.running = none → s.taper.queue ≠ [] → exec .conversionStart s = .next { s with
      taper := { s.taper with running := some ⟨s.taper.active, s.clock + 4⟩ } }) ∧
    (s.taper.running ≠ none ∨ s.taper.queue = [] → exec .conversionStart s = .next s))

/-- The slot wait list (R53): with a slot free, a waiting beat is accepted, a waiting channel's conversion is made with the code its origin calls for if the
channel is SEEN and shown and is dropped otherwise, and a waiting threshold is made with the strip's code as it stands; with none free, nothing is served.
SLOT_WAITER_SERVE is the service where it is still due, by the model's choice (entry 5); the service within the completion that frees the slot is stated with
that completion. -/
def Obligations.SlotWaitersAreServed : Prop :=
  ∀ s : State, s.inReset = false → s.ctl.busy = none →
    (s.taper.waiters = [] ∨ 16 ≤ s.taper.queue.length → exec .slotWaiterServe s = .next s) ∧
    (∀ i on o, s.taper.waiters = [.threshold i on o] → s.taper.queue.length < 16 →
      ∃ t, exec .slotWaiterServe s = .next t ∧ t.taper.waiters = [] ∧
        (∃ q ∈ t.taper.queue, q.work = .threshold i on ((s.strip i).thresholdCode on)) ∧
        t = { s with taper := t.taper }) ∧
    (∀ c fromFetch o, s.taper.waiters = [.level c fromFetch o] → s.taper.queue.length < 16 →
      ∃ t, exec .slotWaiterServe s = .next t ∧ t.taper.waiters = [] ∧
        (∀ im, (s.chan c).image = some im → s.shownBy c ≠ none → ∃ q ∈ t.taper.queue,
          q.work = .levelToTravel c (if fromFetch then im else (s.chan c).proc.getD im) (s.chan c).seq) ∧
        ((s.chan c).image = none ∨ s.shownBy c = none → t.taper = { s.taper with waiters := [] }) ∧
        t = { s with taper := t.taper }) ∧
    (∀ q data e, s.taper.waiters = [.beat] → s.taper.queue.length < 16 →
      s.port.req = some q → s.port.heldBeat = some (data, e) →
      ∃ t, exec .slotWaiterServe s = .next t ∧ t.taper.waiters = [] ∧ t.port.heldBeat = none ∧
        t.port.toMemory = s.port.toMemory ++ [MOut.writeBeat data e] ∧
        (∀ c order, s.decodeBeat q.beatAddr = .fader c order → coversCode order e = true →
          (t.chan c).image = some (codeHalf order data)))

/-! ## The servo -/

/-- Readings and samples of a strip at rest (R87 to R90, R100, R115, R135, R136). SENSOR_READING is kept as the latest reading. No sample is taken before
every strip has a reading. A sample of a strip that is PARKED, IDLE, QUEUED, TOUCHED, LATCHED or STALLED only measures, with the calibration record if it has
one, and evaluates the fader-start line, whose change creates FSTART_ON or FSTART_OFF with the strip and the measured travel; the next is due 1 ms later. The
first sample of all fixes the others' moments 31.25 us apart in strip order (the model's reading of R87, entry 14) and starts the strip's readback timer. The
clock comes to the sample's moment by the model's choice (entry 2). -/
def Obligations.RestSamplesOnlyMeasure : Prop :=
  (∀ (i : StripId) (raw : BitVec 12) (s : State), s.inReset = false →
    ∃ t, exec (.sensorReading i raw) s = .next t ∧
      t.strip i = { s.strip i with reading := some raw } ∧ (∀ j, j ≠ i → t.strip j = s.strip j) ∧
      t = { s with strips := t.strips }) ∧
  (∀ (i : StripId) (s : State), (∃ j, (s.strip j).reading = none) → s.inReset = false →
    exec (.servoSample i) s = .next s) ∧
  (∀ (i : StripId) (raw : BitVec 12) (due : Nat) (s : State), s.sampling i raw due →
    (s.strip i).motion.driven = false →
    ∃ t, exec (.servoSample i) s = .next t ∧ t.clock = max s.clock due ∧
      (let p := s.strip i
       let m' := (t.strip i).m
       (p.calibration = none → m' = raw.toNat) ∧
       (∀ low high, p.calibration = some ⟨low, high⟩ → low < high →
        (m' : Int) = max 0 (min 4095
          ((((raw.toNat : Int) - low) * 4095 + ((high : Int) - low) / 2) / ((high : Int) - low)))) ∧
       t.strip i = { p with
        m := m', sampleDue := some (due + 4000)
        line :=
          if p.mode = .parked ∨ p.fsEnable = false ∨ p.onCode.sle p.offCode = true ∨
            p.onTravel ≤ p.offTravel then false
          else if p.line then decide (p.offTravel < m') else decide (p.onTravel ≤ m') }) ∧
      s.lineReported t i ∧
      (∀ j, j ≠ i → t.strip j = s.strip j) ∧
      t = { s with clock := t.clock, strips := t.strips, port := t.port, ctl := t.ctl }) ∧
  (∀ (i : StripId) (s : State), s.inReset = false → s.allRead = true → (s.strip i).waiting = none →
    (∀ j, (s.strip j).sampleDue = none) → (s.strip i).readbackDue = none →
    (s.strip i).motion.driven = false →
    ∃ t, exec (.servoSample i) s = .next t ∧ t.clock = s.clock ∧
      (t.strip i).sampleDue = some (s.clock + 4000) ∧
      (t.strip i).readbackDue = some (s.clock + s.param .readbackPeriod * 4000) ∧
      (∀ j, i < j → (t.strip j).sampleDue = some (s.clock + 125 * (j.val - i.val))) ∧
      (∀ j, j < i → (t.strip j).sampleDue = some (s.clock + 4000 - 125 * (i.val - j.val))))

/-- A sample of a MOVING strip (R91, R92, R94, R98): the reference moves toward T by the speed that acceleration, limit and braking bound allow, by at least
one; at T the strip enters SETTLING; the drive follows the drive law; a lag above the tolerance marks the move and counts one error, which raises the current
slice and the error total, and sets recal pending where the threshold test says so (R155). -/
def Obligations.MovingSamplesStepTheReference : Prop :=
  ∀ (i : StripId) (raw : BitVec 12) (due : Nat) (g : Target) (s : State), s.sampling i raw due →
    s.paramsInRange → s.stripsInRange → (s.strip i).motion = .moving → (s.strip i).target = some g →
    ∃ t, exec (.servoSample i) s = .next t ∧
      let p := s.strip i
      let p' := t.strip i
      let m' := measured p.calibration raw.toNat
      let d := Machine.dist g.travel p.r
      let lag := Machine.dist p'.r m'
      let err : Int := (p'.r : Int) - m'
      let drive := driveOf (s.param .kp) (s.param .kv) err
      p'.m = m' ∧ p'.target = p.target ∧ p'.mode = p.mode ∧
      (∃ b v : Nat, b * b ≤ 2 * s.param .accel * d ∧ 2 * s.param .accel * d < (b + 1) * (b + 1) ∧
        v = min (min (p.v + s.param .accel)
          (if p.speed = .normal then s.param .vmax else s.param .vret)) b ∧
        (0 < d → 1 ≤ v) ∧
        p'.r = (if p.r < g.travel then p.r + min v d else p.r - min v d) ∧
        (p'.r ≠ g.travel → p'.motion = .moving ∧ p'.v = v ∧ p'.speed = p.speed ∧
          p'.drive = drive (if p'.r < g.travel then v else -v))) ∧
      (p'.r = g.travel → p'.motion = .settling ∧ p'.v = 0 ∧ p'.settled = 0 ∧
        p'.settleStart = s.ctl.time ∧ p'.speed = .normal ∧ p'.drive = drive 0) ∧
      (s.param .trackTolerance < lag → p'.moveMarked = true) ∧
      (lag ≤ s.param .trackTolerance → p'.moveMarked = p.moveMarked) ∧
      s.countsErrors (if s.param .trackTolerance < lag ∧ p.moveMarked = false then 1 else 0) p p' ∧
      (∀ j, j ≠ i → t.strip j = s.strip j)

/-- A sample of a SETTLING strip (R96, R97): within deadband the drive is 0 and the count rises, and at the settle count the strip comes to rest, or is queued
when a calibration is owed (R157); outside it the count starts again and the drive pushes back; a strip that has not settled within the settle timeout is
STALLED, with one error, the FAULT cause and a STALL event. A lag above the tolerance marks the move and counts one error too (R98). Each error raises the
current slice and the error total, and sets recal pending where the threshold test says so (R155). SETTLED and SETTLE_TIMEOUT are the sample where their
outcome comes about, and nothing elsewhere (entry 4); the order of the tests of one sample is entry 18's. -/
def Obligations.SettlingSamplesSettleOrStall : Prop :=
  ∀ (i : StripId) (raw : BitVec 12) (due : Nat) (s : State), s.sampling i raw due →
    (s.strip i).motion = .settling →
    let p := s.strip i
    let m' := measured p.calibration raw.toNat
    let lag := Machine.dist p.r m'
    let near := lag ≤ s.param .deadband
    let done := near ∧ s.param .settleCount ≤ p.settled + 1
    let late := ¬ done ∧ s.param .settleTimeout ≤ (s.ctl.time - p.settleStart).toNat
    ∃ t, exec (.servoSample i) s = .next t ∧
      let p' := t.strip i
      p'.m = m' ∧ p'.r = p.r ∧ p'.target = p.target ∧
      p'.moveMarked = (p.moveMarked || decide (s.param .trackTolerance < lag)) ∧
      s.countsErrors ((if s.param .trackTolerance < lag ∧ p.moveMarked = false then 1 else 0) +
        if late then 1 else 0) p p' ∧
      (done → exec (.settled i) s = .next t ∧ p'.drive = 0 ∧ p'.v = 0 ∧ p'.latch = false ∧
        p'.motion = if p.mode.motorised && !p.touched && p'.recalPending then .queued else .idle) ∧
      (¬ done → exec (.settled i) s = .next s) ∧
      (late → exec (.settleTimeout i) s = .next t ∧ p'.motion = .stalled ∧ p'.drive = 0 ∧
        t.ctl.faultCause = true ∧
        (s.ringHasRoom → ∃ e ∈ t.port.queue, e.body = .event
          (eventWord0 .stall (BitVec.ofNat 8 i.val) s.ctl.serial)
          (eventWord1 (BitVec.ofNat 16 lag) s.ctl.time))) ∧
      (¬ late → exec (.settleTimeout i) s = .next s) ∧
      (¬ done → ¬ late → p'.motion = .settling ∧ p'.settled = (if near then p.settled + 1 else 0) ∧
        p'.drive = (if near then 0
          else driveOf (s.param .kp) (s.param .kv) ((p.r : Int) - m') 0)) ∧
      (∀ j, j ≠ i → t.strip j = s.strip j)

/-- A sample of a CALIBRATING strip (R159 to R163). The raw reading is judged for stillness; a phase that is still for cal still samples has found its stop:
LOW_SEEK turns to HIGH_SEEK, and HIGH_SEEK is judged by its span, a success storing the record and sending the strip to its target, or to settle; a short
span and a timed-out phase fail the run, which begins anew below bailout and leaves the strip STALLED at it. CAL_STOP_FOUND and CAL_PHASE_TIMEOUT are the
sample where their outcome comes about, and nothing elsewhere (entry 4). -/
def Obligations.CalibrationSamplesRunThePhases : Prop :=
  ∀ (i : StripId) (raw : BitVec 12) (due : Nat) (c : CalRun) (s : State), s.sampling i raw due →
    (s.strip i).motion = .calibrating → (s.strip i).cal = some c →
    let p := s.strip i
    let x := raw.toNat
    let anchor := match c.anchor with
      | some a => if Machine.dist x a ≤ 1 then a else x
      | none => x
    let still := match c.anchor with
      | some a => if Machine.dist x a ≤ 1 then c.still + 1 else 0
      | none => c.still
    let found := s.param .calStill ≤ still
    let late := ¬ found ∧ s.param .calTimeout ≤ (s.ctl.time - c.start).toNat
    let good := match c.phase with
      | .lowSeek => False
      | .highSeek low => low + s.param .minSpan ≤ x
    let fails := late ∨ found ∧ c.phase ≠ .lowSeek ∧ ¬ good
    ∃ t, exec (.servoSample i) s = .next t ∧
      let p' := t.strip i
      p'.m = measured p.calibration x ∧
      (found → exec (.calStopFound i) s = .next t) ∧ (¬ found → exec (.calStopFound i) s = .next s) ∧
      (late → exec (.calPhaseTimeout i) s = .next t) ∧
      (¬ late → exec (.calPhaseTimeout i) s = .next s) ∧
      (¬ found → ¬ late → p'.motion = .calibrating ∧
        p'.cal = some ⟨c.phase, c.start, some anchor, still⟩ ∧
        p'.drive = match c.phase with
          | .lowSeek => -(s.param .calDrive : Int)
          | .highSeek _ => s.param .calDrive) ∧
      (found → c.phase = .lowSeek → p'.motion = .calibrating ∧
        p'.cal = some ⟨.highSeek x, s.ctl.time, none, 0⟩ ∧ p'.drive = s.param .calDrive) ∧
      (∀ low, found → c.phase = .highSeek low → good →
        p'.calibration = some ⟨low, x⟩ ∧ p'.slices = [0, 0, 0, 0, 0, 0, 0, 0] ∧
        p'.errorTotal = p.errorTotal ∧ p'.attempts = 0 ∧ p'.recalPending = false ∧ p'.cal = none ∧
        p'.drive = 0 ∧ p'.r = p'.m ∧ p'.v = 0 ∧ p'.moveMarked = false ∧
        p'.motion = (if p.target.isSome then .moving else .settling) ∧
        (s.ringHasRoom → ∃ e ∈ t.port.queue, e.body = .event
          (eventWord0 .calDone (BitVec.ofNat 8 i.val) s.ctl.serial)
          (eventWord1 (BitVec.ofNat 16 (x - low)) s.ctl.time))) ∧
      (fails → p'.attempts = p.attempts + 1 ∧ p'.calibration = p.calibration ∧
        p'.errorTotal = p.errorTotal ∧
        (p.attempts + 1 < s.param .bailout → p'.motion = .calibrating ∧
          p'.cal = some ⟨.lowSeek, s.ctl.time, none, 0⟩ ∧ p'.drive = -(s.param .calDrive : Int)) ∧
        (s.param .bailout ≤ p.attempts + 1 → p'.motion = .stalled ∧ p'.cal = none ∧ p'.drive = 0 ∧
          p'.recalPending = false ∧ t.ctl.faultCause = true)) ∧
      (∀ j, j ≠ i → t.strip j = s.strip j)

/-! ## Touch -/

/-- Touch inputs and accepted presses (R104 to R107). A change of a raw input cancels a running timer, or starts one of the direction's length when
the level differs from the accepted touch. A PRESS timer's expiry accepts the touch: the drive stops, the reference takes the fader, the latch
engages in LATCH mode, and every state but PARKED and STALLED becomes TOUCHED, leaving the start queue or the calibration run; TOUCH_ON carries the
hand level. The clock comes to the timer's expiry by the model's choice (entry 2). -/
def Obligations.PressesAreDebouncedAndTaken : Prop :=
  (∀ (i : StripId) (b : Bool) (s : State), s.inReset = false →
    (b = (s.strip i).rawTouch → exec (.touchInputChange i b) s = .next s) ∧
    (b ≠ (s.strip i).rawTouch → ∃ t, exec (.touchInputChange i b) s = .next t ∧
      t.strip i = { s.strip i with
        rawTouch := b
        debounce :=
          if (s.strip i).debounce ≠ none ∨ b = (s.strip i).touched then none
          else some ⟨b, s.clock +
            (if b then s.param .pressDebounce else s.param .releaseDebounce) * 4000⟩ } ∧
      (∀ j, j ≠ i → t.strip j = s.strip j) ∧ t = { s with strips := t.strips })) ∧
  (∀ (i : StripId) (expiry : Nat) (s : State), s.inReset = false →
    (s.strip i).debounce = some ⟨true, expiry⟩ →
    ∃ t, exec (.debounceExpiry i) s = .next t ∧ t.clock = max s.clock expiry ∧
      (let p := s.strip i
       let p' := t.strip i
       p'.touched = true ∧ p'.debounce = none ∧ p'.drive = 0 ∧ p'.r = p.m ∧ p'.v = 0 ∧
       p'.latch = (p.latch || decide (p.mode = .latch)) ∧ p'.target = p.target ∧
       p'.opCode = p.opCode ∧ p'.lastReadback = p.lastReadback ∧ p'.recalPending = p.recalPending ∧
       p'.attempts = p.attempts ∧ p'.mode = p.mode ∧ p'.shown = p.shown ∧
       (p.motion = .parked ∨ p.motion = .stalled → p'.motion = p.motion ∧ t.drive = s.drive) ∧
       (p.motion ≠ .parked → p.motion ≠ .stalled →
        p'.motion = .touched ∧ p'.cal = none ∧ p'.speed = .normal) ∧
       (p.motion = .queued → ∀ e ∈ t.drive.queue, e.strip ≠ i)) ∧
      t.ctl.serial = s.ctl.serial + 1#16 ∧
      (s.ringHasRoom → ∃ e ∈ t.port.queue, e.body = .event
        (eventWord0 .touchOn (BitVec.ofNat 8 i.val) s.ctl.serial)
        (eventWord1 (match s.retained i with
          | some code => code
          | none => travelToLevel s.taper.active (s.strip i).m) s.ctl.time)) ∧
      (∀ j, j ≠ i → t.strip j = s.strip j) ∧
      t = { s with
        clock := t.clock, strips := t.strips, drive := t.drive, port := t.port, ctl := t.ctl })

/-- A release with no pending channel (R109, R111 to R114). In READ and TOUCH behaviour the strip is given back to the processor code: by its recorded target
when that pairs with the code, by a new conversion when it does not; with TOUCH behaviour the processor code is written back to the channel's home (R12) where
memory may not hold it. WRITE comes to rest, an engaged LATCH becomes LATCHED, PARKED and STALLED keep their state. A calibration owed is queued. The clock
comes to the timer's expiry by the model's choice (entry 2). -/
def Obligations.ReleasesGiveTheStripBack : Prop :=
  ∀ (i : StripId) (expiry : Nat) (s : State), s.inReset = false →
    (s.strip i).debounce = some ⟨false, expiry⟩ → (s.strip i).waiting = none →
    ∃ t, exec (.debounceExpiry i) s = .next t ∧ t.clock = max s.clock expiry ∧
      let p := s.strip i
      let p' := t.strip i
      let owed := p.recalPending
      let touchLike := p.mode = .touch ∨ p.mode = .latch ∧ p.latch = false
      p'.touched = false ∧ p'.debounce = none ∧ p'.mode = p.mode ∧ p'.shown = p.shown ∧
      p'.target = p.target ∧ p'.opCode = p.opCode ∧ p'.lastReadback = p.lastReadback ∧
      (p.motion = .stalled ∨ p.mode = .parked →
        p' = { p with touched := false, debounce := none }) ∧
      (p.motion ≠ .stalled → p.mode = .write → p'.motion = .idle) ∧
      (p.motion ≠ .stalled → p.mode = .latch → p.latch = true →
        p'.motion = .latched ∧ p'.latch = true ∧ p'.drive = 0) ∧
      (p.motion ≠ .stalled → p.mode = .read ∨ touchLike →
        p'.latch = false ∧
        (owed = true → p'.motion = .queued ∧
          (s.startsMatch → ⟨i, .calibrate⟩ ∈ t.drive.queue)) ∧
        (s.processorCode i = none → p'.speed = .normal ∧ (owed = false → p'.motion = .idle)) ∧
        (∀ c k g, s.processorCode i = some (c, k) → p.target = some g → g.code = k → g.chan = c →
          (Machine.dist g.travel p.m ≤ s.param .deadband →
            p'.speed = .normal ∧ (owed = false → p'.motion = .idle)) ∧
          (s.param .deadband < Machine.dist g.travel p.m → p'.speed = .ret ∧ p'.motion = .queued ∧
            (owed = false →
              ⟨i, if p.calibration.isSome then .move else .calibrate⟩ ∈ t.drive.queue))) ∧
        (∀ c k, s.processorCode i = some (c, k) → (∀ g, p.target = some g → g.code ≠ k ∨ g.chan ≠ c) →
          p'.speed = .ret ∧ (owed = false → p'.motion = .idle) ∧
          ((s.chan c).image ≠ none → t.taper.carries c k (s.chan c).seq))) ∧
      (∀ c k, touchLike → s.processorCode i = some (c, k) → s.home c ≠ none →
        (s.chan c).image ≠ some k ∨ s.positionStands c = true →
        s.port.queue.countP InjEntry.isPosition < 32 ∨ s.port.queue.any (InjEntry.isPositionOf c) = true →
        ∃ e ∈ t.port.queue, ∃ a w, s.home c = some (a, w) ∧ e.addr = a ∧ e.body = .position c k w) ∧
      (s.ringHasRoom → s.port.queue.countP InjEntry.isPosition < 32 → ∃ e ∈ t.port.queue, e.body = .event
        (eventWord0 .touchOff (BitVec.ofNat 8 i.val) s.ctl.serial)
        (eventWord1 (s.releaseLevel i) s.ctl.time)) ∧
      (∀ j, j ≠ i → t.strip j = s.strip j)

/-- Pending channels (R110, R129 to R131). At a servo sample a deferred strip stays deferred while its touch is accepted, or open protect is 1 and its line
is ON after the sample's evaluation; otherwise it adopts its pending channel: the channel becomes shown, or the strip shows NONE and is conflict-blank when
another strip shows it, its operator code and last readback travel become absent, and LAYER_APPLIED carries the channel then shown, or 256. At a release the
test is of open protect and the line alone, and a strip that adopts is given back with speed class RETURN, its latch disengaged, and no more. Where the adopting
strip gives up a channel, the lowest strip that is conflict-blank on it defers on it, or adopts it with a LAYER_APPLIED of its own after the first (R130); every
other strip is as before. The clock comes to the sample or the expiry by the model's choice (entry 2). -/
def Obligations.PendingChannelsAreAdopted : Prop :=
  let adopts : State → State → StripId → Option ChanId → Prop := fun s t i x =>
    (t.strip i).waiting = none ∧ (t.strip i).opCode = none ∧ (t.strip i).lastReadback = none ∧
    (∀ c, x = some c → (∃ j, j ≠ i ∧ (s.strip j).shown = some c) →
      (t.strip i).shown = none ∧ (t.strip i).conflict = some c) ∧
    ((∀ c j, x = some c → j ≠ i → (s.strip j).shown ≠ some c) → (t.strip i).shown = x) ∧
    s.releases t i (s.gaveUp t i)
  let announced : State → State → StripId → Prop := fun s t i =>
    s.announces t i 0 ∧
    ∀ k y, s.owedRelease i (s.gaveUp t i) k → ¬ s.defers k → (s.strip i).shown = some y →
      (s.chan y).image ≠ none → s.ringHasRoomFor 2 → s.announces t k 1
  (∀ (i : StripId) (raw : BitVec 12) (due : Nat) (x : Option ChanId) (s : State), s.inReset = false →
    s.allRead = true → (s.strip i).reading = some raw → (s.strip i).sampleDue = some due →
    (s.strip i).readbackDue.isSome = true → (s.strip i).waiting = some x → s.layersSafe →
    ∃ t, exec (.servoSample i) s = .next t ∧ t.clock = max s.clock due ∧
      (t.strip i).m = measured (s.strip i).calibration raw.toNat ∧
      ((s.strip i).touched = true ∨ s.param .openProtect ≠ 0 ∧ (t.strip i).line = true →
        (t.strip i).waiting = some x ∧ (t.strip i).shown = (s.strip i).shown ∧
        (∀ j, j ≠ i → t.strip j = s.strip j)) ∧
      ((s.strip i).touched = false → s.param .openProtect = 0 ∨ (t.strip i).line = false →
        adopts s t i x ∧ (t.strip i).mode = (s.strip i).mode ∧
        (s.ringHasRoom → (s.strip i).motion.driven = false → (t.strip i).line = (s.strip i).line →
          (∀ c, x = some c → (s.chan c).image ≠ none) → announced s t i))) ∧
  (∀ (i : StripId) (expiry : Nat) (x : Option ChanId) (s : State), s.inReset = false →
    (s.strip i).debounce = some ⟨false, expiry⟩ → (s.strip i).waiting = some x → s.layersSafe →
    ∃ t, exec (.debounceExpiry i) s = .next t ∧ t.clock = max s.clock expiry ∧
      (t.strip i).touched = false ∧ (t.strip i).debounce = none ∧ (t.strip i).mode = (s.strip i).mode ∧
      (t.strip i).line = (s.strip i).line ∧
      (s.param .openProtect ≠ 0 → (s.strip i).line = true →
        (t.strip i).waiting = some x ∧ (t.strip i).shown = (s.strip i).shown ∧
        (∀ j, j ≠ i → t.strip j = s.strip j)) ∧
      (s.param .openProtect = 0 ∨ (s.strip i).line = false → adopts s t i x ∧
        (s.ringHasRoom → (∀ c, x = some c → (s.chan c).image ≠ none) → announced s t i) ∧
        ((s.strip i).motion ≠ .stalled → (s.strip i).mode.motorised = true →
          (t.strip i).latch = false ∧ (t.strip i).speed = .ret ∧
          (t.strip i).motion = if (s.strip i).recalPending then .queued else .idle) ∧
        ((s.strip i).motion ≠ .stalled → (s.strip i).mode = .write → (t.strip i).motion = .idle) ∧
        ((s.strip i).motion = .stalled ∨ (s.strip i).motion = .parked ∧ (s.strip i).mode = .parked →
          (t.strip i).motion = (s.strip i).motion ∧ (t.strip i).latch = false)))

/-- Readback (R47, R115, R116): each expiry sets the next one a period later. It reads back when the strip is touched in TOUCH or LATCH mode, or in WRITE
mode, shows a channel with a home, and has moved: with code retention the target's code becomes the operator code at once and is written back to that home
where memory may not hold it, or refused with WRITEBACK_ERROR when 32 POSITION entries are unissued (R12), and otherwise the travel is converted, unless the
queue is full. Else nothing else happens. The clock comes to the expiry by the model's choice (entry 2). -/
def Obligations.ReadbacksReportTheHand : Prop :=
  ∀ (i : StripId) (due : Nat) (s : State), s.inReset = false → (s.strip i).readbackDue = some due →
    let p := s.strip i
    let condition : ChanId → Prop := fun c =>
      ((p.mode = .touch ∨ p.mode = .latch) ∧ p.touched = true ∨ p.mode = .write) ∧
      p.shown = some c ∧ s.home c ≠ none ∧
      (∀ x, p.lastReadback = some x → s.param .readbackDeadband ≤ Machine.dist p.m x)
    ∃ t, exec (.readbackExpiry i) s = .next t ∧ t.clock = max s.clock due ∧
      let p' := t.strip i
      p'.readbackDue = some (due + s.param .readbackPeriod * 4000) ∧
      ((∀ c, ¬ condition c) → p' = { p with readbackDue := p'.readbackDue } ∧
        t = { s with clock := t.clock, strips := t.strips }) ∧
      (∀ c g, condition c → p.target = some g → g.chan = c →
        Machine.dist p.m g.travel ≤ s.param .deadband →
        p' = { p with
          readbackDue := p'.readbackDue, opCode := some g.code, lastReadback := some p.m } ∧
        t.taper = s.taper ∧
        ((s.chan c).image ≠ some g.code ∨ s.positionStands c = true →
          s.port.queue.countP InjEntry.isPosition < 32 ∨
            s.port.queue.any (InjEntry.isPositionOf c) = true →
          ∃ e ∈ t.port.queue, ∃ a w, s.home c = some (a, w) ∧ e.addr = a ∧
            e.body = .position c g.code w) ∧
        ((s.chan c).image ≠ some g.code ∨ s.positionStands c = true →
          32 ≤ s.port.queue.countP InjEntry.isPosition →
          s.port.queue.any (InjEntry.isPositionOf c) = false → s.ringHasRoom →
          ∃ e ∈ t.port.queue, e.body = .event
            (eventWord0 .writebackError (BitVec.ofNat 8 c.val) s.ctl.serial) (eventWord1 2#16 s.ctl.time)) ∧
        ((s.chan c).image = some g.code → s.positionStands c = false → t.port = s.port)) ∧
      (∀ c, condition c → (∀ g, p.target = some g → g.chan ≠ c ∨
          s.param .deadband < Machine.dist p.m g.travel) →
        p' = { p with readbackDue := p'.readbackDue } ∧
        (s.taper.hasUnstarted (.readback i) = true ∨ s.taper.queue.length < 16 →
          ∃ q ∈ t.taper.queue, q.work = .travelToLevel i p.m c) ∧
        (s.taper.hasUnstarted (.readback i) = false → 16 ≤ s.taper.queue.length → t.taper = s.taper)) ∧
      (∀ j, j ≠ i → t.strip j = s.strip j)

/-! ## Drive supervisor and slices -/

/-- A grant (R147 to R150) falls at the first moment, from now on, at which the start queue holds an eligible entry, and goes to the eligible entry
nearest the head: it leaves the queue, joins the history of 32, and its strip enters MOVING from where its fader stands, or begins its calibration
run (R158). With no entry that becomes eligible by time alone nothing happens. The clock comes to that moment by the model's choice (entry 2), and that
the moments of grants and of eligibility are whole microseconds, rounded down, is its choice too (entry 31). -/
def Obligations.GrantsGoToTheOldestEligible : Prop :=
  ∀ s : State, s.inReset = false →
    ((∀ n e, s.nowUs ≤ n → e ∈ s.drive.queue → ¬ s.mayGrant n e) → exec .grant s = .next s) ∧
    (s.startsMatch → (∃ n e, s.nowUs ≤ n ∧ e ∈ s.drive.queue ∧ s.mayGrant n e) →
      ∃ (n : Nat) (e : StartEntry) (before after : List StartEntry) (t : State),
        exec .grant s = .next t ∧ s.nowUs ≤ n ∧ s.drive.queue = before ++ e :: after ∧
        s.mayGrant n e ∧ (∀ x ∈ before, ¬ s.mayGrant n x) ∧
        (∀ n' x, s.nowUs ≤ n' → n' < n → x ∈ s.drive.queue → ¬ s.mayGrant n' x) ∧
        t.clock = max s.clock (4 * n) ∧ t.drive.queue = before ++ after ∧
        t.drive.history = (s.drive.history ++ [GrantRec.mk n (groupOf e.strip)]).drop
          (s.drive.history.length + 1 - 32) ∧
        t.drive.anyLatest = some n ∧
        (∀ g, t.drive.groupLatest[g.val] =
          if g = groupOf e.strip then some n else s.drive.groupLatest[g.val]) ∧
        (e.purpose = .move → t.strip e.strip = { s.strip e.strip with
          motion := .moving, r := (s.strip e.strip).m, v := 0, moveMarked := false, cal := none }) ∧
        (e.purpose = .calibrate → (t.strip e.strip).motion = .calibrating ∧
          (t.strip e.strip).cal = some ⟨.lowSeek, s.ctl.time, none, 0⟩ ∧
          (t.strip e.strip).drive = -(s.param .calDrive : Int)) ∧
        (∀ j, j ≠ e.strip → t.strip j = s.strip j) ∧
        t = { s with clock := t.clock, strips := t.strips, drive := t.drive })

/-- Rails and slices. At its wake end a rail becomes ON, idling from then when its group is inactive (R140), and the group's ON_WAKE strips with
valid calibration are armed, a ready IDLE strip with the flag set being queued to calibrate (R141, R157). An idle rail goes OFF one idle-off after
its idle start, and not at all with idle-off 0 (R142). Every 125 ms each strip's slices turn (R154). The clock comes to each of these moments by the
model's choice (entry 2). -/
def Obligations.RailsWakeIdleAndSlicesTurn : Prop :=
  (∀ (g : GroupId) (s : State), s.inReset = false →
    ((∀ w, s.rail g ≠ .waking w) → exec (.railWakeEnd g) s = .next s) ∧
    (∀ w, s.rail g = .waking w → ∃ t, exec (.railWakeEnd g) s = .next t ∧
      t.clock = max s.clock w ∧
      t.rail g = .on (if t.groupActive g then none else some w) ∧
      (∀ h, h ≠ g → t.rail h = s.rail h) ∧
      (∀ i, groupOf i = g →
        (t.strip i).recalPending = ((s.strip i).recalPending ||
          decide ((s.strip i).policy = .onWake) && (s.strip i).calibration.isSome) ∧
        (t.strip i).motion = (if (s.strip i).motion = .idle ∧ (s.strip i).mode.motorised = true ∧
          (s.strip i).touched = false ∧ (t.strip i).recalPending = true then .queued
          else (s.strip i).motion) ∧
        (s.startsMatch → (s.strip i).mode.motorised = true → (t.strip i).recalPending = true →
          ∀ e ∈ t.drive.queue, e.strip = i → e.purpose = .calibrate)) ∧
      (∀ i, groupOf i ≠ g → t.strip i = s.strip i) ∧
      t = { s with clock := t.clock, strips := t.strips, drive := t.drive })) ∧
  (∀ (g : GroupId) (s : State), s.inReset = false →
    (∀ idle, s.rail g = .on (some idle) → s.param .idleOff ≠ 0 →
      ∃ t, exec (.railIdleOff g) s = .next t ∧ t.rail g = .off ∧ t.railEnabled g = false ∧
        (∀ h, h ≠ g → t.rail h = s.rail h) ∧
        t = { s with
          clock := max s.clock (idle + s.param .idleOff * 4000)
          drive := { s.drive with rails := t.drive.rails } }) ∧
    ((∀ idle, s.rail g ≠ .on (some idle)) ∨ s.param .idleOff = 0 →
      exec (.railIdleOff g) s = .next s)) ∧
  (∀ s : State, s.inReset = false →
    ∃ t, exec .sliceTimerExpiry s = .next t ∧ t.clock = max s.clock s.sliceDue ∧
      t.sliceDue = s.sliceDue + 125 * 4000 ∧
      (∀ i, t.strip i = { s.strip i with slices := 0 :: (s.strip i).slices.take 7 }) ∧
      t = { s with clock := t.clock, sliceDue := t.sliceDue, strips := t.strips })

/-! ## Meters -/

/-- The input level (R174): floor for a capture of 0, and otherwise the integer nearest to 320 log10 (m / 8388608), m clamped to full scale, an exact half
rounded toward zero, and the result clamped to at least -1920. -/
def Obligations.InputLevelIsNearestLogarithm : Prop :=
  inputLevel 0 = -1920 ∧
  ∀ m : Nat, 0 < m →
    let x : ℝ := 320 * Real.logb 10 ((min m 8388608 : ℕ) / 8388608)
    let l : Int := inputLevel m
    (-1920 ≤ l) ∧ l ≤ 0 ∧ x < (l : ℝ) + 1 / 2 ∧ (-1920 < l → (l : ℝ) - 1 / 2 ≤ x)

/-- A frame (R172 to R181). A pending setup becomes active; each channel takes the input, ballistics, peak, over and stale steps with its profile,
and an OVER event for each lighting of a lamp, in channel order, with the channel and its input level (R178, Table 11.7), written as two's complement by the
model's choice (entry 36); its output is computed; the 832 bits of the shift begin, lamp, dot and bar of M0 first.
PEAK_HOLD_END, OVER_LATCH_END and STALE_ENTRY are the frame where their outcome comes about, and nothing elsewhere (entry 4). METER_SHIFT_END gives
the drivers the frame, 833 us after the shift began. The clock comes to the expiry by the model's choice (entry 2). -/
def Obligations.FramesProcessEveryChannel : Prop :=
  (∀ s : State, s.inReset = false →
    let setup := s.meter.waiting.getD s.meter.active
    let prof : MeterId → Profile := fun k => setup.profiles[(setup.map[k.val]).val]
    let level : MeterId → Int := fun k =>
      match (s.meterRec k).capture with
      | some c => inputLevel c
      | none => -1920
    let count : MeterId → Nat := fun k =>
      if (s.meterRec k).capture.isSome then 0 else min ((s.meterRec k).staleCount + 1) 255
    let stale : MeterId → Bool := fun k => (s.meterRec k).stale && (s.meterRec k).capture.isNone
    let D : MeterId → Int := fun k =>
      let r := s.meterRec k
      let j := 16 * level k
      if r.level < j then r.level + ((j - r.level) * (prof k).attack + 255) / 256
      else max j (r.level - (prof k).decay)
    let P : MeterId → Int × Nat := fun k =>
      let r := s.meterRec k
      if r.peak ≤ D k then (D k, (prof k).hold)
      else if 0 < r.hold then (r.peak, r.hold - 1)
      else (D k, 0)
    let run : MeterId → Nat := fun k =>
      if (prof k).overLevel ≤ level k then min ((s.meterRec k).overRun + 1) 16 else 0
    let latch : MeterId → Nat := fun k =>
      if stale k then (s.meterRec k).overLatch
      else if (prof k).overCount ≤ run k then (prof k).overHold
      else (s.meterRec k).overLatch - 1
    let lights : MeterId → Bool := fun k =>
      !stale k && decide ((prof k).overCount ≤ run k) && decide ((s.meterRec k).overLatch = 0)
    let above : MeterId → Nat := fun k => (List.finRange 64).countP fun j => decide (j < k) && lights j
    let dies : MeterId → Prop := fun k => stale k = false ∧ s.param .staleLimit ≤ count k
    let segs : Int → Nat := fun d => (List.finRange 48).countP fun j => setup.scale[j.val] ≤ d / 16
    (∃ t, exec .frameExpiry s = .next t ∧ s.clock ≤ t.clock ∧ s.meter.frameDue ≤ t.clock ∧
      t.meter.frameDue = s.meter.frameDue + s.param .framePeriod * 4000 ∧
      t.meter.active = setup ∧ t.meter.waiting = none ∧
      (∀ k, dies k → t.meterRec k = ⟨none, -30720, -30720, 0, 0, 0, count k, true, ⟨0, 0, false⟩⟩) ∧
      (∀ k, ¬ dies k →
        (t.meterRec k).capture = none ∧ (t.meterRec k).staleCount = count k ∧
        (t.meterRec k).stale = stale k ∧ (t.meterRec k).level = D k ∧
        (t.meterRec k).peak = (P k).1 ∧ (t.meterRec k).hold = (P k).2 ∧
        (t.meterRec k).overLatch = latch k ∧
        (stale k = false → (t.meterRec k).overRun = run k) ∧
        (t.meterRec k).out = (if stale k then ⟨0, 0, false⟩
          else ⟨segs (D k), segs (P k).1, decide (0 < latch k)⟩)) ∧
      t.ctl.serial = s.ctl.serial + BitVec.ofNat 16 ((List.finRange 64).countP lights) ∧
      (∀ k, lights k = true → s.ringHasRoomFor (above k + 1) →
        s.eventAt t (above k) .over (BitVec.ofNat 8 k.val) (BitVec.ofInt 16 (level k))) ∧
      (∃ bits, t.meter.shift = some ⟨bits, t.clock⟩ ∧ bits.length = 832 ∧
        (∀ k : MeterId, bits[13 * k.val]? = some (t.meterRec k).out.lamp ∧
          ∀ b : Fin 6,
            bits[13 * k.val + 1 + b.val]? = some ((t.meterRec k).out.dot.testBit (5 - b.val)) ∧
            bits[13 * k.val + 7 + b.val]? = some ((t.meterRec k).out.bar.testBit (5 - b.val)))) ∧
      t = { s with clock := t.clock, meter := t.meter, port := t.port, ctl := t.ctl } ∧
      (∀ k, D k < (s.meterRec k).peak ∧ (s.meterRec k).hold = 0 → exec (.peakHoldEnd k) s = .next t) ∧
      (∀ k, 0 < (s.meterRec k).overLatch ∧ latch k = 0 → exec (.overLatchEnd k) s = .next t) ∧
      (∀ k, dies k → exec (.staleEntry k) s = .next t)) ∧
    (∀ k, ¬ (D k < (s.meterRec k).peak ∧ (s.meterRec k).hold = 0) →
      exec (.peakHoldEnd k) s = .next s) ∧
    (∀ k, ¬ (0 < (s.meterRec k).overLatch ∧ latch k = 0) → exec (.overLatchEnd k) s = .next s) ∧
    (∀ k, ¬ dies k → exec (.staleEntry k) s = .next s)) ∧
  (∀ s : State, s.inReset = false →
    (s.meter.shift = none → exec .meterShiftEnd s = .next s) ∧
    (∀ h, s.meter.shift = some h → exec .meterShiftEnd s = .next { s with
      clock := max s.clock (h.start + 833 * 4)
      meter := { s.meter with driven := some h.bits, shift := none } }))

/-! ## Laws that every step keeps -/

/-- Live parameters stay in their ranges (R189), the ring's capacity and indices where R202 to R204 put them, the taper tables well formed (R42), and every
strip's drive, travels, speed and thresholds in range (R63). -/
def Obligations.QuantitiesStayInRange : Prop :=
  ∀ s t : State,
    s.paramsInRange ∧ s.ctl.ringSafe ∧ s.tapersWellFormed ∧ s.stripsInRange → step s = .next t →
    t.paramsInRange ∧ t.ctl.ringSafe ∧ t.tapersWellFormed ∧ t.stripsInRange

/-- Motion is safe (R64, R66, R72, R138, R139, R142, R144): drive only in MOVING, SETTLING and CALIBRATING, untouched, on an ON rail; no move without valid
calibration; one start queue entry for each QUEUED strip and no other, its rail WAKING or ON; an ON rail idling exactly while its group is inactive. Every
step keeps this. -/
def Obligations.MotionStaysSafe : Prop :=
  ∀ s t : State, s.motionSafe → step s = .next t → t.motionSafe

/-- No channel is shown on two strips, and a strip's isolation, pending channel and conflict-blank stand together as R124 says; no channel stands twice in a
layer (R123). Every step keeps this. -/
def Obligations.ShownChannelsStayDistinct : Prop :=
  ∀ s t : State, s.layersSafe → step s = .next t → t.layersSafe

/-- The queues keep their limits. The injection queue: the numbers of R11, one entry for a key, creation order, the guard count (R19). The conversion queue and
the wait list: R49, R50, R52, R53. Every step keeps this. -/
def Obligations.QueuesKeepTheirLimits : Prop :=
  (∀ s t : State, s.port.limitsKept → step s = .next t → t.port.limitsKept) ∧
  (∀ s t : State, s.conversionsSafe → step s = .next t → t.conversionsSafe)

/-- For every meter channel, floor ≤ D ≤ P ≤ 0 in fine units (R176). Every step keeps this, under setups whose attack lies in its range. -/
def Obligations.MeterLevelsStayInRange : Prop :=
  ∀ s t : State, s.meter.levelsSafe → step s = .next t → t.meter.levelsSafe

/-- The state after reset has all these laws, and is the state that POWER_ON_RESET leaves, released with no touch pressed (R3, R87); its zero strap, clock and
inputs are the model's choice (entries 2, 8, 9). -/
def Obligations.ResetIsSafe : Prop :=
  exec .poresetRelease State.powerOn = .next State.reset ∧
  State.reset.paramsInRange ∧ State.reset.ctl.ringSafe ∧ State.reset.tapersWellFormed ∧
  State.reset.stripsInRange ∧ State.reset.motionSafe ∧ State.reset.layersSafe ∧
  State.reset.port.limitsKept ∧ State.reset.conversionsSafe ∧ State.reset.meter.levelsSafe ∧
  State.reset.progressOwed
end

