-- ==== Sys2Proof/Laws/Bus.lean ====
section
/-!
SUPPORT. What a FETCH's answer, a parity report and a reconfigured ring can do.
-/

namespace Sys2Proof.Machine

open Sys2Proof

variable {s : State} {c : ChanId} {seq : BitVec 8} {addr : Nat} {order : WordOrder} {l : List Member}

/-- All that a FETCH's answer can do: its word is applied at the home it was read from, dropped elsewhere, or the failure is reported (R23, R28). -/
theorem State.fetchAnswered_eq (h : s.port.members = .fetch c seq addr order :: l) (data : Word) (status : RespStatus) :
    s.fetchAnswered data status =
      let t := s.modPort fun p => { p.dropMember with holder := .nobody }
      if status = .error then t.fetchFailed c 1#16
      else if s.home c = some (addr, order) then t.applyFetch c seq (codeHalf order data)
      else t := by
  cases status <;> simp [State.fetchAnswered, h]

/-- The parity count of a report rises, with COUNTERS, only below its limit (R7, R205). -/
theorem State.reportParity_eq (s : State) (a : BitVec 24) :
    let t := s.createEvent .parityError (a.extractLsb' 16 8) (a.extractLsb' 0 16)
    s.reportParity a =
      if t.ctl.parityCount < 255 then
        ((t.modCtl fun c => { c with parityCount := c.parityCount + 1 }).requestStatus .counters).modCauses
          fun c => { c with parityCause := true }
      else t.modCauses fun c => { c with parityCause := true } := by
  unfold State.reportParity
  dsimp only
  split <;> rfl

/-- A ring with no unconsumed event is emptied with PRODUCER alone (R202). -/
theorem State.reconfigureRing_empty (f : Control → Control) (h : s.ctl.eventsCause = false) :
    s.reconfigureRing f =
      ((s.modCtl fun c => { f c with producer := 0, consumer := 0 }).keepEntries fun e => !e.isEvent).requestStatus
        .producer := by
  simp [State.reconfigureRing, h]

end Sys2Proof.Machine
end

