-- ==== Sys2Proof/Laws/State.lean ====
section
/-!
SUPPORT. What each named update of the state does to each field, and what the accessors read after it.
-/

namespace Sys2Proof.Machine

open Sys2Proof

variable (s : State)

/-! ## modStrip -/

@[simp] theorem State.modStrip_pending (i : StripId) (f : Strip → Strip) : (s.modStrip i f).pending = s.pending := rfl
@[simp] theorem State.modStrip_clock (i : StripId) (f : Strip → Strip) : (s.modStrip i f).clock = s.clock := rfl
@[simp] theorem State.modStrip_inReset (i : StripId) (f : Strip → Strip) : (s.modStrip i f).inReset = s.inReset := rfl
@[simp] theorem State.modStrip_strap (i : StripId) (f : Strip → Strip) : (s.modStrip i f).strap = s.strap := rfl
@[simp] theorem State.modStrip_port (i : StripId) (f : Strip → Strip) : (s.modStrip i f).port = s.port := rfl
@[simp] theorem State.modStrip_windows (i : StripId) (f : Strip → Strip) : (s.modStrip i f).windows = s.windows := rfl
@[simp] theorem State.modStrip_chans (i : StripId) (f : Strip → Strip) : (s.modStrip i f).chans = s.chans := rfl
@[simp] theorem State.modStrip_taper (i : StripId) (f : Strip → Strip) : (s.modStrip i f).taper = s.taper := rfl
@[simp] theorem State.modStrip_strips (i : StripId) (f : Strip → Strip) : (s.modStrip i f).strips = s.strips.set i.val (f (s.strip i)) := rfl
@[simp] theorem State.modStrip_layers (i : StripId) (f : Strip → Strip) : (s.modStrip i f).layers = s.layers := rfl
@[simp] theorem State.modStrip_drive (i : StripId) (f : Strip → Strip) : (s.modStrip i f).drive = s.drive := rfl
@[simp] theorem State.modStrip_sliceDue (i : StripId) (f : Strip → Strip) : (s.modStrip i f).sliceDue = s.sliceDue := rfl
@[simp] theorem State.modStrip_meter (i : StripId) (f : Strip → Strip) : (s.modStrip i f).meter = s.meter := rfl
@[simp] theorem State.modStrip_ctl (i : StripId) (f : Strip → Strip) : (s.modStrip i f).ctl = s.ctl := rfl

/-! ## setChan -/

@[simp] theorem State.setChan_pending (c : ChanId) (k : ChanRec) : (s.setChan c k).pending = s.pending := rfl
@[simp] theorem State.setChan_clock (c : ChanId) (k : ChanRec) : (s.setChan c k).clock = s.clock := rfl
@[simp] theorem State.setChan_inReset (c : ChanId) (k : ChanRec) : (s.setChan c k).inReset = s.inReset := rfl
@[simp] theorem State.setChan_strap (c : ChanId) (k : ChanRec) : (s.setChan c k).strap = s.strap := rfl
@[simp] theorem State.setChan_port (c : ChanId) (k : ChanRec) : (s.setChan c k).port = s.port := rfl
@[simp] theorem State.setChan_windows (c : ChanId) (k : ChanRec) : (s.setChan c k).windows = s.windows := rfl
@[simp] theorem State.setChan_chans (c : ChanId) (k : ChanRec) : (s.setChan c k).chans = s.chans.set c.val k := rfl
@[simp] theorem State.setChan_taper (c : ChanId) (k : ChanRec) : (s.setChan c k).taper = s.taper := rfl
@[simp] theorem State.setChan_strips (c : ChanId) (k : ChanRec) : (s.setChan c k).strips = s.strips := rfl
@[simp] theorem State.setChan_layers (c : ChanId) (k : ChanRec) : (s.setChan c k).layers = s.layers := rfl
@[simp] theorem State.setChan_drive (c : ChanId) (k : ChanRec) : (s.setChan c k).drive = s.drive := rfl
@[simp] theorem State.setChan_sliceDue (c : ChanId) (k : ChanRec) : (s.setChan c k).sliceDue = s.sliceDue := rfl
@[simp] theorem State.setChan_meter (c : ChanId) (k : ChanRec) : (s.setChan c k).meter = s.meter := rfl
@[simp] theorem State.setChan_ctl (c : ChanId) (k : ChanRec) : (s.setChan c k).ctl = s.ctl := rfl

/-! ## modPort -/

@[simp] theorem State.modPort_pending (f : ImagePort → ImagePort) : (s.modPort f).pending = s.pending := rfl
@[simp] theorem State.modPort_clock (f : ImagePort → ImagePort) : (s.modPort f).clock = s.clock := rfl
@[simp] theorem State.modPort_inReset (f : ImagePort → ImagePort) : (s.modPort f).inReset = s.inReset := rfl
@[simp] theorem State.modPort_strap (f : ImagePort → ImagePort) : (s.modPort f).strap = s.strap := rfl
@[simp] theorem State.modPort_port (f : ImagePort → ImagePort) : (s.modPort f).port = f s.port := rfl
@[simp] theorem State.modPort_windows (f : ImagePort → ImagePort) : (s.modPort f).windows = s.windows := rfl
@[simp] theorem State.modPort_chans (f : ImagePort → ImagePort) : (s.modPort f).chans = s.chans := rfl
@[simp] theorem State.modPort_taper (f : ImagePort → ImagePort) : (s.modPort f).taper = s.taper := rfl
@[simp] theorem State.modPort_strips (f : ImagePort → ImagePort) : (s.modPort f).strips = s.strips := rfl
@[simp] theorem State.modPort_layers (f : ImagePort → ImagePort) : (s.modPort f).layers = s.layers := rfl
@[simp] theorem State.modPort_drive (f : ImagePort → ImagePort) : (s.modPort f).drive = s.drive := rfl
@[simp] theorem State.modPort_sliceDue (f : ImagePort → ImagePort) : (s.modPort f).sliceDue = s.sliceDue := rfl
@[simp] theorem State.modPort_meter (f : ImagePort → ImagePort) : (s.modPort f).meter = s.meter := rfl
@[simp] theorem State.modPort_ctl (f : ImagePort → ImagePort) : (s.modPort f).ctl = s.ctl := rfl

/-! ## modCtl -/

@[simp] theorem State.modCtl_pending (f : Control → Control) : (s.modCtl f).pending = s.pending := rfl
@[simp] theorem State.modCtl_clock (f : Control → Control) : (s.modCtl f).clock = s.clock := rfl
@[simp] theorem State.modCtl_inReset (f : Control → Control) : (s.modCtl f).inReset = s.inReset := rfl
@[simp] theorem State.modCtl_strap (f : Control → Control) : (s.modCtl f).strap = s.strap := rfl
@[simp] theorem State.modCtl_port (f : Control → Control) : (s.modCtl f).port = s.port := rfl
@[simp] theorem State.modCtl_windows (f : Control → Control) : (s.modCtl f).windows = s.windows := rfl
@[simp] theorem State.modCtl_chans (f : Control → Control) : (s.modCtl f).chans = s.chans := rfl
@[simp] theorem State.modCtl_taper (f : Control → Control) : (s.modCtl f).taper = s.taper := rfl
@[simp] theorem State.modCtl_strips (f : Control → Control) : (s.modCtl f).strips = s.strips := rfl
@[simp] theorem State.modCtl_layers (f : Control → Control) : (s.modCtl f).layers = s.layers := rfl
@[simp] theorem State.modCtl_drive (f : Control → Control) : (s.modCtl f).drive = s.drive := rfl
@[simp] theorem State.modCtl_sliceDue (f : Control → Control) : (s.modCtl f).sliceDue = s.sliceDue := rfl
@[simp] theorem State.modCtl_meter (f : Control → Control) : (s.modCtl f).meter = s.meter := rfl
@[simp] theorem State.modCtl_ctl (f : Control → Control) : (s.modCtl f).ctl = f s.ctl := rfl

/-! ## modTaper -/

@[simp] theorem State.modTaper_pending (f : TaperUnit → TaperUnit) : (s.modTaper f).pending = s.pending := rfl
@[simp] theorem State.modTaper_clock (f : TaperUnit → TaperUnit) : (s.modTaper f).clock = s.clock := rfl
@[simp] theorem State.modTaper_inReset (f : TaperUnit → TaperUnit) : (s.modTaper f).inReset = s.inReset := rfl
@[simp] theorem State.modTaper_strap (f : TaperUnit → TaperUnit) : (s.modTaper f).strap = s.strap := rfl
@[simp] theorem State.modTaper_port (f : TaperUnit → TaperUnit) : (s.modTaper f).port = s.port := rfl
@[simp] theorem State.modTaper_windows (f : TaperUnit → TaperUnit) : (s.modTaper f).windows = s.windows := rfl
@[simp] theorem State.modTaper_chans (f : TaperUnit → TaperUnit) : (s.modTaper f).chans = s.chans := rfl
@[simp] theorem State.modTaper_taper (f : TaperUnit → TaperUnit) : (s.modTaper f).taper = f s.taper := rfl
@[simp] theorem State.modTaper_strips (f : TaperUnit → TaperUnit) : (s.modTaper f).strips = s.strips := rfl
@[simp] theorem State.modTaper_layers (f : TaperUnit → TaperUnit) : (s.modTaper f).layers = s.layers := rfl
@[simp] theorem State.modTaper_drive (f : TaperUnit → TaperUnit) : (s.modTaper f).drive = s.drive := rfl
@[simp] theorem State.modTaper_sliceDue (f : TaperUnit → TaperUnit) : (s.modTaper f).sliceDue = s.sliceDue := rfl
@[simp] theorem State.modTaper_meter (f : TaperUnit → TaperUnit) : (s.modTaper f).meter = s.meter := rfl
@[simp] theorem State.modTaper_ctl (f : TaperUnit → TaperUnit) : (s.modTaper f).ctl = s.ctl := rfl

/-! ## modDrive -/

@[simp] theorem State.modDrive_pending (f : DriveSup → DriveSup) : (s.modDrive f).pending = s.pending := rfl
@[simp] theorem State.modDrive_clock (f : DriveSup → DriveSup) : (s.modDrive f).clock = s.clock := rfl
@[simp] theorem State.modDrive_inReset (f : DriveSup → DriveSup) : (s.modDrive f).inReset = s.inReset := rfl
@[simp] theorem State.modDrive_strap (f : DriveSup → DriveSup) : (s.modDrive f).strap = s.strap := rfl
@[simp] theorem State.modDrive_port (f : DriveSup → DriveSup) : (s.modDrive f).port = s.port := rfl
@[simp] theorem State.modDrive_windows (f : DriveSup → DriveSup) : (s.modDrive f).windows = s.windows := rfl
@[simp] theorem State.modDrive_chans (f : DriveSup → DriveSup) : (s.modDrive f).chans = s.chans := rfl
@[simp] theorem State.modDrive_taper (f : DriveSup → DriveSup) : (s.modDrive f).taper = s.taper := rfl
@[simp] theorem State.modDrive_strips (f : DriveSup → DriveSup) : (s.modDrive f).strips = s.strips := rfl
@[simp] theorem State.modDrive_layers (f : DriveSup → DriveSup) : (s.modDrive f).layers = s.layers := rfl
@[simp] theorem State.modDrive_drive (f : DriveSup → DriveSup) : (s.modDrive f).drive = f s.drive := rfl
@[simp] theorem State.modDrive_sliceDue (f : DriveSup → DriveSup) : (s.modDrive f).sliceDue = s.sliceDue := rfl
@[simp] theorem State.modDrive_meter (f : DriveSup → DriveSup) : (s.modDrive f).meter = s.meter := rfl
@[simp] theorem State.modDrive_ctl (f : DriveSup → DriveSup) : (s.modDrive f).ctl = s.ctl := rfl

/-! ## modMeter -/

@[simp] theorem State.modMeter_pending (f : MeterEngine → MeterEngine) : (s.modMeter f).pending = s.pending := rfl
@[simp] theorem State.modMeter_clock (f : MeterEngine → MeterEngine) : (s.modMeter f).clock = s.clock := rfl
@[simp] theorem State.modMeter_inReset (f : MeterEngine → MeterEngine) : (s.modMeter f).inReset = s.inReset := rfl
@[simp] theorem State.modMeter_strap (f : MeterEngine → MeterEngine) : (s.modMeter f).strap = s.strap := rfl
@[simp] theorem State.modMeter_port (f : MeterEngine → MeterEngine) : (s.modMeter f).port = s.port := rfl
@[simp] theorem State.modMeter_windows (f : MeterEngine → MeterEngine) : (s.modMeter f).windows = s.windows := rfl
@[simp] theorem State.modMeter_chans (f : MeterEngine → MeterEngine) : (s.modMeter f).chans = s.chans := rfl
@[simp] theorem State.modMeter_taper (f : MeterEngine → MeterEngine) : (s.modMeter f).taper = s.taper := rfl
@[simp] theorem State.modMeter_strips (f : MeterEngine → MeterEngine) : (s.modMeter f).strips = s.strips := rfl
@[simp] theorem State.modMeter_layers (f : MeterEngine → MeterEngine) : (s.modMeter f).layers = s.layers := rfl
@[simp] theorem State.modMeter_drive (f : MeterEngine → MeterEngine) : (s.modMeter f).drive = s.drive := rfl
@[simp] theorem State.modMeter_sliceDue (f : MeterEngine → MeterEngine) : (s.modMeter f).sliceDue = s.sliceDue := rfl
@[simp] theorem State.modMeter_meter (f : MeterEngine → MeterEngine) : (s.modMeter f).meter = f s.meter := rfl
@[simp] theorem State.modMeter_ctl (f : MeterEngine → MeterEngine) : (s.modMeter f).ctl = s.ctl := rfl

/-! ## setRail -/

@[simp] theorem State.setRail_pending (g : GroupId) (r : Rail) : (s.setRail g r).pending = s.pending := rfl
@[simp] theorem State.setRail_clock (g : GroupId) (r : Rail) : (s.setRail g r).clock = s.clock := rfl
@[simp] theorem State.setRail_inReset (g : GroupId) (r : Rail) : (s.setRail g r).inReset = s.inReset := rfl
@[simp] theorem State.setRail_strap (g : GroupId) (r : Rail) : (s.setRail g r).strap = s.strap := rfl
@[simp] theorem State.setRail_port (g : GroupId) (r : Rail) : (s.setRail g r).port = s.port := rfl
@[simp] theorem State.setRail_windows (g : GroupId) (r : Rail) : (s.setRail g r).windows = s.windows := rfl
@[simp] theorem State.setRail_chans (g : GroupId) (r : Rail) : (s.setRail g r).chans = s.chans := rfl
@[simp] theorem State.setRail_taper (g : GroupId) (r : Rail) : (s.setRail g r).taper = s.taper := rfl
@[simp] theorem State.setRail_strips (g : GroupId) (r : Rail) : (s.setRail g r).strips = s.strips := rfl
@[simp] theorem State.setRail_layers (g : GroupId) (r : Rail) : (s.setRail g r).layers = s.layers := rfl
@[simp] theorem State.setRail_drive (g : GroupId) (r : Rail) : (s.setRail g r).drive = { s.drive with rails := s.drive.rails.set g.val r } := rfl
@[simp] theorem State.setRail_sliceDue (g : GroupId) (r : Rail) : (s.setRail g r).sliceDue = s.sliceDue := rfl
@[simp] theorem State.setRail_meter (g : GroupId) (r : Rail) : (s.setRail g r).meter = s.meter := rfl
@[simp] theorem State.setRail_ctl (g : GroupId) (r : Rail) : (s.setRail g r).ctl = s.ctl := rfl

/-! ## reach -/

@[simp] theorem State.reach_pending (n : Nat) : (s.reach n).pending = s.pending := rfl
@[simp] theorem State.reach_clock (n : Nat) : (s.reach n).clock = max s.clock n := rfl
@[simp] theorem State.reach_inReset (n : Nat) : (s.reach n).inReset = s.inReset := rfl
@[simp] theorem State.reach_strap (n : Nat) : (s.reach n).strap = s.strap := rfl
@[simp] theorem State.reach_port (n : Nat) : (s.reach n).port = s.port := rfl
@[simp] theorem State.reach_windows (n : Nat) : (s.reach n).windows = s.windows := rfl
@[simp] theorem State.reach_chans (n : Nat) : (s.reach n).chans = s.chans := rfl
@[simp] theorem State.reach_taper (n : Nat) : (s.reach n).taper = s.taper := rfl
@[simp] theorem State.reach_strips (n : Nat) : (s.reach n).strips = s.strips := rfl
@[simp] theorem State.reach_layers (n : Nat) : (s.reach n).layers = s.layers := rfl
@[simp] theorem State.reach_drive (n : Nat) : (s.reach n).drive = s.drive := rfl
@[simp] theorem State.reach_sliceDue (n : Nat) : (s.reach n).sliceDue = s.sliceDue := rfl
@[simp] theorem State.reach_meter (n : Nat) : (s.reach n).meter = s.meter := rfl
@[simp] theorem State.reach_ctl (n : Nat) : (s.reach n).ctl = s.ctl := rfl

/-! ## Accessors -/

@[simp] theorem State.strip_modStrip_self (i : StripId) (f : Strip → Strip) :
    (s.modStrip i f).strip i = f (s.strip i) := by simp [State.strip]

@[simp] theorem State.strip_modStrip_ne {i j : StripId} (h : j ≠ i) (f : Strip → Strip) :
    (s.modStrip i f).strip j = s.strip j := by
  have n : i.val ≠ j.val := fun e => h (Fin.ext e.symm)
  simp [State.strip, Vector.getElem_set_ne, n]

theorem State.strip_modStrip (i j : StripId) (f : Strip → Strip) :
    (s.modStrip i f).strip j = if j = i then f (s.strip i) else s.strip j := by
  split
  · next e => subst e; simp
  · next e => simp [e]

@[simp] theorem State.chan_setChan_self (c : ChanId) (k : ChanRec) : (s.setChan c k).chan c = k := by
  simp [State.chan]

@[simp] theorem State.chan_setChan_ne {c d : ChanId} (h : d ≠ c) (k : ChanRec) :
    (s.setChan c k).chan d = s.chan d := by
  have n : c.val ≠ d.val := fun e => h (Fin.ext e.symm)
  simp [State.chan, Vector.getElem_set_ne, n]

@[simp] theorem State.rail_setRail_self (g : GroupId) (r : Rail) : (s.setRail g r).rail g = r := by
  simp [State.rail]

@[simp] theorem State.rail_setRail_ne {g h : GroupId} (n : h ≠ g) (r : Rail) :
    (s.setRail g r).rail h = s.rail h := by
  have m : g.val ≠ h.val := fun e => n (Fin.ext e.symm)
  simp [State.rail, Vector.getElem_set_ne, m]

/-- A strip's record depends on the strips alone. -/
theorem State.strip_congr {s t : State} (h : t.strips = s.strips) (i : StripId) : t.strip i = s.strip i := by
  simp [State.strip, h]

/-- A channel's record depends on the channels alone. -/
theorem State.chan_congr {s t : State} (h : t.chans = s.chans) (c : ChanId) : t.chan c = s.chan c := by
  simp [State.chan, h]

/-- A channel's home depends on the windows alone. -/
theorem State.home_congr {s t : State} (h : t.windows = s.windows) (c : ChanId) : t.home c = s.home c := by
  simp [State.home, h]

/-- A parameter depends on the control unit's parameters alone. -/
theorem State.param_congr {s t : State} (h : t.ctl.params = s.ctl.params) (p : Param) :
    t.param p = s.param p := by
  simp [State.param, h]

@[simp] theorem State.strip_setChan (c : ChanId) (k : ChanRec) (i : StripId) :
    (s.setChan c k).strip i = s.strip i := rfl
@[simp] theorem State.strip_modPort (f : ImagePort → ImagePort) (i : StripId) :
    (s.modPort f).strip i = s.strip i := rfl
@[simp] theorem State.strip_modCtl (f : Control → Control) (i : StripId) :
    (s.modCtl f).strip i = s.strip i := rfl
@[simp] theorem State.strip_modTaper (f : TaperUnit → TaperUnit) (i : StripId) :
    (s.modTaper f).strip i = s.strip i := rfl
@[simp] theorem State.strip_modDrive (f : DriveSup → DriveSup) (i : StripId) :
    (s.modDrive f).strip i = s.strip i := rfl
@[simp] theorem State.strip_modMeter (f : MeterEngine → MeterEngine) (i : StripId) :
    (s.modMeter f).strip i = s.strip i := rfl
@[simp] theorem State.strip_setRail (g : GroupId) (r : Rail) (i : StripId) :
    (s.setRail g r).strip i = s.strip i := rfl
@[simp] theorem State.strip_reach (n : Nat) (i : StripId) : (s.reach n).strip i = s.strip i := rfl

/-- A step of the running part, out of reset. -/
theorem live_running {f : State → State} {s : State} (h : s.inReset = false) : live f s = .next (f s) := by
  simp [live, h]

/-- A step of the running part, in reset. -/
theorem live_inReset {f : State → State} {s : State} (h : s.inReset = true) : live f s = .next s := by
  simp [live, h]

end Sys2Proof.Machine
end

