-- ==== Sys2Proof/Laws/Ops.lean ====
section
/-!
SUPPORT. What the shared operations on the injection queue and the control unit leave unchanged.
-/

namespace Sys2Proof.Machine

open Sys2Proof

variable (s : State)

/-! ## pushEntry -/

@[simp] theorem State.pushEntry_pending (addr : Nat) (body : InjBody) : (s.pushEntry addr body).pending = s.pending := by simp [State.pushEntry]
@[simp] theorem State.pushEntry_clock (addr : Nat) (body : InjBody) : (s.pushEntry addr body).clock = s.clock := by simp [State.pushEntry]
@[simp] theorem State.pushEntry_inReset (addr : Nat) (body : InjBody) : (s.pushEntry addr body).inReset = s.inReset := by simp [State.pushEntry]
@[simp] theorem State.pushEntry_strap (addr : Nat) (body : InjBody) : (s.pushEntry addr body).strap = s.strap := by simp [State.pushEntry]
@[simp] theorem State.pushEntry_windows (addr : Nat) (body : InjBody) : (s.pushEntry addr body).windows = s.windows := by simp [State.pushEntry]
@[simp] theorem State.pushEntry_chans (addr : Nat) (body : InjBody) : (s.pushEntry addr body).chans = s.chans := by simp [State.pushEntry]
@[simp] theorem State.pushEntry_taper (addr : Nat) (body : InjBody) : (s.pushEntry addr body).taper = s.taper := by simp [State.pushEntry]
@[simp] theorem State.pushEntry_strips (addr : Nat) (body : InjBody) : (s.pushEntry addr body).strips = s.strips := by simp [State.pushEntry]
@[simp] theorem State.pushEntry_layers (addr : Nat) (body : InjBody) : (s.pushEntry addr body).layers = s.layers := by simp [State.pushEntry]
@[simp] theorem State.pushEntry_drive (addr : Nat) (body : InjBody) : (s.pushEntry addr body).drive = s.drive := by simp [State.pushEntry]
@[simp] theorem State.pushEntry_sliceDue (addr : Nat) (body : InjBody) : (s.pushEntry addr body).sliceDue = s.sliceDue := by simp [State.pushEntry]
@[simp] theorem State.pushEntry_meter (addr : Nat) (body : InjBody) : (s.pushEntry addr body).meter = s.meter := by simp [State.pushEntry]
@[simp] theorem State.pushEntry_ctl (addr : Nat) (body : InjBody) : (s.pushEntry addr body).ctl = s.ctl := by simp [State.pushEntry]
@[simp] theorem State.pushEntry_port_req (addr : Nat) (body : InjBody) : (s.pushEntry addr body).port.req = s.port.req := by simp [State.pushEntry]
@[simp] theorem State.pushEntry_port_heldBeat (addr : Nat) (body : InjBody) : (s.pushEntry addr body).port.heldBeat = s.port.heldBeat := by simp [State.pushEntry]
@[simp] theorem State.pushEntry_port_owed (addr : Nat) (body : InjBody) : (s.pushEntry addr body).port.owed = s.port.owed := by simp [State.pushEntry]
@[simp] theorem State.pushEntry_port_holder (addr : Nat) (body : InjBody) : (s.pushEntry addr body).port.holder = s.port.holder := by simp [State.pushEntry]
@[simp] theorem State.pushEntry_port_members (addr : Nat) (body : InjBody) : (s.pushEntry addr body).port.members = s.port.members := by simp [State.pushEntry]
@[simp] theorem State.pushEntry_port_alertEnd (addr : Nat) (body : InjBody) : (s.pushEntry addr body).port.alertEnd = s.port.alertEnd := by simp [State.pushEntry]
@[simp] theorem State.pushEntry_port_toProcessor (addr : Nat) (body : InjBody) : (s.pushEntry addr body).port.toProcessor = s.port.toProcessor := by simp [State.pushEntry]
@[simp] theorem State.pushEntry_port_toMemory (addr : Nat) (body : InjBody) : (s.pushEntry addr body).port.toMemory = s.port.toMemory := by simp [State.pushEntry]
@[simp] theorem State.pushEntry_strip (addr : Nat) (body : InjBody) (j : StripId) : (s.pushEntry addr body).strip j = s.strip j :=
  State.strip_congr (State.pushEntry_strips s addr body) j
@[simp] theorem State.pushEntry_chan (addr : Nat) (body : InjBody) (d : ChanId) : (s.pushEntry addr body).chan d = s.chan d :=
  State.chan_congr (State.pushEntry_chans s addr body) d
@[simp] theorem State.pushEntry_home (addr : Nat) (body : InjBody) (d : ChanId) : (s.pushEntry addr body).home d = s.home d :=
  State.home_congr (State.pushEntry_windows s addr body) d
@[simp] theorem State.pushEntry_param (addr : Nat) (body : InjBody) (p : Param) : (s.pushEntry addr body).param p = s.param p := by simp [State.param]

/-! ## pushStatus -/

@[simp] theorem State.pushStatus_pending (w : StatusWord) : (s.pushStatus w).pending = s.pending := by simp [State.pushStatus]
@[simp] theorem State.pushStatus_clock (w : StatusWord) : (s.pushStatus w).clock = s.clock := by simp [State.pushStatus]
@[simp] theorem State.pushStatus_inReset (w : StatusWord) : (s.pushStatus w).inReset = s.inReset := by simp [State.pushStatus]
@[simp] theorem State.pushStatus_strap (w : StatusWord) : (s.pushStatus w).strap = s.strap := by simp [State.pushStatus]
@[simp] theorem State.pushStatus_windows (w : StatusWord) : (s.pushStatus w).windows = s.windows := by simp [State.pushStatus]
@[simp] theorem State.pushStatus_chans (w : StatusWord) : (s.pushStatus w).chans = s.chans := by simp [State.pushStatus]
@[simp] theorem State.pushStatus_taper (w : StatusWord) : (s.pushStatus w).taper = s.taper := by simp [State.pushStatus]
@[simp] theorem State.pushStatus_strips (w : StatusWord) : (s.pushStatus w).strips = s.strips := by simp [State.pushStatus]
@[simp] theorem State.pushStatus_layers (w : StatusWord) : (s.pushStatus w).layers = s.layers := by simp [State.pushStatus]
@[simp] theorem State.pushStatus_drive (w : StatusWord) : (s.pushStatus w).drive = s.drive := by simp [State.pushStatus]
@[simp] theorem State.pushStatus_sliceDue (w : StatusWord) : (s.pushStatus w).sliceDue = s.sliceDue := by simp [State.pushStatus]
@[simp] theorem State.pushStatus_meter (w : StatusWord) : (s.pushStatus w).meter = s.meter := by simp [State.pushStatus]
@[simp] theorem State.pushStatus_ctl (w : StatusWord) : (s.pushStatus w).ctl = s.ctl := by simp [State.pushStatus]
@[simp] theorem State.pushStatus_port_req (w : StatusWord) : (s.pushStatus w).port.req = s.port.req := by simp [State.pushStatus]
@[simp] theorem State.pushStatus_port_heldBeat (w : StatusWord) : (s.pushStatus w).port.heldBeat = s.port.heldBeat := by simp [State.pushStatus]
@[simp] theorem State.pushStatus_port_owed (w : StatusWord) : (s.pushStatus w).port.owed = s.port.owed := by simp [State.pushStatus]
@[simp] theorem State.pushStatus_port_holder (w : StatusWord) : (s.pushStatus w).port.holder = s.port.holder := by simp [State.pushStatus]
@[simp] theorem State.pushStatus_port_members (w : StatusWord) : (s.pushStatus w).port.members = s.port.members := by simp [State.pushStatus]
@[simp] theorem State.pushStatus_port_alertEnd (w : StatusWord) : (s.pushStatus w).port.alertEnd = s.port.alertEnd := by simp [State.pushStatus]
@[simp] theorem State.pushStatus_port_toProcessor (w : StatusWord) : (s.pushStatus w).port.toProcessor = s.port.toProcessor := by simp [State.pushStatus]
@[simp] theorem State.pushStatus_port_toMemory (w : StatusWord) : (s.pushStatus w).port.toMemory = s.port.toMemory := by simp [State.pushStatus]
@[simp] theorem State.pushStatus_strip (w : StatusWord) (j : StripId) : (s.pushStatus w).strip j = s.strip j :=
  State.strip_congr (State.pushStatus_strips s w) j
@[simp] theorem State.pushStatus_chan (w : StatusWord) (d : ChanId) : (s.pushStatus w).chan d = s.chan d :=
  State.chan_congr (State.pushStatus_chans s w) d
@[simp] theorem State.pushStatus_home (w : StatusWord) (d : ChanId) : (s.pushStatus w).home d = s.home d :=
  State.home_congr (State.pushStatus_windows s w) d
@[simp] theorem State.pushStatus_param (w : StatusWord) (p : Param) : (s.pushStatus w).param p = s.param p := by simp [State.param]

/-! ## putResult -/

@[simp] theorem State.putResult_pending (tag : BitVec 8) (code : ResultCode) (v : BitVec 16) : (s.putResult tag code v).pending = s.pending := by
  unfold State.putResult; split <;> simp
@[simp] theorem State.putResult_clock (tag : BitVec 8) (code : ResultCode) (v : BitVec 16) : (s.putResult tag code v).clock = s.clock := by
  unfold State.putResult; split <;> simp
@[simp] theorem State.putResult_inReset (tag : BitVec 8) (code : ResultCode) (v : BitVec 16) : (s.putResult tag code v).inReset = s.inReset := by
  unfold State.putResult; split <;> simp
@[simp] theorem State.putResult_strap (tag : BitVec 8) (code : ResultCode) (v : BitVec 16) : (s.putResult tag code v).strap = s.strap := by
  unfold State.putResult; split <;> simp
@[simp] theorem State.putResult_windows (tag : BitVec 8) (code : ResultCode) (v : BitVec 16) : (s.putResult tag code v).windows = s.windows := by
  unfold State.putResult; split <;> simp
@[simp] theorem State.putResult_chans (tag : BitVec 8) (code : ResultCode) (v : BitVec 16) : (s.putResult tag code v).chans = s.chans := by
  unfold State.putResult; split <;> simp
@[simp] theorem State.putResult_taper (tag : BitVec 8) (code : ResultCode) (v : BitVec 16) : (s.putResult tag code v).taper = s.taper := by
  unfold State.putResult; split <;> simp
@[simp] theorem State.putResult_strips (tag : BitVec 8) (code : ResultCode) (v : BitVec 16) : (s.putResult tag code v).strips = s.strips := by
  unfold State.putResult; split <;> simp
@[simp] theorem State.putResult_layers (tag : BitVec 8) (code : ResultCode) (v : BitVec 16) : (s.putResult tag code v).layers = s.layers := by
  unfold State.putResult; split <;> simp
@[simp] theorem State.putResult_drive (tag : BitVec 8) (code : ResultCode) (v : BitVec 16) : (s.putResult tag code v).drive = s.drive := by
  unfold State.putResult; split <;> simp
@[simp] theorem State.putResult_sliceDue (tag : BitVec 8) (code : ResultCode) (v : BitVec 16) : (s.putResult tag code v).sliceDue = s.sliceDue := by
  unfold State.putResult; split <;> simp
@[simp] theorem State.putResult_meter (tag : BitVec 8) (code : ResultCode) (v : BitVec 16) : (s.putResult tag code v).meter = s.meter := by
  unfold State.putResult; split <;> simp
@[simp] theorem State.putResult_port_req (tag : BitVec 8) (code : ResultCode) (v : BitVec 16) : (s.putResult tag code v).port.req = s.port.req := by
  unfold State.putResult; split <;> simp
@[simp] theorem State.putResult_port_heldBeat (tag : BitVec 8) (code : ResultCode) (v : BitVec 16) : (s.putResult tag code v).port.heldBeat = s.port.heldBeat := by
  unfold State.putResult; split <;> simp
@[simp] theorem State.putResult_port_owed (tag : BitVec 8) (code : ResultCode) (v : BitVec 16) : (s.putResult tag code v).port.owed = s.port.owed := by
  unfold State.putResult; split <;> simp
@[simp] theorem State.putResult_port_holder (tag : BitVec 8) (code : ResultCode) (v : BitVec 16) : (s.putResult tag code v).port.holder = s.port.holder := by
  unfold State.putResult; split <;> simp
@[simp] theorem State.putResult_port_members (tag : BitVec 8) (code : ResultCode) (v : BitVec 16) : (s.putResult tag code v).port.members = s.port.members := by
  unfold State.putResult; split <;> simp
@[simp] theorem State.putResult_port_alertEnd (tag : BitVec 8) (code : ResultCode) (v : BitVec 16) : (s.putResult tag code v).port.alertEnd = s.port.alertEnd := by
  unfold State.putResult; split <;> simp
@[simp] theorem State.putResult_port_toProcessor (tag : BitVec 8) (code : ResultCode) (v : BitVec 16) : (s.putResult tag code v).port.toProcessor = s.port.toProcessor := by
  unfold State.putResult; split <;> simp
@[simp] theorem State.putResult_port_toMemory (tag : BitVec 8) (code : ResultCode) (v : BitVec 16) : (s.putResult tag code v).port.toMemory = s.port.toMemory := by
  unfold State.putResult; split <;> simp
@[simp] theorem State.putResult_ctl_quiet (tag : BitVec 8) (code : ResultCode) (v : BitVec 16) : (s.putResult tag code v).ctl.quiet = s.ctl.quiet := by
  unfold State.putResult; split <;> simp
@[simp] theorem State.putResult_ctl_ringBase (tag : BitVec 8) (code : ResultCode) (v : BitVec 16) : (s.putResult tag code v).ctl.ringBase = s.ctl.ringBase := by
  unfold State.putResult; split <;> simp
@[simp] theorem State.putResult_ctl_ringCapacity (tag : BitVec 8) (code : ResultCode) (v : BitVec 16) : (s.putResult tag code v).ctl.ringCapacity = s.ctl.ringCapacity := by
  unfold State.putResult; split <;> simp
@[simp] theorem State.putResult_ctl_consumer (tag : BitVec 8) (code : ResultCode) (v : BitVec 16) : (s.putResult tag code v).ctl.consumer = s.ctl.consumer := by
  unfold State.putResult; split <;> simp
@[simp] theorem State.putResult_ctl_parityCount (tag : BitVec 8) (code : ResultCode) (v : BitVec 16) : (s.putResult tag code v).ctl.parityCount = s.ctl.parityCount := by
  unfold State.putResult; split <;> simp
@[simp] theorem State.putResult_ctl_time (tag : BitVec 8) (code : ResultCode) (v : BitVec 16) : (s.putResult tag code v).ctl.time = s.ctl.time := by
  unfold State.putResult; split <;> simp
@[simp] theorem State.putResult_ctl_nextTick (tag : BitVec 8) (code : ResultCode) (v : BitVec 16) : (s.putResult tag code v).ctl.nextTick = s.ctl.nextTick := by
  unfold State.putResult; split <;> simp
@[simp] theorem State.putResult_ctl_params (tag : BitVec 8) (code : ResultCode) (v : BitVec 16) : (s.putResult tag code v).ctl.params = s.ctl.params := by
  unfold State.putResult; split <;> simp
@[simp] theorem State.putResult_strip (tag : BitVec 8) (code : ResultCode) (v : BitVec 16) (j : StripId) : (s.putResult tag code v).strip j = s.strip j :=
  State.strip_congr (State.putResult_strips s tag code v) j
@[simp] theorem State.putResult_chan (tag : BitVec 8) (code : ResultCode) (v : BitVec 16) (d : ChanId) : (s.putResult tag code v).chan d = s.chan d :=
  State.chan_congr (State.putResult_chans s tag code v) d
@[simp] theorem State.putResult_home (tag : BitVec 8) (code : ResultCode) (v : BitVec 16) (d : ChanId) : (s.putResult tag code v).home d = s.home d :=
  State.home_congr (State.putResult_windows s tag code v) d
@[simp] theorem State.putResult_param (tag : BitVec 8) (code : ResultCode) (v : BitVec 16) (p : Param) : (s.putResult tag code v).param p = s.param p := by simp [State.param]

/-! ## syncCheck -/

@[simp] theorem State.syncCheck_pending : s.syncCheck.pending = s.pending := by
  unfold State.syncCheck; (repeat' split) <;> simp
@[simp] theorem State.syncCheck_clock : s.syncCheck.clock = s.clock := by
  unfold State.syncCheck; (repeat' split) <;> simp
@[simp] theorem State.syncCheck_inReset : s.syncCheck.inReset = s.inReset := by
  unfold State.syncCheck; (repeat' split) <;> simp
@[simp] theorem State.syncCheck_strap : s.syncCheck.strap = s.strap := by
  unfold State.syncCheck; (repeat' split) <;> simp
@[simp] theorem State.syncCheck_windows : s.syncCheck.windows = s.windows := by
  unfold State.syncCheck; (repeat' split) <;> simp
@[simp] theorem State.syncCheck_chans : s.syncCheck.chans = s.chans := by
  unfold State.syncCheck; (repeat' split) <;> simp
@[simp] theorem State.syncCheck_taper : s.syncCheck.taper = s.taper := by
  unfold State.syncCheck; (repeat' split) <;> simp
@[simp] theorem State.syncCheck_strips : s.syncCheck.strips = s.strips := by
  unfold State.syncCheck; (repeat' split) <;> simp
@[simp] theorem State.syncCheck_layers : s.syncCheck.layers = s.layers := by
  unfold State.syncCheck; (repeat' split) <;> simp
@[simp] theorem State.syncCheck_drive : s.syncCheck.drive = s.drive := by
  unfold State.syncCheck; (repeat' split) <;> simp
@[simp] theorem State.syncCheck_sliceDue : s.syncCheck.sliceDue = s.sliceDue := by
  unfold State.syncCheck; (repeat' split) <;> simp
@[simp] theorem State.syncCheck_meter : s.syncCheck.meter = s.meter := by
  unfold State.syncCheck; (repeat' split) <;> simp
@[simp] theorem State.syncCheck_port_req : s.syncCheck.port.req = s.port.req := by
  unfold State.syncCheck; (repeat' split) <;> simp
@[simp] theorem State.syncCheck_port_heldBeat : s.syncCheck.port.heldBeat = s.port.heldBeat := by
  unfold State.syncCheck; (repeat' split) <;> simp
@[simp] theorem State.syncCheck_port_owed : s.syncCheck.port.owed = s.port.owed := by
  unfold State.syncCheck; (repeat' split) <;> simp
@[simp] theorem State.syncCheck_port_holder : s.syncCheck.port.holder = s.port.holder := by
  unfold State.syncCheck; (repeat' split) <;> simp
@[simp] theorem State.syncCheck_port_members : s.syncCheck.port.members = s.port.members := by
  unfold State.syncCheck; (repeat' split) <;> simp
@[simp] theorem State.syncCheck_port_alertEnd : s.syncCheck.port.alertEnd = s.port.alertEnd := by
  unfold State.syncCheck; (repeat' split) <;> simp
@[simp] theorem State.syncCheck_port_toProcessor : s.syncCheck.port.toProcessor = s.port.toProcessor := by
  unfold State.syncCheck; (repeat' split) <;> simp
@[simp] theorem State.syncCheck_port_toMemory : s.syncCheck.port.toMemory = s.port.toMemory := by
  unfold State.syncCheck; (repeat' split) <;> simp
@[simp] theorem State.syncCheck_ctl_quiet : s.syncCheck.ctl.quiet = s.ctl.quiet := by
  unfold State.syncCheck; (repeat' split) <;> simp
@[simp] theorem State.syncCheck_ctl_ringBase : s.syncCheck.ctl.ringBase = s.ctl.ringBase := by
  unfold State.syncCheck; (repeat' split) <;> simp
@[simp] theorem State.syncCheck_ctl_ringCapacity : s.syncCheck.ctl.ringCapacity = s.ctl.ringCapacity := by
  unfold State.syncCheck; (repeat' split) <;> simp
@[simp] theorem State.syncCheck_ctl_consumer : s.syncCheck.ctl.consumer = s.ctl.consumer := by
  unfold State.syncCheck; (repeat' split) <;> simp
@[simp] theorem State.syncCheck_ctl_parityCount : s.syncCheck.ctl.parityCount = s.ctl.parityCount := by
  unfold State.syncCheck; (repeat' split) <;> simp
@[simp] theorem State.syncCheck_ctl_time : s.syncCheck.ctl.time = s.ctl.time := by
  unfold State.syncCheck; (repeat' split) <;> simp
@[simp] theorem State.syncCheck_ctl_nextTick : s.syncCheck.ctl.nextTick = s.ctl.nextTick := by
  unfold State.syncCheck; (repeat' split) <;> simp
@[simp] theorem State.syncCheck_ctl_params : s.syncCheck.ctl.params = s.ctl.params := by
  unfold State.syncCheck; (repeat' split) <;> simp
@[simp] theorem State.syncCheck_strip (j : StripId) : s.syncCheck.strip j = s.strip j :=
  State.strip_congr (State.syncCheck_strips s ) j
@[simp] theorem State.syncCheck_chan (d : ChanId) : s.syncCheck.chan d = s.chan d :=
  State.chan_congr (State.syncCheck_chans s ) d
@[simp] theorem State.syncCheck_home (d : ChanId) : s.syncCheck.home d = s.home d :=
  State.home_congr (State.syncCheck_windows s ) d
@[simp] theorem State.syncCheck_param (p : Param) : s.syncCheck.param p = s.param p := by simp [State.param]

/-! ## requestStatus -/

@[simp] theorem State.requestStatus_pending (w : StatusWord) : (s.requestStatus w).pending = s.pending := by simp [State.requestStatus]
@[simp] theorem State.requestStatus_clock (w : StatusWord) : (s.requestStatus w).clock = s.clock := by simp [State.requestStatus]
@[simp] theorem State.requestStatus_inReset (w : StatusWord) : (s.requestStatus w).inReset = s.inReset := by simp [State.requestStatus]
@[simp] theorem State.requestStatus_strap (w : StatusWord) : (s.requestStatus w).strap = s.strap := by simp [State.requestStatus]
@[simp] theorem State.requestStatus_windows (w : StatusWord) : (s.requestStatus w).windows = s.windows := by simp [State.requestStatus]
@[simp] theorem State.requestStatus_chans (w : StatusWord) : (s.requestStatus w).chans = s.chans := by simp [State.requestStatus]
@[simp] theorem State.requestStatus_taper (w : StatusWord) : (s.requestStatus w).taper = s.taper := by simp [State.requestStatus]
@[simp] theorem State.requestStatus_strips (w : StatusWord) : (s.requestStatus w).strips = s.strips := by simp [State.requestStatus]
@[simp] theorem State.requestStatus_layers (w : StatusWord) : (s.requestStatus w).layers = s.layers := by simp [State.requestStatus]
@[simp] theorem State.requestStatus_drive (w : StatusWord) : (s.requestStatus w).drive = s.drive := by simp [State.requestStatus]
@[simp] theorem State.requestStatus_sliceDue (w : StatusWord) : (s.requestStatus w).sliceDue = s.sliceDue := by simp [State.requestStatus]
@[simp] theorem State.requestStatus_meter (w : StatusWord) : (s.requestStatus w).meter = s.meter := by simp [State.requestStatus]
@[simp] theorem State.requestStatus_port_req (w : StatusWord) : (s.requestStatus w).port.req = s.port.req := by simp [State.requestStatus]
@[simp] theorem State.requestStatus_port_heldBeat (w : StatusWord) : (s.requestStatus w).port.heldBeat = s.port.heldBeat := by simp [State.requestStatus]
@[simp] theorem State.requestStatus_port_owed (w : StatusWord) : (s.requestStatus w).port.owed = s.port.owed := by simp [State.requestStatus]
@[simp] theorem State.requestStatus_port_holder (w : StatusWord) : (s.requestStatus w).port.holder = s.port.holder := by simp [State.requestStatus]
@[simp] theorem State.requestStatus_port_members (w : StatusWord) : (s.requestStatus w).port.members = s.port.members := by simp [State.requestStatus]
@[simp] theorem State.requestStatus_port_alertEnd (w : StatusWord) : (s.requestStatus w).port.alertEnd = s.port.alertEnd := by simp [State.requestStatus]
@[simp] theorem State.requestStatus_port_toProcessor (w : StatusWord) : (s.requestStatus w).port.toProcessor = s.port.toProcessor := by simp [State.requestStatus]
@[simp] theorem State.requestStatus_port_toMemory (w : StatusWord) : (s.requestStatus w).port.toMemory = s.port.toMemory := by simp [State.requestStatus]
@[simp] theorem State.requestStatus_ctl_quiet (w : StatusWord) : (s.requestStatus w).ctl.quiet = s.ctl.quiet := by simp [State.requestStatus]
@[simp] theorem State.requestStatus_ctl_ringBase (w : StatusWord) : (s.requestStatus w).ctl.ringBase = s.ctl.ringBase := by simp [State.requestStatus]
@[simp] theorem State.requestStatus_ctl_ringCapacity (w : StatusWord) : (s.requestStatus w).ctl.ringCapacity = s.ctl.ringCapacity := by simp [State.requestStatus]
@[simp] theorem State.requestStatus_ctl_consumer (w : StatusWord) : (s.requestStatus w).ctl.consumer = s.ctl.consumer := by simp [State.requestStatus]
@[simp] theorem State.requestStatus_ctl_parityCount (w : StatusWord) : (s.requestStatus w).ctl.parityCount = s.ctl.parityCount := by simp [State.requestStatus]
@[simp] theorem State.requestStatus_ctl_time (w : StatusWord) : (s.requestStatus w).ctl.time = s.ctl.time := by simp [State.requestStatus]
@[simp] theorem State.requestStatus_ctl_nextTick (w : StatusWord) : (s.requestStatus w).ctl.nextTick = s.ctl.nextTick := by simp [State.requestStatus]
@[simp] theorem State.requestStatus_ctl_params (w : StatusWord) : (s.requestStatus w).ctl.params = s.ctl.params := by simp [State.requestStatus]
@[simp] theorem State.requestStatus_strip (w : StatusWord) (j : StripId) : (s.requestStatus w).strip j = s.strip j :=
  State.strip_congr (State.requestStatus_strips s w) j
@[simp] theorem State.requestStatus_chan (w : StatusWord) (d : ChanId) : (s.requestStatus w).chan d = s.chan d :=
  State.chan_congr (State.requestStatus_chans s w) d
@[simp] theorem State.requestStatus_home (w : StatusWord) (d : ChanId) : (s.requestStatus w).home d = s.home d :=
  State.home_congr (State.requestStatus_windows s w) d
@[simp] theorem State.requestStatus_param (w : StatusWord) (p : Param) : (s.requestStatus w).param p = s.param p := by simp [State.param]

/-! ## writeResult -/

@[simp] theorem State.writeResult_pending (tag : BitVec 8) (code : ResultCode) (v : BitVec 16) : (s.writeResult tag code v).pending = s.pending := by simp [State.writeResult]
@[simp] theorem State.writeResult_clock (tag : BitVec 8) (code : ResultCode) (v : BitVec 16) : (s.writeResult tag code v).clock = s.clock := by simp [State.writeResult]
@[simp] theorem State.writeResult_inReset (tag : BitVec 8) (code : ResultCode) (v : BitVec 16) : (s.writeResult tag code v).inReset = s.inReset := by simp [State.writeResult]
@[simp] theorem State.writeResult_strap (tag : BitVec 8) (code : ResultCode) (v : BitVec 16) : (s.writeResult tag code v).strap = s.strap := by simp [State.writeResult]
@[simp] theorem State.writeResult_windows (tag : BitVec 8) (code : ResultCode) (v : BitVec 16) : (s.writeResult tag code v).windows = s.windows := by simp [State.writeResult]
@[simp] theorem State.writeResult_chans (tag : BitVec 8) (code : ResultCode) (v : BitVec 16) : (s.writeResult tag code v).chans = s.chans := by simp [State.writeResult]
@[simp] theorem State.writeResult_taper (tag : BitVec 8) (code : ResultCode) (v : BitVec 16) : (s.writeResult tag code v).taper = s.taper := by simp [State.writeResult]
@[simp] theorem State.writeResult_strips (tag : BitVec 8) (code : ResultCode) (v : BitVec 16) : (s.writeResult tag code v).strips = s.strips := by simp [State.writeResult]
@[simp] theorem State.writeResult_layers (tag : BitVec 8) (code : ResultCode) (v : BitVec 16) : (s.writeResult tag code v).layers = s.layers := by simp [State.writeResult]
@[simp] theorem State.writeResult_drive (tag : BitVec 8) (code : ResultCode) (v : BitVec 16) : (s.writeResult tag code v).drive = s.drive := by simp [State.writeResult]
@[simp] theorem State.writeResult_sliceDue (tag : BitVec 8) (code : ResultCode) (v : BitVec 16) : (s.writeResult tag code v).sliceDue = s.sliceDue := by simp [State.writeResult]
@[simp] theorem State.writeResult_meter (tag : BitVec 8) (code : ResultCode) (v : BitVec 16) : (s.writeResult tag code v).meter = s.meter := by simp [State.writeResult]
@[simp] theorem State.writeResult_port_req (tag : BitVec 8) (code : ResultCode) (v : BitVec 16) : (s.writeResult tag code v).port.req = s.port.req := by simp [State.writeResult]
@[simp] theorem State.writeResult_port_heldBeat (tag : BitVec 8) (code : ResultCode) (v : BitVec 16) : (s.writeResult tag code v).port.heldBeat = s.port.heldBeat := by simp [State.writeResult]
@[simp] theorem State.writeResult_port_owed (tag : BitVec 8) (code : ResultCode) (v : BitVec 16) : (s.writeResult tag code v).port.owed = s.port.owed := by simp [State.writeResult]
@[simp] theorem State.writeResult_port_holder (tag : BitVec 8) (code : ResultCode) (v : BitVec 16) : (s.writeResult tag code v).port.holder = s.port.holder := by simp [State.writeResult]
@[simp] theorem State.writeResult_port_members (tag : BitVec 8) (code : ResultCode) (v : BitVec 16) : (s.writeResult tag code v).port.members = s.port.members := by simp [State.writeResult]
@[simp] theorem State.writeResult_port_alertEnd (tag : BitVec 8) (code : ResultCode) (v : BitVec 16) : (s.writeResult tag code v).port.alertEnd = s.port.alertEnd := by simp [State.writeResult]
@[simp] theorem State.writeResult_port_toProcessor (tag : BitVec 8) (code : ResultCode) (v : BitVec 16) : (s.writeResult tag code v).port.toProcessor = s.port.toProcessor := by simp [State.writeResult]
@[simp] theorem State.writeResult_port_toMemory (tag : BitVec 8) (code : ResultCode) (v : BitVec 16) : (s.writeResult tag code v).port.toMemory = s.port.toMemory := by simp [State.writeResult]
@[simp] theorem State.writeResult_ctl_quiet (tag : BitVec 8) (code : ResultCode) (v : BitVec 16) : (s.writeResult tag code v).ctl.quiet = s.ctl.quiet := by simp [State.writeResult]
@[simp] theorem State.writeResult_ctl_ringBase (tag : BitVec 8) (code : ResultCode) (v : BitVec 16) : (s.writeResult tag code v).ctl.ringBase = s.ctl.ringBase := by simp [State.writeResult]
@[simp] theorem State.writeResult_ctl_ringCapacity (tag : BitVec 8) (code : ResultCode) (v : BitVec 16) : (s.writeResult tag code v).ctl.ringCapacity = s.ctl.ringCapacity := by simp [State.writeResult]
@[simp] theorem State.writeResult_ctl_consumer (tag : BitVec 8) (code : ResultCode) (v : BitVec 16) : (s.writeResult tag code v).ctl.consumer = s.ctl.consumer := by simp [State.writeResult]
@[simp] theorem State.writeResult_ctl_parityCount (tag : BitVec 8) (code : ResultCode) (v : BitVec 16) : (s.writeResult tag code v).ctl.parityCount = s.ctl.parityCount := by simp [State.writeResult]
@[simp] theorem State.writeResult_ctl_time (tag : BitVec 8) (code : ResultCode) (v : BitVec 16) : (s.writeResult tag code v).ctl.time = s.ctl.time := by simp [State.writeResult]
@[simp] theorem State.writeResult_ctl_nextTick (tag : BitVec 8) (code : ResultCode) (v : BitVec 16) : (s.writeResult tag code v).ctl.nextTick = s.ctl.nextTick := by simp [State.writeResult]
@[simp] theorem State.writeResult_ctl_params (tag : BitVec 8) (code : ResultCode) (v : BitVec 16) : (s.writeResult tag code v).ctl.params = s.ctl.params := by simp [State.writeResult]
@[simp] theorem State.writeResult_strip (tag : BitVec 8) (code : ResultCode) (v : BitVec 16) (j : StripId) : (s.writeResult tag code v).strip j = s.strip j :=
  State.strip_congr (State.writeResult_strips s tag code v) j
@[simp] theorem State.writeResult_chan (tag : BitVec 8) (code : ResultCode) (v : BitVec 16) (d : ChanId) : (s.writeResult tag code v).chan d = s.chan d :=
  State.chan_congr (State.writeResult_chans s tag code v) d
@[simp] theorem State.writeResult_home (tag : BitVec 8) (code : ResultCode) (v : BitVec 16) (d : ChanId) : (s.writeResult tag code v).home d = s.home d :=
  State.home_congr (State.writeResult_windows s tag code v) d
@[simp] theorem State.writeResult_param (tag : BitVec 8) (code : ResultCode) (v : BitVec 16) (p : Param) : (s.writeResult tag code v).param p = s.param p := by simp [State.param]

/-! ## noteCauses -/

@[simp] theorem State.noteCauses_pending (before : Word) : (s.noteCauses before).pending = s.pending := by
  unfold State.noteCauses; split <;> simp
@[simp] theorem State.noteCauses_clock (before : Word) : (s.noteCauses before).clock = s.clock := by
  unfold State.noteCauses; split <;> simp
@[simp] theorem State.noteCauses_inReset (before : Word) : (s.noteCauses before).inReset = s.inReset := by
  unfold State.noteCauses; split <;> simp
@[simp] theorem State.noteCauses_strap (before : Word) : (s.noteCauses before).strap = s.strap := by
  unfold State.noteCauses; split <;> simp
@[simp] theorem State.noteCauses_windows (before : Word) : (s.noteCauses before).windows = s.windows := by
  unfold State.noteCauses; split <;> simp
@[simp] theorem State.noteCauses_chans (before : Word) : (s.noteCauses before).chans = s.chans := by
  unfold State.noteCauses; split <;> simp
@[simp] theorem State.noteCauses_taper (before : Word) : (s.noteCauses before).taper = s.taper := by
  unfold State.noteCauses; split <;> simp
@[simp] theorem State.noteCauses_strips (before : Word) : (s.noteCauses before).strips = s.strips := by
  unfold State.noteCauses; split <;> simp
@[simp] theorem State.noteCauses_layers (before : Word) : (s.noteCauses before).layers = s.layers := by
  unfold State.noteCauses; split <;> simp
@[simp] theorem State.noteCauses_drive (before : Word) : (s.noteCauses before).drive = s.drive := by
  unfold State.noteCauses; split <;> simp
@[simp] theorem State.noteCauses_sliceDue (before : Word) : (s.noteCauses before).sliceDue = s.sliceDue := by
  unfold State.noteCauses; split <;> simp
@[simp] theorem State.noteCauses_meter (before : Word) : (s.noteCauses before).meter = s.meter := by
  unfold State.noteCauses; split <;> simp
@[simp] theorem State.noteCauses_port_req (before : Word) : (s.noteCauses before).port.req = s.port.req := by
  unfold State.noteCauses; split <;> simp
@[simp] theorem State.noteCauses_port_heldBeat (before : Word) : (s.noteCauses before).port.heldBeat = s.port.heldBeat := by
  unfold State.noteCauses; split <;> simp
@[simp] theorem State.noteCauses_port_owed (before : Word) : (s.noteCauses before).port.owed = s.port.owed := by
  unfold State.noteCauses; split <;> simp
@[simp] theorem State.noteCauses_port_holder (before : Word) : (s.noteCauses before).port.holder = s.port.holder := by
  unfold State.noteCauses; split <;> simp
@[simp] theorem State.noteCauses_port_members (before : Word) : (s.noteCauses before).port.members = s.port.members := by
  unfold State.noteCauses; split <;> simp
@[simp] theorem State.noteCauses_port_alertEnd (before : Word) : (s.noteCauses before).port.alertEnd = s.port.alertEnd := by
  unfold State.noteCauses; split <;> simp
@[simp] theorem State.noteCauses_port_toProcessor (before : Word) : (s.noteCauses before).port.toProcessor = s.port.toProcessor := by
  unfold State.noteCauses; split <;> simp
@[simp] theorem State.noteCauses_port_toMemory (before : Word) : (s.noteCauses before).port.toMemory = s.port.toMemory := by
  unfold State.noteCauses; split <;> simp
@[simp] theorem State.noteCauses_ctl_quiet (before : Word) : (s.noteCauses before).ctl.quiet = s.ctl.quiet := by
  unfold State.noteCauses; split <;> simp
@[simp] theorem State.noteCauses_ctl_ringBase (before : Word) : (s.noteCauses before).ctl.ringBase = s.ctl.ringBase := by
  unfold State.noteCauses; split <;> simp
@[simp] theorem State.noteCauses_ctl_ringCapacity (before : Word) : (s.noteCauses before).ctl.ringCapacity = s.ctl.ringCapacity := by
  unfold State.noteCauses; split <;> simp
@[simp] theorem State.noteCauses_ctl_consumer (before : Word) : (s.noteCauses before).ctl.consumer = s.ctl.consumer := by
  unfold State.noteCauses; split <;> simp
@[simp] theorem State.noteCauses_ctl_parityCount (before : Word) : (s.noteCauses before).ctl.parityCount = s.ctl.parityCount := by
  unfold State.noteCauses; split <;> simp
@[simp] theorem State.noteCauses_ctl_time (before : Word) : (s.noteCauses before).ctl.time = s.ctl.time := by
  unfold State.noteCauses; split <;> simp
@[simp] theorem State.noteCauses_ctl_nextTick (before : Word) : (s.noteCauses before).ctl.nextTick = s.ctl.nextTick := by
  unfold State.noteCauses; split <;> simp
@[simp] theorem State.noteCauses_ctl_params (before : Word) : (s.noteCauses before).ctl.params = s.ctl.params := by
  unfold State.noteCauses; split <;> simp
@[simp] theorem State.noteCauses_strip (before : Word) (j : StripId) : (s.noteCauses before).strip j = s.strip j :=
  State.strip_congr (State.noteCauses_strips s before) j
@[simp] theorem State.noteCauses_chan (before : Word) (d : ChanId) : (s.noteCauses before).chan d = s.chan d :=
  State.chan_congr (State.noteCauses_chans s before) d
@[simp] theorem State.noteCauses_home (before : Word) (d : ChanId) : (s.noteCauses before).home d = s.home d :=
  State.home_congr (State.noteCauses_windows s before) d
@[simp] theorem State.noteCauses_param (before : Word) (p : Param) : (s.noteCauses before).param p = s.param p := by simp [State.param]

/-! ## modCauses -/

@[simp] theorem State.modCauses_pending (f : Control → Control) : (s.modCauses f).pending = s.pending := by simp [State.modCauses]
@[simp] theorem State.modCauses_clock (f : Control → Control) : (s.modCauses f).clock = s.clock := by simp [State.modCauses]
@[simp] theorem State.modCauses_inReset (f : Control → Control) : (s.modCauses f).inReset = s.inReset := by simp [State.modCauses]
@[simp] theorem State.modCauses_strap (f : Control → Control) : (s.modCauses f).strap = s.strap := by simp [State.modCauses]
@[simp] theorem State.modCauses_windows (f : Control → Control) : (s.modCauses f).windows = s.windows := by simp [State.modCauses]
@[simp] theorem State.modCauses_chans (f : Control → Control) : (s.modCauses f).chans = s.chans := by simp [State.modCauses]
@[simp] theorem State.modCauses_taper (f : Control → Control) : (s.modCauses f).taper = s.taper := by simp [State.modCauses]
@[simp] theorem State.modCauses_strips (f : Control → Control) : (s.modCauses f).strips = s.strips := by simp [State.modCauses]
@[simp] theorem State.modCauses_layers (f : Control → Control) : (s.modCauses f).layers = s.layers := by simp [State.modCauses]
@[simp] theorem State.modCauses_drive (f : Control → Control) : (s.modCauses f).drive = s.drive := by simp [State.modCauses]
@[simp] theorem State.modCauses_sliceDue (f : Control → Control) : (s.modCauses f).sliceDue = s.sliceDue := by simp [State.modCauses]
@[simp] theorem State.modCauses_meter (f : Control → Control) : (s.modCauses f).meter = s.meter := by simp [State.modCauses]
@[simp] theorem State.modCauses_port_req (f : Control → Control) : (s.modCauses f).port.req = s.port.req := by simp [State.modCauses]
@[simp] theorem State.modCauses_port_heldBeat (f : Control → Control) : (s.modCauses f).port.heldBeat = s.port.heldBeat := by simp [State.modCauses]
@[simp] theorem State.modCauses_port_owed (f : Control → Control) : (s.modCauses f).port.owed = s.port.owed := by simp [State.modCauses]
@[simp] theorem State.modCauses_port_holder (f : Control → Control) : (s.modCauses f).port.holder = s.port.holder := by simp [State.modCauses]
@[simp] theorem State.modCauses_port_members (f : Control → Control) : (s.modCauses f).port.members = s.port.members := by simp [State.modCauses]
@[simp] theorem State.modCauses_port_alertEnd (f : Control → Control) : (s.modCauses f).port.alertEnd = s.port.alertEnd := by simp [State.modCauses]
@[simp] theorem State.modCauses_port_toProcessor (f : Control → Control) : (s.modCauses f).port.toProcessor = s.port.toProcessor := by simp [State.modCauses]
@[simp] theorem State.modCauses_port_toMemory (f : Control → Control) : (s.modCauses f).port.toMemory = s.port.toMemory := by simp [State.modCauses]
@[simp] theorem State.modCauses_strip (f : Control → Control) (j : StripId) : (s.modCauses f).strip j = s.strip j :=
  State.strip_congr (State.modCauses_strips s f) j
@[simp] theorem State.modCauses_chan (f : Control → Control) (d : ChanId) : (s.modCauses f).chan d = s.chan d :=
  State.chan_congr (State.modCauses_chans s f) d
@[simp] theorem State.modCauses_home (f : Control → Control) (d : ChanId) : (s.modCauses f).home d = s.home d :=
  State.home_congr (State.modCauses_windows s f) d

@[simp] theorem State.modCauses_ctl_quiet (f : Control → Control) :
    (s.modCauses f).ctl.quiet = (f s.ctl).quiet := by simp [State.modCauses]
@[simp] theorem State.modCauses_ctl_ringBase (f : Control → Control) :
    (s.modCauses f).ctl.ringBase = (f s.ctl).ringBase := by simp [State.modCauses]
@[simp] theorem State.modCauses_ctl_ringCapacity (f : Control → Control) :
    (s.modCauses f).ctl.ringCapacity = (f s.ctl).ringCapacity := by simp [State.modCauses]
@[simp] theorem State.modCauses_ctl_consumer (f : Control → Control) :
    (s.modCauses f).ctl.consumer = (f s.ctl).consumer := by simp [State.modCauses]
@[simp] theorem State.modCauses_ctl_parityCount (f : Control → Control) :
    (s.modCauses f).ctl.parityCount = (f s.ctl).parityCount := by simp [State.modCauses]
@[simp] theorem State.modCauses_ctl_time (f : Control → Control) :
    (s.modCauses f).ctl.time = (f s.ctl).time := by simp [State.modCauses]
@[simp] theorem State.modCauses_ctl_nextTick (f : Control → Control) :
    (s.modCauses f).ctl.nextTick = (f s.ctl).nextTick := by simp [State.modCauses]
@[simp] theorem State.modCauses_ctl_params (f : Control → Control) :
    (s.modCauses f).ctl.params = (f s.ctl).params := by simp [State.modCauses]

/-! ## keepEntries -/

@[simp] theorem State.keepEntries_pending (keep : InjEntry → Bool) : (s.keepEntries keep).pending = s.pending := by simp [State.keepEntries]
@[simp] theorem State.keepEntries_clock (keep : InjEntry → Bool) : (s.keepEntries keep).clock = s.clock := by simp [State.keepEntries]
@[simp] theorem State.keepEntries_inReset (keep : InjEntry → Bool) : (s.keepEntries keep).inReset = s.inReset := by simp [State.keepEntries]
@[simp] theorem State.keepEntries_strap (keep : InjEntry → Bool) : (s.keepEntries keep).strap = s.strap := by simp [State.keepEntries]
@[simp] theorem State.keepEntries_windows (keep : InjEntry → Bool) : (s.keepEntries keep).windows = s.windows := by simp [State.keepEntries]
@[simp] theorem State.keepEntries_chans (keep : InjEntry → Bool) : (s.keepEntries keep).chans = s.chans := by simp [State.keepEntries]
@[simp] theorem State.keepEntries_taper (keep : InjEntry → Bool) : (s.keepEntries keep).taper = s.taper := by simp [State.keepEntries]
@[simp] theorem State.keepEntries_strips (keep : InjEntry → Bool) : (s.keepEntries keep).strips = s.strips := by simp [State.keepEntries]
@[simp] theorem State.keepEntries_layers (keep : InjEntry → Bool) : (s.keepEntries keep).layers = s.layers := by simp [State.keepEntries]
@[simp] theorem State.keepEntries_drive (keep : InjEntry → Bool) : (s.keepEntries keep).drive = s.drive := by simp [State.keepEntries]
@[simp] theorem State.keepEntries_sliceDue (keep : InjEntry → Bool) : (s.keepEntries keep).sliceDue = s.sliceDue := by simp [State.keepEntries]
@[simp] theorem State.keepEntries_meter (keep : InjEntry → Bool) : (s.keepEntries keep).meter = s.meter := by simp [State.keepEntries]
@[simp] theorem State.keepEntries_port_req (keep : InjEntry → Bool) : (s.keepEntries keep).port.req = s.port.req := by simp [State.keepEntries]
@[simp] theorem State.keepEntries_port_heldBeat (keep : InjEntry → Bool) : (s.keepEntries keep).port.heldBeat = s.port.heldBeat := by simp [State.keepEntries]
@[simp] theorem State.keepEntries_port_owed (keep : InjEntry → Bool) : (s.keepEntries keep).port.owed = s.port.owed := by simp [State.keepEntries]
@[simp] theorem State.keepEntries_port_holder (keep : InjEntry → Bool) : (s.keepEntries keep).port.holder = s.port.holder := by simp [State.keepEntries]
@[simp] theorem State.keepEntries_port_members (keep : InjEntry → Bool) : (s.keepEntries keep).port.members = s.port.members := by simp [State.keepEntries]
@[simp] theorem State.keepEntries_port_alertEnd (keep : InjEntry → Bool) : (s.keepEntries keep).port.alertEnd = s.port.alertEnd := by simp [State.keepEntries]
@[simp] theorem State.keepEntries_port_toProcessor (keep : InjEntry → Bool) : (s.keepEntries keep).port.toProcessor = s.port.toProcessor := by simp [State.keepEntries]
@[simp] theorem State.keepEntries_port_toMemory (keep : InjEntry → Bool) : (s.keepEntries keep).port.toMemory = s.port.toMemory := by simp [State.keepEntries]
@[simp] theorem State.keepEntries_ctl_quiet (keep : InjEntry → Bool) : (s.keepEntries keep).ctl.quiet = s.ctl.quiet := by simp [State.keepEntries]
@[simp] theorem State.keepEntries_ctl_ringBase (keep : InjEntry → Bool) : (s.keepEntries keep).ctl.ringBase = s.ctl.ringBase := by simp [State.keepEntries]
@[simp] theorem State.keepEntries_ctl_ringCapacity (keep : InjEntry → Bool) : (s.keepEntries keep).ctl.ringCapacity = s.ctl.ringCapacity := by simp [State.keepEntries]
@[simp] theorem State.keepEntries_ctl_consumer (keep : InjEntry → Bool) : (s.keepEntries keep).ctl.consumer = s.ctl.consumer := by simp [State.keepEntries]
@[simp] theorem State.keepEntries_ctl_parityCount (keep : InjEntry → Bool) : (s.keepEntries keep).ctl.parityCount = s.ctl.parityCount := by simp [State.keepEntries]
@[simp] theorem State.keepEntries_ctl_time (keep : InjEntry → Bool) : (s.keepEntries keep).ctl.time = s.ctl.time := by simp [State.keepEntries]
@[simp] theorem State.keepEntries_ctl_nextTick (keep : InjEntry → Bool) : (s.keepEntries keep).ctl.nextTick = s.ctl.nextTick := by simp [State.keepEntries]
@[simp] theorem State.keepEntries_ctl_params (keep : InjEntry → Bool) : (s.keepEntries keep).ctl.params = s.ctl.params := by simp [State.keepEntries]
@[simp] theorem State.keepEntries_strip (keep : InjEntry → Bool) (j : StripId) : (s.keepEntries keep).strip j = s.strip j :=
  State.strip_congr (State.keepEntries_strips s keep) j
@[simp] theorem State.keepEntries_chan (keep : InjEntry → Bool) (d : ChanId) : (s.keepEntries keep).chan d = s.chan d :=
  State.chan_congr (State.keepEntries_chans s keep) d
@[simp] theorem State.keepEntries_home (keep : InjEntry → Bool) (d : ChanId) : (s.keepEntries keep).home d = s.home d :=
  State.home_congr (State.keepEntries_windows s keep) d
@[simp] theorem State.keepEntries_param (keep : InjEntry → Bool) (p : Param) : (s.keepEntries keep).param p = s.param p := by simp [State.param]

/-! ## loseEvent -/

@[simp] theorem State.loseEvent_pending : s.loseEvent.pending = s.pending := by
  unfold State.loseEvent; split <;> simp
@[simp] theorem State.loseEvent_clock : s.loseEvent.clock = s.clock := by
  unfold State.loseEvent; split <;> simp
@[simp] theorem State.loseEvent_inReset : s.loseEvent.inReset = s.inReset := by
  unfold State.loseEvent; split <;> simp
@[simp] theorem State.loseEvent_strap : s.loseEvent.strap = s.strap := by
  unfold State.loseEvent; split <;> simp
@[simp] theorem State.loseEvent_windows : s.loseEvent.windows = s.windows := by
  unfold State.loseEvent; split <;> simp
@[simp] theorem State.loseEvent_chans : s.loseEvent.chans = s.chans := by
  unfold State.loseEvent; split <;> simp
@[simp] theorem State.loseEvent_taper : s.loseEvent.taper = s.taper := by
  unfold State.loseEvent; split <;> simp
@[simp] theorem State.loseEvent_strips : s.loseEvent.strips = s.strips := by
  unfold State.loseEvent; split <;> simp
@[simp] theorem State.loseEvent_layers : s.loseEvent.layers = s.layers := by
  unfold State.loseEvent; split <;> simp
@[simp] theorem State.loseEvent_drive : s.loseEvent.drive = s.drive := by
  unfold State.loseEvent; split <;> simp
@[simp] theorem State.loseEvent_sliceDue : s.loseEvent.sliceDue = s.sliceDue := by
  unfold State.loseEvent; split <;> simp
@[simp] theorem State.loseEvent_meter : s.loseEvent.meter = s.meter := by
  unfold State.loseEvent; split <;> simp
@[simp] theorem State.loseEvent_port_req : s.loseEvent.port.req = s.port.req := by
  unfold State.loseEvent; split <;> simp
@[simp] theorem State.loseEvent_port_heldBeat : s.loseEvent.port.heldBeat = s.port.heldBeat := by
  unfold State.loseEvent; split <;> simp
@[simp] theorem State.loseEvent_port_owed : s.loseEvent.port.owed = s.port.owed := by
  unfold State.loseEvent; split <;> simp
@[simp] theorem State.loseEvent_port_holder : s.loseEvent.port.holder = s.port.holder := by
  unfold State.loseEvent; split <;> simp
@[simp] theorem State.loseEvent_port_members : s.loseEvent.port.members = s.port.members := by
  unfold State.loseEvent; split <;> simp
@[simp] theorem State.loseEvent_port_alertEnd : s.loseEvent.port.alertEnd = s.port.alertEnd := by
  unfold State.loseEvent; split <;> simp
@[simp] theorem State.loseEvent_port_toProcessor : s.loseEvent.port.toProcessor = s.port.toProcessor := by
  unfold State.loseEvent; split <;> simp
@[simp] theorem State.loseEvent_port_toMemory : s.loseEvent.port.toMemory = s.port.toMemory := by
  unfold State.loseEvent; split <;> simp
@[simp] theorem State.loseEvent_ctl_quiet : s.loseEvent.ctl.quiet = s.ctl.quiet := by
  unfold State.loseEvent; split <;> simp
@[simp] theorem State.loseEvent_ctl_ringBase : s.loseEvent.ctl.ringBase = s.ctl.ringBase := by
  unfold State.loseEvent; split <;> simp
@[simp] theorem State.loseEvent_ctl_ringCapacity : s.loseEvent.ctl.ringCapacity = s.ctl.ringCapacity := by
  unfold State.loseEvent; split <;> simp
@[simp] theorem State.loseEvent_ctl_consumer : s.loseEvent.ctl.consumer = s.ctl.consumer := by
  unfold State.loseEvent; split <;> simp
@[simp] theorem State.loseEvent_ctl_parityCount : s.loseEvent.ctl.parityCount = s.ctl.parityCount := by
  unfold State.loseEvent; split <;> simp
@[simp] theorem State.loseEvent_ctl_time : s.loseEvent.ctl.time = s.ctl.time := by
  unfold State.loseEvent; split <;> simp
@[simp] theorem State.loseEvent_ctl_nextTick : s.loseEvent.ctl.nextTick = s.ctl.nextTick := by
  unfold State.loseEvent; split <;> simp
@[simp] theorem State.loseEvent_ctl_params : s.loseEvent.ctl.params = s.ctl.params := by
  unfold State.loseEvent; split <;> simp
@[simp] theorem State.loseEvent_strip (j : StripId) : s.loseEvent.strip j = s.strip j :=
  State.strip_congr (State.loseEvent_strips s ) j
@[simp] theorem State.loseEvent_chan (d : ChanId) : s.loseEvent.chan d = s.chan d :=
  State.chan_congr (State.loseEvent_chans s ) d
@[simp] theorem State.loseEvent_home (d : ChanId) : s.loseEvent.home d = s.home d :=
  State.home_congr (State.loseEvent_windows s ) d
@[simp] theorem State.loseEvent_param (p : Param) : s.loseEvent.param p = s.param p := by simp [State.param]

/-! ## deliverEvent -/

@[simp] theorem State.deliverEvent_pending (kind : EventKind) (index : BitVec 8) (v n : BitVec 16) : (s.deliverEvent kind index v n).pending = s.pending := by
  unfold State.deliverEvent; split <;> simp
@[simp] theorem State.deliverEvent_clock (kind : EventKind) (index : BitVec 8) (v n : BitVec 16) : (s.deliverEvent kind index v n).clock = s.clock := by
  unfold State.deliverEvent; split <;> simp
@[simp] theorem State.deliverEvent_inReset (kind : EventKind) (index : BitVec 8) (v n : BitVec 16) : (s.deliverEvent kind index v n).inReset = s.inReset := by
  unfold State.deliverEvent; split <;> simp
@[simp] theorem State.deliverEvent_strap (kind : EventKind) (index : BitVec 8) (v n : BitVec 16) : (s.deliverEvent kind index v n).strap = s.strap := by
  unfold State.deliverEvent; split <;> simp
@[simp] theorem State.deliverEvent_windows (kind : EventKind) (index : BitVec 8) (v n : BitVec 16) : (s.deliverEvent kind index v n).windows = s.windows := by
  unfold State.deliverEvent; split <;> simp
@[simp] theorem State.deliverEvent_chans (kind : EventKind) (index : BitVec 8) (v n : BitVec 16) : (s.deliverEvent kind index v n).chans = s.chans := by
  unfold State.deliverEvent; split <;> simp
@[simp] theorem State.deliverEvent_taper (kind : EventKind) (index : BitVec 8) (v n : BitVec 16) : (s.deliverEvent kind index v n).taper = s.taper := by
  unfold State.deliverEvent; split <;> simp
@[simp] theorem State.deliverEvent_strips (kind : EventKind) (index : BitVec 8) (v n : BitVec 16) : (s.deliverEvent kind index v n).strips = s.strips := by
  unfold State.deliverEvent; split <;> simp
@[simp] theorem State.deliverEvent_layers (kind : EventKind) (index : BitVec 8) (v n : BitVec 16) : (s.deliverEvent kind index v n).layers = s.layers := by
  unfold State.deliverEvent; split <;> simp
@[simp] theorem State.deliverEvent_drive (kind : EventKind) (index : BitVec 8) (v n : BitVec 16) : (s.deliverEvent kind index v n).drive = s.drive := by
  unfold State.deliverEvent; split <;> simp
@[simp] theorem State.deliverEvent_sliceDue (kind : EventKind) (index : BitVec 8) (v n : BitVec 16) : (s.deliverEvent kind index v n).sliceDue = s.sliceDue := by
  unfold State.deliverEvent; split <;> simp
@[simp] theorem State.deliverEvent_meter (kind : EventKind) (index : BitVec 8) (v n : BitVec 16) : (s.deliverEvent kind index v n).meter = s.meter := by
  unfold State.deliverEvent; split <;> simp
@[simp] theorem State.deliverEvent_port_req (kind : EventKind) (index : BitVec 8) (v n : BitVec 16) : (s.deliverEvent kind index v n).port.req = s.port.req := by
  unfold State.deliverEvent; split <;> simp
@[simp] theorem State.deliverEvent_port_heldBeat (kind : EventKind) (index : BitVec 8) (v n : BitVec 16) : (s.deliverEvent kind index v n).port.heldBeat = s.port.heldBeat := by
  unfold State.deliverEvent; split <;> simp
@[simp] theorem State.deliverEvent_port_owed (kind : EventKind) (index : BitVec 8) (v n : BitVec 16) : (s.deliverEvent kind index v n).port.owed = s.port.owed := by
  unfold State.deliverEvent; split <;> simp
@[simp] theorem State.deliverEvent_port_holder (kind : EventKind) (index : BitVec 8) (v n : BitVec 16) : (s.deliverEvent kind index v n).port.holder = s.port.holder := by
  unfold State.deliverEvent; split <;> simp
@[simp] theorem State.deliverEvent_port_members (kind : EventKind) (index : BitVec 8) (v n : BitVec 16) : (s.deliverEvent kind index v n).port.members = s.port.members := by
  unfold State.deliverEvent; split <;> simp
@[simp] theorem State.deliverEvent_port_alertEnd (kind : EventKind) (index : BitVec 8) (v n : BitVec 16) : (s.deliverEvent kind index v n).port.alertEnd = s.port.alertEnd := by
  unfold State.deliverEvent; split <;> simp
@[simp] theorem State.deliverEvent_port_toProcessor (kind : EventKind) (index : BitVec 8) (v n : BitVec 16) : (s.deliverEvent kind index v n).port.toProcessor = s.port.toProcessor := by
  unfold State.deliverEvent; split <;> simp
@[simp] theorem State.deliverEvent_port_toMemory (kind : EventKind) (index : BitVec 8) (v n : BitVec 16) : (s.deliverEvent kind index v n).port.toMemory = s.port.toMemory := by
  unfold State.deliverEvent; split <;> simp
@[simp] theorem State.deliverEvent_ctl_quiet (kind : EventKind) (index : BitVec 8) (v n : BitVec 16) : (s.deliverEvent kind index v n).ctl.quiet = s.ctl.quiet := by
  unfold State.deliverEvent; split <;> simp
@[simp] theorem State.deliverEvent_ctl_ringBase (kind : EventKind) (index : BitVec 8) (v n : BitVec 16) : (s.deliverEvent kind index v n).ctl.ringBase = s.ctl.ringBase := by
  unfold State.deliverEvent; split <;> simp
@[simp] theorem State.deliverEvent_ctl_ringCapacity (kind : EventKind) (index : BitVec 8) (v n : BitVec 16) : (s.deliverEvent kind index v n).ctl.ringCapacity = s.ctl.ringCapacity := by
  unfold State.deliverEvent; split <;> simp
@[simp] theorem State.deliverEvent_ctl_consumer (kind : EventKind) (index : BitVec 8) (v n : BitVec 16) : (s.deliverEvent kind index v n).ctl.consumer = s.ctl.consumer := by
  unfold State.deliverEvent; split <;> simp
@[simp] theorem State.deliverEvent_ctl_parityCount (kind : EventKind) (index : BitVec 8) (v n : BitVec 16) : (s.deliverEvent kind index v n).ctl.parityCount = s.ctl.parityCount := by
  unfold State.deliverEvent; split <;> simp
@[simp] theorem State.deliverEvent_ctl_time (kind : EventKind) (index : BitVec 8) (v n : BitVec 16) : (s.deliverEvent kind index v n).ctl.time = s.ctl.time := by
  unfold State.deliverEvent; split <;> simp
@[simp] theorem State.deliverEvent_ctl_nextTick (kind : EventKind) (index : BitVec 8) (v n : BitVec 16) : (s.deliverEvent kind index v n).ctl.nextTick = s.ctl.nextTick := by
  unfold State.deliverEvent; split <;> simp
@[simp] theorem State.deliverEvent_ctl_params (kind : EventKind) (index : BitVec 8) (v n : BitVec 16) : (s.deliverEvent kind index v n).ctl.params = s.ctl.params := by
  unfold State.deliverEvent; split <;> simp
@[simp] theorem State.deliverEvent_strip (kind : EventKind) (index : BitVec 8) (v n : BitVec 16) (j : StripId) : (s.deliverEvent kind index v n).strip j = s.strip j :=
  State.strip_congr (State.deliverEvent_strips s kind index v n) j
@[simp] theorem State.deliverEvent_chan (kind : EventKind) (index : BitVec 8) (v n : BitVec 16) (d : ChanId) : (s.deliverEvent kind index v n).chan d = s.chan d :=
  State.chan_congr (State.deliverEvent_chans s kind index v n) d
@[simp] theorem State.deliverEvent_home (kind : EventKind) (index : BitVec 8) (v n : BitVec 16) (d : ChanId) : (s.deliverEvent kind index v n).home d = s.home d :=
  State.home_congr (State.deliverEvent_windows s kind index v n) d
@[simp] theorem State.deliverEvent_param (kind : EventKind) (index : BitVec 8) (v n : BitVec 16) (p : Param) : (s.deliverEvent kind index v n).param p = s.param p := by simp [State.param]

/-! ## createEvent -/

@[simp] theorem State.createEvent_pending (kind : EventKind) (index : BitVec 8) (v : BitVec 16) : (s.createEvent kind index v).pending = s.pending := by
  unfold State.createEvent; (repeat' split) <;> simp
@[simp] theorem State.createEvent_clock (kind : EventKind) (index : BitVec 8) (v : BitVec 16) : (s.createEvent kind index v).clock = s.clock := by
  unfold State.createEvent; (repeat' split) <;> simp
@[simp] theorem State.createEvent_inReset (kind : EventKind) (index : BitVec 8) (v : BitVec 16) : (s.createEvent kind index v).inReset = s.inReset := by
  unfold State.createEvent; (repeat' split) <;> simp
@[simp] theorem State.createEvent_strap (kind : EventKind) (index : BitVec 8) (v : BitVec 16) : (s.createEvent kind index v).strap = s.strap := by
  unfold State.createEvent; (repeat' split) <;> simp
@[simp] theorem State.createEvent_windows (kind : EventKind) (index : BitVec 8) (v : BitVec 16) : (s.createEvent kind index v).windows = s.windows := by
  unfold State.createEvent; (repeat' split) <;> simp
@[simp] theorem State.createEvent_chans (kind : EventKind) (index : BitVec 8) (v : BitVec 16) : (s.createEvent kind index v).chans = s.chans := by
  unfold State.createEvent; (repeat' split) <;> simp
@[simp] theorem State.createEvent_taper (kind : EventKind) (index : BitVec 8) (v : BitVec 16) : (s.createEvent kind index v).taper = s.taper := by
  unfold State.createEvent; (repeat' split) <;> simp
@[simp] theorem State.createEvent_strips (kind : EventKind) (index : BitVec 8) (v : BitVec 16) : (s.createEvent kind index v).strips = s.strips := by
  unfold State.createEvent; (repeat' split) <;> simp
@[simp] theorem State.createEvent_layers (kind : EventKind) (index : BitVec 8) (v : BitVec 16) : (s.createEvent kind index v).layers = s.layers := by
  unfold State.createEvent; (repeat' split) <;> simp
@[simp] theorem State.createEvent_drive (kind : EventKind) (index : BitVec 8) (v : BitVec 16) : (s.createEvent kind index v).drive = s.drive := by
  unfold State.createEvent; (repeat' split) <;> simp
@[simp] theorem State.createEvent_sliceDue (kind : EventKind) (index : BitVec 8) (v : BitVec 16) : (s.createEvent kind index v).sliceDue = s.sliceDue := by
  unfold State.createEvent; (repeat' split) <;> simp
@[simp] theorem State.createEvent_meter (kind : EventKind) (index : BitVec 8) (v : BitVec 16) : (s.createEvent kind index v).meter = s.meter := by
  unfold State.createEvent; (repeat' split) <;> simp
@[simp] theorem State.createEvent_port_req (kind : EventKind) (index : BitVec 8) (v : BitVec 16) : (s.createEvent kind index v).port.req = s.port.req := by
  unfold State.createEvent; (repeat' split) <;> simp
@[simp] theorem State.createEvent_port_heldBeat (kind : EventKind) (index : BitVec 8) (v : BitVec 16) : (s.createEvent kind index v).port.heldBeat = s.port.heldBeat := by
  unfold State.createEvent; (repeat' split) <;> simp
@[simp] theorem State.createEvent_port_owed (kind : EventKind) (index : BitVec 8) (v : BitVec 16) : (s.createEvent kind index v).port.owed = s.port.owed := by
  unfold State.createEvent; (repeat' split) <;> simp
@[simp] theorem State.createEvent_port_holder (kind : EventKind) (index : BitVec 8) (v : BitVec 16) : (s.createEvent kind index v).port.holder = s.port.holder := by
  unfold State.createEvent; (repeat' split) <;> simp
@[simp] theorem State.createEvent_port_members (kind : EventKind) (index : BitVec 8) (v : BitVec 16) : (s.createEvent kind index v).port.members = s.port.members := by
  unfold State.createEvent; (repeat' split) <;> simp
@[simp] theorem State.createEvent_port_alertEnd (kind : EventKind) (index : BitVec 8) (v : BitVec 16) : (s.createEvent kind index v).port.alertEnd = s.port.alertEnd := by
  unfold State.createEvent; (repeat' split) <;> simp
@[simp] theorem State.createEvent_port_toProcessor (kind : EventKind) (index : BitVec 8) (v : BitVec 16) : (s.createEvent kind index v).port.toProcessor = s.port.toProcessor := by
  unfold State.createEvent; (repeat' split) <;> simp
@[simp] theorem State.createEvent_port_toMemory (kind : EventKind) (index : BitVec 8) (v : BitVec 16) : (s.createEvent kind index v).port.toMemory = s.port.toMemory := by
  unfold State.createEvent; (repeat' split) <;> simp
@[simp] theorem State.createEvent_ctl_quiet (kind : EventKind) (index : BitVec 8) (v : BitVec 16) : (s.createEvent kind index v).ctl.quiet = s.ctl.quiet := by
  unfold State.createEvent; (repeat' split) <;> simp
@[simp] theorem State.createEvent_ctl_ringBase (kind : EventKind) (index : BitVec 8) (v : BitVec 16) : (s.createEvent kind index v).ctl.ringBase = s.ctl.ringBase := by
  unfold State.createEvent; (repeat' split) <;> simp
@[simp] theorem State.createEvent_ctl_ringCapacity (kind : EventKind) (index : BitVec 8) (v : BitVec 16) : (s.createEvent kind index v).ctl.ringCapacity = s.ctl.ringCapacity := by
  unfold State.createEvent; (repeat' split) <;> simp
@[simp] theorem State.createEvent_ctl_consumer (kind : EventKind) (index : BitVec 8) (v : BitVec 16) : (s.createEvent kind index v).ctl.consumer = s.ctl.consumer := by
  unfold State.createEvent; (repeat' split) <;> simp
@[simp] theorem State.createEvent_ctl_parityCount (kind : EventKind) (index : BitVec 8) (v : BitVec 16) : (s.createEvent kind index v).ctl.parityCount = s.ctl.parityCount := by
  unfold State.createEvent; (repeat' split) <;> simp
@[simp] theorem State.createEvent_ctl_time (kind : EventKind) (index : BitVec 8) (v : BitVec 16) : (s.createEvent kind index v).ctl.time = s.ctl.time := by
  unfold State.createEvent; (repeat' split) <;> simp
@[simp] theorem State.createEvent_ctl_nextTick (kind : EventKind) (index : BitVec 8) (v : BitVec 16) : (s.createEvent kind index v).ctl.nextTick = s.ctl.nextTick := by
  unfold State.createEvent; (repeat' split) <;> simp
@[simp] theorem State.createEvent_ctl_params (kind : EventKind) (index : BitVec 8) (v : BitVec 16) : (s.createEvent kind index v).ctl.params = s.ctl.params := by
  unfold State.createEvent; (repeat' split) <;> simp
@[simp] theorem State.createEvent_strip (kind : EventKind) (index : BitVec 8) (v : BitVec 16) (j : StripId) : (s.createEvent kind index v).strip j = s.strip j :=
  State.strip_congr (State.createEvent_strips s kind index v) j
@[simp] theorem State.createEvent_chan (kind : EventKind) (index : BitVec 8) (v : BitVec 16) (d : ChanId) : (s.createEvent kind index v).chan d = s.chan d :=
  State.chan_congr (State.createEvent_chans s kind index v) d
@[simp] theorem State.createEvent_home (kind : EventKind) (index : BitVec 8) (v : BitVec 16) (d : ChanId) : (s.createEvent kind index v).home d = s.home d :=
  State.home_congr (State.createEvent_windows s kind index v) d
@[simp] theorem State.createEvent_param (kind : EventKind) (index : BitVec 8) (v : BitVec 16) (p : Param) : (s.createEvent kind index v).param p = s.param p := by simp [State.param]

/-! ## stripEvent -/

@[simp] theorem State.stripEvent_pending (kind : EventKind) (i : StripId) (v : BitVec 16) : (s.stripEvent kind i v).pending = s.pending := by simp [State.stripEvent]
@[simp] theorem State.stripEvent_clock (kind : EventKind) (i : StripId) (v : BitVec 16) : (s.stripEvent kind i v).clock = s.clock := by simp [State.stripEvent]
@[simp] theorem State.stripEvent_inReset (kind : EventKind) (i : StripId) (v : BitVec 16) : (s.stripEvent kind i v).inReset = s.inReset := by simp [State.stripEvent]
@[simp] theorem State.stripEvent_strap (kind : EventKind) (i : StripId) (v : BitVec 16) : (s.stripEvent kind i v).strap = s.strap := by simp [State.stripEvent]
@[simp] theorem State.stripEvent_windows (kind : EventKind) (i : StripId) (v : BitVec 16) : (s.stripEvent kind i v).windows = s.windows := by simp [State.stripEvent]
@[simp] theorem State.stripEvent_chans (kind : EventKind) (i : StripId) (v : BitVec 16) : (s.stripEvent kind i v).chans = s.chans := by simp [State.stripEvent]
@[simp] theorem State.stripEvent_taper (kind : EventKind) (i : StripId) (v : BitVec 16) : (s.stripEvent kind i v).taper = s.taper := by simp [State.stripEvent]
@[simp] theorem State.stripEvent_strips (kind : EventKind) (i : StripId) (v : BitVec 16) : (s.stripEvent kind i v).strips = s.strips := by simp [State.stripEvent]
@[simp] theorem State.stripEvent_layers (kind : EventKind) (i : StripId) (v : BitVec 16) : (s.stripEvent kind i v).layers = s.layers := by simp [State.stripEvent]
@[simp] theorem State.stripEvent_drive (kind : EventKind) (i : StripId) (v : BitVec 16) : (s.stripEvent kind i v).drive = s.drive := by simp [State.stripEvent]
@[simp] theorem State.stripEvent_sliceDue (kind : EventKind) (i : StripId) (v : BitVec 16) : (s.stripEvent kind i v).sliceDue = s.sliceDue := by simp [State.stripEvent]
@[simp] theorem State.stripEvent_meter (kind : EventKind) (i : StripId) (v : BitVec 16) : (s.stripEvent kind i v).meter = s.meter := by simp [State.stripEvent]
@[simp] theorem State.stripEvent_port_req (kind : EventKind) (i : StripId) (v : BitVec 16) : (s.stripEvent kind i v).port.req = s.port.req := by simp [State.stripEvent]
@[simp] theorem State.stripEvent_port_heldBeat (kind : EventKind) (i : StripId) (v : BitVec 16) : (s.stripEvent kind i v).port.heldBeat = s.port.heldBeat := by simp [State.stripEvent]
@[simp] theorem State.stripEvent_port_owed (kind : EventKind) (i : StripId) (v : BitVec 16) : (s.stripEvent kind i v).port.owed = s.port.owed := by simp [State.stripEvent]
@[simp] theorem State.stripEvent_port_holder (kind : EventKind) (i : StripId) (v : BitVec 16) : (s.stripEvent kind i v).port.holder = s.port.holder := by simp [State.stripEvent]
@[simp] theorem State.stripEvent_port_members (kind : EventKind) (i : StripId) (v : BitVec 16) : (s.stripEvent kind i v).port.members = s.port.members := by simp [State.stripEvent]
@[simp] theorem State.stripEvent_port_alertEnd (kind : EventKind) (i : StripId) (v : BitVec 16) : (s.stripEvent kind i v).port.alertEnd = s.port.alertEnd := by simp [State.stripEvent]
@[simp] theorem State.stripEvent_port_toProcessor (kind : EventKind) (i : StripId) (v : BitVec 16) : (s.stripEvent kind i v).port.toProcessor = s.port.toProcessor := by simp [State.stripEvent]
@[simp] theorem State.stripEvent_port_toMemory (kind : EventKind) (i : StripId) (v : BitVec 16) : (s.stripEvent kind i v).port.toMemory = s.port.toMemory := by simp [State.stripEvent]
@[simp] theorem State.stripEvent_ctl_quiet (kind : EventKind) (i : StripId) (v : BitVec 16) : (s.stripEvent kind i v).ctl.quiet = s.ctl.quiet := by simp [State.stripEvent]
@[simp] theorem State.stripEvent_ctl_ringBase (kind : EventKind) (i : StripId) (v : BitVec 16) : (s.stripEvent kind i v).ctl.ringBase = s.ctl.ringBase := by simp [State.stripEvent]
@[simp] theorem State.stripEvent_ctl_ringCapacity (kind : EventKind) (i : StripId) (v : BitVec 16) : (s.stripEvent kind i v).ctl.ringCapacity = s.ctl.ringCapacity := by simp [State.stripEvent]
@[simp] theorem State.stripEvent_ctl_consumer (kind : EventKind) (i : StripId) (v : BitVec 16) : (s.stripEvent kind i v).ctl.consumer = s.ctl.consumer := by simp [State.stripEvent]
@[simp] theorem State.stripEvent_ctl_parityCount (kind : EventKind) (i : StripId) (v : BitVec 16) : (s.stripEvent kind i v).ctl.parityCount = s.ctl.parityCount := by simp [State.stripEvent]
@[simp] theorem State.stripEvent_ctl_time (kind : EventKind) (i : StripId) (v : BitVec 16) : (s.stripEvent kind i v).ctl.time = s.ctl.time := by simp [State.stripEvent]
@[simp] theorem State.stripEvent_ctl_nextTick (kind : EventKind) (i : StripId) (v : BitVec 16) : (s.stripEvent kind i v).ctl.nextTick = s.ctl.nextTick := by simp [State.stripEvent]
@[simp] theorem State.stripEvent_ctl_params (kind : EventKind) (i : StripId) (v : BitVec 16) : (s.stripEvent kind i v).ctl.params = s.ctl.params := by simp [State.stripEvent]
@[simp] theorem State.stripEvent_strip (kind : EventKind) (i : StripId) (v : BitVec 16) (j : StripId) : (s.stripEvent kind i v).strip j = s.strip j :=
  State.strip_congr (State.stripEvent_strips s kind i v) j
@[simp] theorem State.stripEvent_chan (kind : EventKind) (i : StripId) (v : BitVec 16) (d : ChanId) : (s.stripEvent kind i v).chan d = s.chan d :=
  State.chan_congr (State.stripEvent_chans s kind i v) d
@[simp] theorem State.stripEvent_home (kind : EventKind) (i : StripId) (v : BitVec 16) (d : ChanId) : (s.stripEvent kind i v).home d = s.home d :=
  State.home_congr (State.stripEvent_windows s kind i v) d
@[simp] theorem State.stripEvent_param (kind : EventKind) (i : StripId) (v : BitVec 16) (p : Param) : (s.stripEvent kind i v).param p = s.param p := by simp [State.param]

/-! ## setFault -/

@[simp] theorem State.setFault_pending : s.setFault.pending = s.pending := by simp [State.setFault]
@[simp] theorem State.setFault_clock : s.setFault.clock = s.clock := by simp [State.setFault]
@[simp] theorem State.setFault_inReset : s.setFault.inReset = s.inReset := by simp [State.setFault]
@[simp] theorem State.setFault_strap : s.setFault.strap = s.strap := by simp [State.setFault]
@[simp] theorem State.setFault_windows : s.setFault.windows = s.windows := by simp [State.setFault]
@[simp] theorem State.setFault_chans : s.setFault.chans = s.chans := by simp [State.setFault]
@[simp] theorem State.setFault_taper : s.setFault.taper = s.taper := by simp [State.setFault]
@[simp] theorem State.setFault_strips : s.setFault.strips = s.strips := by simp [State.setFault]
@[simp] theorem State.setFault_layers : s.setFault.layers = s.layers := by simp [State.setFault]
@[simp] theorem State.setFault_drive : s.setFault.drive = s.drive := by simp [State.setFault]
@[simp] theorem State.setFault_sliceDue : s.setFault.sliceDue = s.sliceDue := by simp [State.setFault]
@[simp] theorem State.setFault_meter : s.setFault.meter = s.meter := by simp [State.setFault]
@[simp] theorem State.setFault_port_req : s.setFault.port.req = s.port.req := by simp [State.setFault]
@[simp] theorem State.setFault_port_heldBeat : s.setFault.port.heldBeat = s.port.heldBeat := by simp [State.setFault]
@[simp] theorem State.setFault_port_owed : s.setFault.port.owed = s.port.owed := by simp [State.setFault]
@[simp] theorem State.setFault_port_holder : s.setFault.port.holder = s.port.holder := by simp [State.setFault]
@[simp] theorem State.setFault_port_members : s.setFault.port.members = s.port.members := by simp [State.setFault]
@[simp] theorem State.setFault_port_alertEnd : s.setFault.port.alertEnd = s.port.alertEnd := by simp [State.setFault]
@[simp] theorem State.setFault_port_toProcessor : s.setFault.port.toProcessor = s.port.toProcessor := by simp [State.setFault]
@[simp] theorem State.setFault_port_toMemory : s.setFault.port.toMemory = s.port.toMemory := by simp [State.setFault]
@[simp] theorem State.setFault_ctl_quiet : s.setFault.ctl.quiet = s.ctl.quiet := by simp [State.setFault]
@[simp] theorem State.setFault_ctl_ringBase : s.setFault.ctl.ringBase = s.ctl.ringBase := by simp [State.setFault]
@[simp] theorem State.setFault_ctl_ringCapacity : s.setFault.ctl.ringCapacity = s.ctl.ringCapacity := by simp [State.setFault]
@[simp] theorem State.setFault_ctl_consumer : s.setFault.ctl.consumer = s.ctl.consumer := by simp [State.setFault]
@[simp] theorem State.setFault_ctl_parityCount : s.setFault.ctl.parityCount = s.ctl.parityCount := by simp [State.setFault]
@[simp] theorem State.setFault_ctl_time : s.setFault.ctl.time = s.ctl.time := by simp [State.setFault]
@[simp] theorem State.setFault_ctl_nextTick : s.setFault.ctl.nextTick = s.ctl.nextTick := by simp [State.setFault]
@[simp] theorem State.setFault_ctl_params : s.setFault.ctl.params = s.ctl.params := by simp [State.setFault]
@[simp] theorem State.setFault_strip (j : StripId) : s.setFault.strip j = s.strip j :=
  State.strip_congr (State.setFault_strips s ) j
@[simp] theorem State.setFault_chan (d : ChanId) : s.setFault.chan d = s.chan d :=
  State.chan_congr (State.setFault_chans s ) d
@[simp] theorem State.setFault_home (d : ChanId) : s.setFault.home d = s.home d :=
  State.home_congr (State.setFault_windows s ) d
@[simp] theorem State.setFault_param (p : Param) : s.setFault.param p = s.param p := by simp [State.param]

end Sys2Proof.Machine
end

