-- ==== Sys2Proof/Laws/Motion.lean ====
section
/-!
SUPPORT. What the operations on strip records and the start queue leave unchanged, and what entering a state does.
-/

namespace Sys2Proof.Machine

open Sys2Proof

variable (s : State)

/-! ## dropStart -/

@[simp] theorem State.dropStart_pending (i : StripId) : (s.dropStart i).pending = s.pending := by simp [State.dropStart]
@[simp] theorem State.dropStart_clock (i : StripId) : (s.dropStart i).clock = s.clock := by simp [State.dropStart]
@[simp] theorem State.dropStart_inReset (i : StripId) : (s.dropStart i).inReset = s.inReset := by simp [State.dropStart]
@[simp] theorem State.dropStart_strap (i : StripId) : (s.dropStart i).strap = s.strap := by simp [State.dropStart]
@[simp] theorem State.dropStart_port (i : StripId) : (s.dropStart i).port = s.port := by simp [State.dropStart]
@[simp] theorem State.dropStart_windows (i : StripId) : (s.dropStart i).windows = s.windows := by simp [State.dropStart]
@[simp] theorem State.dropStart_chans (i : StripId) : (s.dropStart i).chans = s.chans := by simp [State.dropStart]
@[simp] theorem State.dropStart_taper (i : StripId) : (s.dropStart i).taper = s.taper := by simp [State.dropStart]
@[simp] theorem State.dropStart_strips (i : StripId) : (s.dropStart i).strips = s.strips := by simp [State.dropStart]
@[simp] theorem State.dropStart_layers (i : StripId) : (s.dropStart i).layers = s.layers := by simp [State.dropStart]
@[simp] theorem State.dropStart_sliceDue (i : StripId) : (s.dropStart i).sliceDue = s.sliceDue := by simp [State.dropStart]
@[simp] theorem State.dropStart_meter (i : StripId) : (s.dropStart i).meter = s.meter := by simp [State.dropStart]
@[simp] theorem State.dropStart_ctl (i : StripId) : (s.dropStart i).ctl = s.ctl := by simp [State.dropStart]
@[simp] theorem State.dropStart_strip (i : StripId) (j : StripId) : (s.dropStart i).strip j = s.strip j :=
  State.strip_congr (State.dropStart_strips s i) j
@[simp] theorem State.dropStart_chan (i : StripId) (d : ChanId) : (s.dropStart i).chan d = s.chan d :=
  State.chan_congr (State.dropStart_chans s i) d
@[simp] theorem State.dropStart_home (i : StripId) (d : ChanId) : (s.dropStart i).home d = s.home d :=
  State.home_congr (State.dropStart_windows s i) d
@[simp] theorem State.dropStart_param (i : StripId) (p : Param) : (s.dropStart i).param p = s.param p := by simp [State.param]

/-! ## toCalibrate -/

@[simp] theorem State.toCalibrate_pending (i : StripId) : (s.toCalibrate i).pending = s.pending := by simp [State.toCalibrate]
@[simp] theorem State.toCalibrate_clock (i : StripId) : (s.toCalibrate i).clock = s.clock := by simp [State.toCalibrate]
@[simp] theorem State.toCalibrate_inReset (i : StripId) : (s.toCalibrate i).inReset = s.inReset := by simp [State.toCalibrate]
@[simp] theorem State.toCalibrate_strap (i : StripId) : (s.toCalibrate i).strap = s.strap := by simp [State.toCalibrate]
@[simp] theorem State.toCalibrate_port (i : StripId) : (s.toCalibrate i).port = s.port := by simp [State.toCalibrate]
@[simp] theorem State.toCalibrate_windows (i : StripId) : (s.toCalibrate i).windows = s.windows := by simp [State.toCalibrate]
@[simp] theorem State.toCalibrate_chans (i : StripId) : (s.toCalibrate i).chans = s.chans := by simp [State.toCalibrate]
@[simp] theorem State.toCalibrate_taper (i : StripId) : (s.toCalibrate i).taper = s.taper := by simp [State.toCalibrate]
@[simp] theorem State.toCalibrate_strips (i : StripId) : (s.toCalibrate i).strips = s.strips := by simp [State.toCalibrate]
@[simp] theorem State.toCalibrate_layers (i : StripId) : (s.toCalibrate i).layers = s.layers := by simp [State.toCalibrate]
@[simp] theorem State.toCalibrate_sliceDue (i : StripId) : (s.toCalibrate i).sliceDue = s.sliceDue := by simp [State.toCalibrate]
@[simp] theorem State.toCalibrate_meter (i : StripId) : (s.toCalibrate i).meter = s.meter := by simp [State.toCalibrate]
@[simp] theorem State.toCalibrate_ctl (i : StripId) : (s.toCalibrate i).ctl = s.ctl := by simp [State.toCalibrate]
@[simp] theorem State.toCalibrate_strip (i : StripId) (j : StripId) : (s.toCalibrate i).strip j = s.strip j :=
  State.strip_congr (State.toCalibrate_strips s i) j
@[simp] theorem State.toCalibrate_chan (i : StripId) (d : ChanId) : (s.toCalibrate i).chan d = s.chan d :=
  State.chan_congr (State.toCalibrate_chans s i) d
@[simp] theorem State.toCalibrate_home (i : StripId) (d : ChanId) : (s.toCalibrate i).home d = s.home d :=
  State.home_congr (State.toCalibrate_windows s i) d
@[simp] theorem State.toCalibrate_param (i : StripId) (p : Param) : (s.toCalibrate i).param p = s.param p := by simp [State.param]

/-! ## noteActivity -/

@[simp] theorem State.noteActivity_pending (g : GroupId) (b : Bool) : (s.noteActivity g b).pending = s.pending := by
  unfold State.noteActivity; try dsimp only
  (repeat' split) <;> simp
@[simp] theorem State.noteActivity_clock (g : GroupId) (b : Bool) : (s.noteActivity g b).clock = s.clock := by
  unfold State.noteActivity; try dsimp only
  (repeat' split) <;> simp
@[simp] theorem State.noteActivity_inReset (g : GroupId) (b : Bool) : (s.noteActivity g b).inReset = s.inReset := by
  unfold State.noteActivity; try dsimp only
  (repeat' split) <;> simp
@[simp] theorem State.noteActivity_strap (g : GroupId) (b : Bool) : (s.noteActivity g b).strap = s.strap := by
  unfold State.noteActivity; try dsimp only
  (repeat' split) <;> simp
@[simp] theorem State.noteActivity_port (g : GroupId) (b : Bool) : (s.noteActivity g b).port = s.port := by
  unfold State.noteActivity; try dsimp only
  (repeat' split) <;> simp
@[simp] theorem State.noteActivity_windows (g : GroupId) (b : Bool) : (s.noteActivity g b).windows = s.windows := by
  unfold State.noteActivity; try dsimp only
  (repeat' split) <;> simp
@[simp] theorem State.noteActivity_chans (g : GroupId) (b : Bool) : (s.noteActivity g b).chans = s.chans := by
  unfold State.noteActivity; try dsimp only
  (repeat' split) <;> simp
@[simp] theorem State.noteActivity_taper (g : GroupId) (b : Bool) : (s.noteActivity g b).taper = s.taper := by
  unfold State.noteActivity; try dsimp only
  (repeat' split) <;> simp
@[simp] theorem State.noteActivity_strips (g : GroupId) (b : Bool) : (s.noteActivity g b).strips = s.strips := by
  unfold State.noteActivity; try dsimp only
  (repeat' split) <;> simp
@[simp] theorem State.noteActivity_layers (g : GroupId) (b : Bool) : (s.noteActivity g b).layers = s.layers := by
  unfold State.noteActivity; try dsimp only
  (repeat' split) <;> simp
@[simp] theorem State.noteActivity_sliceDue (g : GroupId) (b : Bool) : (s.noteActivity g b).sliceDue = s.sliceDue := by
  unfold State.noteActivity; try dsimp only
  (repeat' split) <;> simp
@[simp] theorem State.noteActivity_meter (g : GroupId) (b : Bool) : (s.noteActivity g b).meter = s.meter := by
  unfold State.noteActivity; try dsimp only
  (repeat' split) <;> simp
@[simp] theorem State.noteActivity_ctl (g : GroupId) (b : Bool) : (s.noteActivity g b).ctl = s.ctl := by
  unfold State.noteActivity; try dsimp only
  (repeat' split) <;> simp
@[simp] theorem State.noteActivity_strip (g : GroupId) (b : Bool) (j : StripId) : (s.noteActivity g b).strip j = s.strip j :=
  State.strip_congr (State.noteActivity_strips s g b) j
@[simp] theorem State.noteActivity_chan (g : GroupId) (b : Bool) (d : ChanId) : (s.noteActivity g b).chan d = s.chan d :=
  State.chan_congr (State.noteActivity_chans s g b) d
@[simp] theorem State.noteActivity_home (g : GroupId) (b : Bool) (d : ChanId) : (s.noteActivity g b).home d = s.home d :=
  State.home_congr (State.noteActivity_windows s g b) d
@[simp] theorem State.noteActivity_param (g : GroupId) (b : Bool) (p : Param) : (s.noteActivity g b).param p = s.param p := by simp [State.param]

/-! ## wakeRail -/

@[simp] theorem State.wakeRail_pending (g : GroupId) : (s.wakeRail g).pending = s.pending := by
  unfold State.wakeRail; try dsimp only
  split <;> simp
@[simp] theorem State.wakeRail_clock (g : GroupId) : (s.wakeRail g).clock = s.clock := by
  unfold State.wakeRail; try dsimp only
  split <;> simp
@[simp] theorem State.wakeRail_inReset (g : GroupId) : (s.wakeRail g).inReset = s.inReset := by
  unfold State.wakeRail; try dsimp only
  split <;> simp
@[simp] theorem State.wakeRail_strap (g : GroupId) : (s.wakeRail g).strap = s.strap := by
  unfold State.wakeRail; try dsimp only
  split <;> simp
@[simp] theorem State.wakeRail_port (g : GroupId) : (s.wakeRail g).port = s.port := by
  unfold State.wakeRail; try dsimp only
  split <;> simp
@[simp] theorem State.wakeRail_windows (g : GroupId) : (s.wakeRail g).windows = s.windows := by
  unfold State.wakeRail; try dsimp only
  split <;> simp
@[simp] theorem State.wakeRail_chans (g : GroupId) : (s.wakeRail g).chans = s.chans := by
  unfold State.wakeRail; try dsimp only
  split <;> simp
@[simp] theorem State.wakeRail_taper (g : GroupId) : (s.wakeRail g).taper = s.taper := by
  unfold State.wakeRail; try dsimp only
  split <;> simp
@[simp] theorem State.wakeRail_strips (g : GroupId) : (s.wakeRail g).strips = s.strips := by
  unfold State.wakeRail; try dsimp only
  split <;> simp
@[simp] theorem State.wakeRail_layers (g : GroupId) : (s.wakeRail g).layers = s.layers := by
  unfold State.wakeRail; try dsimp only
  split <;> simp
@[simp] theorem State.wakeRail_sliceDue (g : GroupId) : (s.wakeRail g).sliceDue = s.sliceDue := by
  unfold State.wakeRail; try dsimp only
  split <;> simp
@[simp] theorem State.wakeRail_meter (g : GroupId) : (s.wakeRail g).meter = s.meter := by
  unfold State.wakeRail; try dsimp only
  split <;> simp
@[simp] theorem State.wakeRail_ctl (g : GroupId) : (s.wakeRail g).ctl = s.ctl := by
  unfold State.wakeRail; try dsimp only
  split <;> simp
@[simp] theorem State.wakeRail_strip (g : GroupId) (j : StripId) : (s.wakeRail g).strip j = s.strip j :=
  State.strip_congr (State.wakeRail_strips s g) j
@[simp] theorem State.wakeRail_chan (g : GroupId) (d : ChanId) : (s.wakeRail g).chan d = s.chan d :=
  State.chan_congr (State.wakeRail_chans s g) d
@[simp] theorem State.wakeRail_home (g : GroupId) (d : ChanId) : (s.wakeRail g).home d = s.home d :=
  State.home_congr (State.wakeRail_windows s g) d
@[simp] theorem State.wakeRail_param (g : GroupId) (p : Param) : (s.wakeRail g).param p = s.param p := by simp [State.param]

theorem State.enter_cases (i : StripId) (dest : Motion) :
    ∃ d, s.enter i dest = { s.modStrip i (fun p => p.enter dest s.ctl.time) with drive := d } := by
  unfold State.enter State.noteActivity
  dsimp only
  repeat' split
  all_goals exact ⟨_, rfl⟩

/-! ## enter -/

@[simp] theorem State.enter_pending (i : StripId) (dest : Motion) : (s.enter i dest).pending = s.pending := by
  obtain ⟨d, h⟩ := s.enter_cases i dest; rw [h]; rfl
@[simp] theorem State.enter_clock (i : StripId) (dest : Motion) : (s.enter i dest).clock = s.clock := by
  obtain ⟨d, h⟩ := s.enter_cases i dest; rw [h]; rfl
@[simp] theorem State.enter_inReset (i : StripId) (dest : Motion) : (s.enter i dest).inReset = s.inReset := by
  obtain ⟨d, h⟩ := s.enter_cases i dest; rw [h]; rfl
@[simp] theorem State.enter_strap (i : StripId) (dest : Motion) : (s.enter i dest).strap = s.strap := by
  obtain ⟨d, h⟩ := s.enter_cases i dest; rw [h]; rfl
@[simp] theorem State.enter_port (i : StripId) (dest : Motion) : (s.enter i dest).port = s.port := by
  obtain ⟨d, h⟩ := s.enter_cases i dest; rw [h]; rfl
@[simp] theorem State.enter_windows (i : StripId) (dest : Motion) : (s.enter i dest).windows = s.windows := by
  obtain ⟨d, h⟩ := s.enter_cases i dest; rw [h]; rfl
@[simp] theorem State.enter_chans (i : StripId) (dest : Motion) : (s.enter i dest).chans = s.chans := by
  obtain ⟨d, h⟩ := s.enter_cases i dest; rw [h]; rfl
@[simp] theorem State.enter_taper (i : StripId) (dest : Motion) : (s.enter i dest).taper = s.taper := by
  obtain ⟨d, h⟩ := s.enter_cases i dest; rw [h]; rfl
@[simp] theorem State.enter_layers (i : StripId) (dest : Motion) : (s.enter i dest).layers = s.layers := by
  obtain ⟨d, h⟩ := s.enter_cases i dest; rw [h]; rfl
@[simp] theorem State.enter_sliceDue (i : StripId) (dest : Motion) : (s.enter i dest).sliceDue = s.sliceDue := by
  obtain ⟨d, h⟩ := s.enter_cases i dest; rw [h]; rfl
@[simp] theorem State.enter_meter (i : StripId) (dest : Motion) : (s.enter i dest).meter = s.meter := by
  obtain ⟨d, h⟩ := s.enter_cases i dest; rw [h]; rfl
@[simp] theorem State.enter_ctl (i : StripId) (dest : Motion) : (s.enter i dest).ctl = s.ctl := by
  obtain ⟨d, h⟩ := s.enter_cases i dest; rw [h]; rfl
@[simp] theorem State.enter_strips (i : StripId) (dest : Motion) :
    (s.enter i dest).strips = s.strips.set i.val ((s.strip i).enter dest s.ctl.time) := by
  obtain ⟨d, h⟩ := s.enter_cases i dest; rw [h]; rfl
@[simp] theorem State.enter_strip_self (i : StripId) (dest : Motion) :
    (s.enter i dest).strip i = (s.strip i).enter dest s.ctl.time := by simp [State.strip]
@[simp] theorem State.enter_strip_ne {i j : StripId} (h : j ≠ i) (dest : Motion) :
    (s.enter i dest).strip j = s.strip j := by
  have n : i.val ≠ j.val := fun e => h (Fin.ext e.symm)
  simp [State.strip, Vector.getElem_set_ne, n]
@[simp] theorem State.enter_chan (i : StripId) (dest : Motion) (d : ChanId) :
    (s.enter i dest).chan d = s.chan d := by simp [State.chan]
@[simp] theorem State.enter_home (i : StripId) (dest : Motion) (d : ChanId) :
    (s.enter i dest).home d = s.home d := by simp [State.home]
@[simp] theorem State.enter_param (i : StripId) (dest : Motion) (p : Param) :
    (s.enter i dest).param p = s.param p := by simp [State.param]

/-! ## joinStart -/

@[simp] theorem State.joinStart_pending (i : StripId) (u : Purpose) : (s.joinStart i u).pending = s.pending := by simp [State.joinStart]
@[simp] theorem State.joinStart_clock (i : StripId) (u : Purpose) : (s.joinStart i u).clock = s.clock := by simp [State.joinStart]
@[simp] theorem State.joinStart_inReset (i : StripId) (u : Purpose) : (s.joinStart i u).inReset = s.inReset := by simp [State.joinStart]
@[simp] theorem State.joinStart_strap (i : StripId) (u : Purpose) : (s.joinStart i u).strap = s.strap := by simp [State.joinStart]
@[simp] theorem State.joinStart_port (i : StripId) (u : Purpose) : (s.joinStart i u).port = s.port := by simp [State.joinStart]
@[simp] theorem State.joinStart_windows (i : StripId) (u : Purpose) : (s.joinStart i u).windows = s.windows := by simp [State.joinStart]
@[simp] theorem State.joinStart_chans (i : StripId) (u : Purpose) : (s.joinStart i u).chans = s.chans := by simp [State.joinStart]
@[simp] theorem State.joinStart_taper (i : StripId) (u : Purpose) : (s.joinStart i u).taper = s.taper := by simp [State.joinStart]
@[simp] theorem State.joinStart_layers (i : StripId) (u : Purpose) : (s.joinStart i u).layers = s.layers := by simp [State.joinStart]
@[simp] theorem State.joinStart_sliceDue (i : StripId) (u : Purpose) : (s.joinStart i u).sliceDue = s.sliceDue := by simp [State.joinStart]
@[simp] theorem State.joinStart_meter (i : StripId) (u : Purpose) : (s.joinStart i u).meter = s.meter := by simp [State.joinStart]
@[simp] theorem State.joinStart_ctl (i : StripId) (u : Purpose) : (s.joinStart i u).ctl = s.ctl := by simp [State.joinStart]
@[simp] theorem State.joinStart_chan (i : StripId) (u : Purpose) (d : ChanId) : (s.joinStart i u).chan d = s.chan d :=
  State.chan_congr (State.joinStart_chans s i u) d
@[simp] theorem State.joinStart_home (i : StripId) (u : Purpose) (d : ChanId) : (s.joinStart i u).home d = s.home d :=
  State.home_congr (State.joinStart_windows s i u) d
@[simp] theorem State.joinStart_param (i : StripId) (u : Purpose) (p : Param) : (s.joinStart i u).param p = s.param p := by simp [State.param]

@[simp] theorem State.joinStart_strip_self (i : StripId) (u : Purpose) :
    (s.joinStart i u).strip i = (s.strip i).enter .queued s.ctl.time := by simp [State.joinStart]
@[simp] theorem State.joinStart_strip_ne {i j : StripId} (h : j ≠ i) (u : Purpose) :
    (s.joinStart i u).strip j = s.strip j := by simp [State.joinStart, h]

/-! ## recalAtRest -/

@[simp] theorem State.recalAtRest_pending (i : StripId) : (s.recalAtRest i).pending = s.pending := by
  unfold State.recalAtRest; try dsimp only
  split <;> simp
@[simp] theorem State.recalAtRest_clock (i : StripId) : (s.recalAtRest i).clock = s.clock := by
  unfold State.recalAtRest; try dsimp only
  split <;> simp
@[simp] theorem State.recalAtRest_inReset (i : StripId) : (s.recalAtRest i).inReset = s.inReset := by
  unfold State.recalAtRest; try dsimp only
  split <;> simp
@[simp] theorem State.recalAtRest_strap (i : StripId) : (s.recalAtRest i).strap = s.strap := by
  unfold State.recalAtRest; try dsimp only
  split <;> simp
@[simp] theorem State.recalAtRest_port (i : StripId) : (s.recalAtRest i).port = s.port := by
  unfold State.recalAtRest; try dsimp only
  split <;> simp
@[simp] theorem State.recalAtRest_windows (i : StripId) : (s.recalAtRest i).windows = s.windows := by
  unfold State.recalAtRest; try dsimp only
  split <;> simp
@[simp] theorem State.recalAtRest_chans (i : StripId) : (s.recalAtRest i).chans = s.chans := by
  unfold State.recalAtRest; try dsimp only
  split <;> simp
@[simp] theorem State.recalAtRest_taper (i : StripId) : (s.recalAtRest i).taper = s.taper := by
  unfold State.recalAtRest; try dsimp only
  split <;> simp
@[simp] theorem State.recalAtRest_layers (i : StripId) : (s.recalAtRest i).layers = s.layers := by
  unfold State.recalAtRest; try dsimp only
  split <;> simp
@[simp] theorem State.recalAtRest_sliceDue (i : StripId) : (s.recalAtRest i).sliceDue = s.sliceDue := by
  unfold State.recalAtRest; try dsimp only
  split <;> simp
@[simp] theorem State.recalAtRest_meter (i : StripId) : (s.recalAtRest i).meter = s.meter := by
  unfold State.recalAtRest; try dsimp only
  split <;> simp
@[simp] theorem State.recalAtRest_ctl (i : StripId) : (s.recalAtRest i).ctl = s.ctl := by
  unfold State.recalAtRest; try dsimp only
  split <;> simp
@[simp] theorem State.recalAtRest_chan (i : StripId) (d : ChanId) : (s.recalAtRest i).chan d = s.chan d :=
  State.chan_congr (State.recalAtRest_chans s i) d
@[simp] theorem State.recalAtRest_home (i : StripId) (d : ChanId) : (s.recalAtRest i).home d = s.home d :=
  State.home_congr (State.recalAtRest_windows s i) d
@[simp] theorem State.recalAtRest_param (i : StripId) (p : Param) : (s.recalAtRest i).param p = s.param p := by simp [State.param]

@[simp] theorem State.recalAtRest_strip_ne {i j : StripId} (h : j ≠ i) : (s.recalAtRest i).strip j = s.strip j := by
  unfold State.recalAtRest; dsimp only; split <;> simp [h]

/-! ## actOnRecal -/

@[simp] theorem State.actOnRecal_pending (i : StripId) : (s.actOnRecal i).pending = s.pending := by
  unfold State.actOnRecal; try dsimp only
  (repeat' split) <;> simp
@[simp] theorem State.actOnRecal_clock (i : StripId) : (s.actOnRecal i).clock = s.clock := by
  unfold State.actOnRecal; try dsimp only
  (repeat' split) <;> simp
@[simp] theorem State.actOnRecal_inReset (i : StripId) : (s.actOnRecal i).inReset = s.inReset := by
  unfold State.actOnRecal; try dsimp only
  (repeat' split) <;> simp
@[simp] theorem State.actOnRecal_strap (i : StripId) : (s.actOnRecal i).strap = s.strap := by
  unfold State.actOnRecal; try dsimp only
  (repeat' split) <;> simp
@[simp] theorem State.actOnRecal_port (i : StripId) : (s.actOnRecal i).port = s.port := by
  unfold State.actOnRecal; try dsimp only
  (repeat' split) <;> simp
@[simp] theorem State.actOnRecal_windows (i : StripId) : (s.actOnRecal i).windows = s.windows := by
  unfold State.actOnRecal; try dsimp only
  (repeat' split) <;> simp
@[simp] theorem State.actOnRecal_chans (i : StripId) : (s.actOnRecal i).chans = s.chans := by
  unfold State.actOnRecal; try dsimp only
  (repeat' split) <;> simp
@[simp] theorem State.actOnRecal_taper (i : StripId) : (s.actOnRecal i).taper = s.taper := by
  unfold State.actOnRecal; try dsimp only
  (repeat' split) <;> simp
@[simp] theorem State.actOnRecal_layers (i : StripId) : (s.actOnRecal i).layers = s.layers := by
  unfold State.actOnRecal; try dsimp only
  (repeat' split) <;> simp
@[simp] theorem State.actOnRecal_sliceDue (i : StripId) : (s.actOnRecal i).sliceDue = s.sliceDue := by
  unfold State.actOnRecal; try dsimp only
  (repeat' split) <;> simp
@[simp] theorem State.actOnRecal_meter (i : StripId) : (s.actOnRecal i).meter = s.meter := by
  unfold State.actOnRecal; try dsimp only
  (repeat' split) <;> simp
@[simp] theorem State.actOnRecal_ctl (i : StripId) : (s.actOnRecal i).ctl = s.ctl := by
  unfold State.actOnRecal; try dsimp only
  (repeat' split) <;> simp
@[simp] theorem State.actOnRecal_chan (i : StripId) (d : ChanId) : (s.actOnRecal i).chan d = s.chan d :=
  State.chan_congr (State.actOnRecal_chans s i) d
@[simp] theorem State.actOnRecal_home (i : StripId) (d : ChanId) : (s.actOnRecal i).home d = s.home d :=
  State.home_congr (State.actOnRecal_windows s i) d
@[simp] theorem State.actOnRecal_param (i : StripId) (p : Param) : (s.actOnRecal i).param p = s.param p := by simp [State.param]

@[simp] theorem State.actOnRecal_strip_ne {i j : StripId} (h : j ≠ i) : (s.actOnRecal i).strip j = s.strip j := by
  unfold State.actOnRecal; dsimp only; (repeat' split) <;> simp [h]

/-! ## setRecal -/

@[simp] theorem State.setRecal_pending (i : StripId) : (s.setRecal i).pending = s.pending := by simp [State.setRecal]
@[simp] theorem State.setRecal_clock (i : StripId) : (s.setRecal i).clock = s.clock := by simp [State.setRecal]
@[simp] theorem State.setRecal_inReset (i : StripId) : (s.setRecal i).inReset = s.inReset := by simp [State.setRecal]
@[simp] theorem State.setRecal_strap (i : StripId) : (s.setRecal i).strap = s.strap := by simp [State.setRecal]
@[simp] theorem State.setRecal_port (i : StripId) : (s.setRecal i).port = s.port := by simp [State.setRecal]
@[simp] theorem State.setRecal_windows (i : StripId) : (s.setRecal i).windows = s.windows := by simp [State.setRecal]
@[simp] theorem State.setRecal_chans (i : StripId) : (s.setRecal i).chans = s.chans := by simp [State.setRecal]
@[simp] theorem State.setRecal_taper (i : StripId) : (s.setRecal i).taper = s.taper := by simp [State.setRecal]
@[simp] theorem State.setRecal_layers (i : StripId) : (s.setRecal i).layers = s.layers := by simp [State.setRecal]
@[simp] theorem State.setRecal_sliceDue (i : StripId) : (s.setRecal i).sliceDue = s.sliceDue := by simp [State.setRecal]
@[simp] theorem State.setRecal_meter (i : StripId) : (s.setRecal i).meter = s.meter := by simp [State.setRecal]
@[simp] theorem State.setRecal_ctl (i : StripId) : (s.setRecal i).ctl = s.ctl := by simp [State.setRecal]
@[simp] theorem State.setRecal_chan (i : StripId) (d : ChanId) : (s.setRecal i).chan d = s.chan d :=
  State.chan_congr (State.setRecal_chans s i) d
@[simp] theorem State.setRecal_home (i : StripId) (d : ChanId) : (s.setRecal i).home d = s.home d :=
  State.home_congr (State.setRecal_windows s i) d
@[simp] theorem State.setRecal_param (i : StripId) (p : Param) : (s.setRecal i).param p = s.param p := by simp [State.param]

@[simp] theorem State.setRecal_strip_ne {i j : StripId} (h : j ≠ i) : (s.setRecal i).strip j = s.strip j := by simp [State.setRecal, h]

/-! ## rest -/

@[simp] theorem State.rest_pending (i : StripId) : (s.rest i).pending = s.pending := by simp [State.rest]
@[simp] theorem State.rest_clock (i : StripId) : (s.rest i).clock = s.clock := by simp [State.rest]
@[simp] theorem State.rest_inReset (i : StripId) : (s.rest i).inReset = s.inReset := by simp [State.rest]
@[simp] theorem State.rest_strap (i : StripId) : (s.rest i).strap = s.strap := by simp [State.rest]
@[simp] theorem State.rest_port (i : StripId) : (s.rest i).port = s.port := by simp [State.rest]
@[simp] theorem State.rest_windows (i : StripId) : (s.rest i).windows = s.windows := by simp [State.rest]
@[simp] theorem State.rest_chans (i : StripId) : (s.rest i).chans = s.chans := by simp [State.rest]
@[simp] theorem State.rest_taper (i : StripId) : (s.rest i).taper = s.taper := by simp [State.rest]
@[simp] theorem State.rest_layers (i : StripId) : (s.rest i).layers = s.layers := by simp [State.rest]
@[simp] theorem State.rest_sliceDue (i : StripId) : (s.rest i).sliceDue = s.sliceDue := by simp [State.rest]
@[simp] theorem State.rest_meter (i : StripId) : (s.rest i).meter = s.meter := by simp [State.rest]
@[simp] theorem State.rest_ctl (i : StripId) : (s.rest i).ctl = s.ctl := by simp [State.rest]
@[simp] theorem State.rest_chan (i : StripId) (d : ChanId) : (s.rest i).chan d = s.chan d :=
  State.chan_congr (State.rest_chans s i) d
@[simp] theorem State.rest_home (i : StripId) (d : ChanId) : (s.rest i).home d = s.home d :=
  State.home_congr (State.rest_windows s i) d
@[simp] theorem State.rest_param (i : StripId) (p : Param) : (s.rest i).param p = s.param p := by simp [State.param]

@[simp] theorem State.rest_strip_ne {i j : StripId} (h : j ≠ i) : (s.rest i).strip j = s.strip j := by simp [State.rest, h]

/-! ## queueMove -/

@[simp] theorem State.queueMove_pending (i : StripId) : (s.queueMove i).pending = s.pending := by simp [State.queueMove]
@[simp] theorem State.queueMove_clock (i : StripId) : (s.queueMove i).clock = s.clock := by simp [State.queueMove]
@[simp] theorem State.queueMove_inReset (i : StripId) : (s.queueMove i).inReset = s.inReset := by simp [State.queueMove]
@[simp] theorem State.queueMove_strap (i : StripId) : (s.queueMove i).strap = s.strap := by simp [State.queueMove]
@[simp] theorem State.queueMove_port (i : StripId) : (s.queueMove i).port = s.port := by simp [State.queueMove]
@[simp] theorem State.queueMove_windows (i : StripId) : (s.queueMove i).windows = s.windows := by simp [State.queueMove]
@[simp] theorem State.queueMove_chans (i : StripId) : (s.queueMove i).chans = s.chans := by simp [State.queueMove]
@[simp] theorem State.queueMove_taper (i : StripId) : (s.queueMove i).taper = s.taper := by simp [State.queueMove]
@[simp] theorem State.queueMove_layers (i : StripId) : (s.queueMove i).layers = s.layers := by simp [State.queueMove]
@[simp] theorem State.queueMove_sliceDue (i : StripId) : (s.queueMove i).sliceDue = s.sliceDue := by simp [State.queueMove]
@[simp] theorem State.queueMove_meter (i : StripId) : (s.queueMove i).meter = s.meter := by simp [State.queueMove]
@[simp] theorem State.queueMove_ctl (i : StripId) : (s.queueMove i).ctl = s.ctl := by simp [State.queueMove]
@[simp] theorem State.queueMove_chan (i : StripId) (d : ChanId) : (s.queueMove i).chan d = s.chan d :=
  State.chan_congr (State.queueMove_chans s i) d
@[simp] theorem State.queueMove_home (i : StripId) (d : ChanId) : (s.queueMove i).home d = s.home d :=
  State.home_congr (State.queueMove_windows s i) d
@[simp] theorem State.queueMove_param (i : StripId) (p : Param) : (s.queueMove i).param p = s.param p := by simp [State.param]

@[simp] theorem State.queueMove_strip_ne {i j : StripId} (h : j ≠ i) : (s.queueMove i).strip j = s.strip j := by simp [State.queueMove, h]

/-! ## retarget -/

@[simp] theorem State.retarget_pending (i : StripId) (old new : Nat) : (s.retarget i old new).pending = s.pending := by
  unfold State.retarget; try dsimp only
  (repeat' split) <;> simp
@[simp] theorem State.retarget_clock (i : StripId) (old new : Nat) : (s.retarget i old new).clock = s.clock := by
  unfold State.retarget; try dsimp only
  (repeat' split) <;> simp
@[simp] theorem State.retarget_inReset (i : StripId) (old new : Nat) : (s.retarget i old new).inReset = s.inReset := by
  unfold State.retarget; try dsimp only
  (repeat' split) <;> simp
@[simp] theorem State.retarget_strap (i : StripId) (old new : Nat) : (s.retarget i old new).strap = s.strap := by
  unfold State.retarget; try dsimp only
  (repeat' split) <;> simp
@[simp] theorem State.retarget_port (i : StripId) (old new : Nat) : (s.retarget i old new).port = s.port := by
  unfold State.retarget; try dsimp only
  (repeat' split) <;> simp
@[simp] theorem State.retarget_windows (i : StripId) (old new : Nat) : (s.retarget i old new).windows = s.windows := by
  unfold State.retarget; try dsimp only
  (repeat' split) <;> simp
@[simp] theorem State.retarget_chans (i : StripId) (old new : Nat) : (s.retarget i old new).chans = s.chans := by
  unfold State.retarget; try dsimp only
  (repeat' split) <;> simp
@[simp] theorem State.retarget_taper (i : StripId) (old new : Nat) : (s.retarget i old new).taper = s.taper := by
  unfold State.retarget; try dsimp only
  (repeat' split) <;> simp
@[simp] theorem State.retarget_layers (i : StripId) (old new : Nat) : (s.retarget i old new).layers = s.layers := by
  unfold State.retarget; try dsimp only
  (repeat' split) <;> simp
@[simp] theorem State.retarget_sliceDue (i : StripId) (old new : Nat) : (s.retarget i old new).sliceDue = s.sliceDue := by
  unfold State.retarget; try dsimp only
  (repeat' split) <;> simp
@[simp] theorem State.retarget_meter (i : StripId) (old new : Nat) : (s.retarget i old new).meter = s.meter := by
  unfold State.retarget; try dsimp only
  (repeat' split) <;> simp
@[simp] theorem State.retarget_ctl (i : StripId) (old new : Nat) : (s.retarget i old new).ctl = s.ctl := by
  unfold State.retarget; try dsimp only
  (repeat' split) <;> simp
@[simp] theorem State.retarget_chan (i : StripId) (old new : Nat) (d : ChanId) : (s.retarget i old new).chan d = s.chan d :=
  State.chan_congr (State.retarget_chans s i old new) d
@[simp] theorem State.retarget_home (i : StripId) (old new : Nat) (d : ChanId) : (s.retarget i old new).home d = s.home d :=
  State.home_congr (State.retarget_windows s i old new) d
@[simp] theorem State.retarget_param (i : StripId) (old new : Nat) (p : Param) : (s.retarget i old new).param p = s.param p := by simp [State.param]

@[simp] theorem State.retarget_strip_ne {i j : StripId} (h : j ≠ i) (old new : Nat) : (s.retarget i old new).strip j = s.strip j := by
  unfold State.retarget; dsimp only; (repeat' split) <;> simp [h]

/-! ## arrive -/

@[simp] theorem State.arrive_pending (i : StripId) (code : Code) (travel : Nat) (c : ChanId) : (s.arrive i code travel c).pending = s.pending := by
  unfold State.arrive; dsimp only; (repeat' split) <;> simp
@[simp] theorem State.arrive_clock (i : StripId) (code : Code) (travel : Nat) (c : ChanId) : (s.arrive i code travel c).clock = s.clock := by
  unfold State.arrive; dsimp only; (repeat' split) <;> simp
@[simp] theorem State.arrive_inReset (i : StripId) (code : Code) (travel : Nat) (c : ChanId) : (s.arrive i code travel c).inReset = s.inReset := by
  unfold State.arrive; dsimp only; (repeat' split) <;> simp
@[simp] theorem State.arrive_strap (i : StripId) (code : Code) (travel : Nat) (c : ChanId) : (s.arrive i code travel c).strap = s.strap := by
  unfold State.arrive; dsimp only; (repeat' split) <;> simp
@[simp] theorem State.arrive_port (i : StripId) (code : Code) (travel : Nat) (c : ChanId) : (s.arrive i code travel c).port = s.port := by
  unfold State.arrive; dsimp only; (repeat' split) <;> simp
@[simp] theorem State.arrive_windows (i : StripId) (code : Code) (travel : Nat) (c : ChanId) : (s.arrive i code travel c).windows = s.windows := by
  unfold State.arrive; dsimp only; (repeat' split) <;> simp
@[simp] theorem State.arrive_chans (i : StripId) (code : Code) (travel : Nat) (c : ChanId) : (s.arrive i code travel c).chans = s.chans := by
  unfold State.arrive; dsimp only; (repeat' split) <;> simp
@[simp] theorem State.arrive_taper (i : StripId) (code : Code) (travel : Nat) (c : ChanId) : (s.arrive i code travel c).taper = s.taper := by
  unfold State.arrive; dsimp only; (repeat' split) <;> simp
@[simp] theorem State.arrive_layers (i : StripId) (code : Code) (travel : Nat) (c : ChanId) : (s.arrive i code travel c).layers = s.layers := by
  unfold State.arrive; dsimp only; (repeat' split) <;> simp
@[simp] theorem State.arrive_sliceDue (i : StripId) (code : Code) (travel : Nat) (c : ChanId) : (s.arrive i code travel c).sliceDue = s.sliceDue := by
  unfold State.arrive; dsimp only; (repeat' split) <;> simp
@[simp] theorem State.arrive_meter (i : StripId) (code : Code) (travel : Nat) (c : ChanId) : (s.arrive i code travel c).meter = s.meter := by
  unfold State.arrive; dsimp only; (repeat' split) <;> simp
@[simp] theorem State.arrive_ctl (i : StripId) (code : Code) (travel : Nat) (c : ChanId) : (s.arrive i code travel c).ctl = s.ctl := by
  unfold State.arrive; dsimp only; (repeat' split) <;> simp
@[simp] theorem State.arrive_chan (i : StripId) (code : Code) (travel : Nat) (c : ChanId) (d : ChanId) : (s.arrive i code travel c).chan d = s.chan d :=
  State.chan_congr (State.arrive_chans s i code travel c) d
@[simp] theorem State.arrive_home (i : StripId) (code : Code) (travel : Nat) (c : ChanId) (d : ChanId) : (s.arrive i code travel c).home d = s.home d :=
  State.home_congr (State.arrive_windows s i code travel c) d
@[simp] theorem State.arrive_param (i : StripId) (code : Code) (travel : Nat) (c : ChanId) (p : Param) : (s.arrive i code travel c).param p = s.param p := by simp [State.param]

@[simp] theorem State.arrive_strip_ne {i j : StripId} (h : j ≠ i) (code : Code) (travel : Nat) (c : ChanId) : (s.arrive i code travel c).strip j = s.strip j := by
  unfold State.arrive; dsimp only; (repeat' split) <;> simp [h]

/-! ## hold -/

@[simp] theorem State.hold_pending (i : StripId) : (s.hold i).pending = s.pending := by
  unfold State.hold; dsimp only; (repeat' split) <;> simp
@[simp] theorem State.hold_clock (i : StripId) : (s.hold i).clock = s.clock := by
  unfold State.hold; dsimp only; (repeat' split) <;> simp
@[simp] theorem State.hold_inReset (i : StripId) : (s.hold i).inReset = s.inReset := by
  unfold State.hold; dsimp only; (repeat' split) <;> simp
@[simp] theorem State.hold_strap (i : StripId) : (s.hold i).strap = s.strap := by
  unfold State.hold; dsimp only; (repeat' split) <;> simp
@[simp] theorem State.hold_port (i : StripId) : (s.hold i).port = s.port := by
  unfold State.hold; dsimp only; (repeat' split) <;> simp
@[simp] theorem State.hold_windows (i : StripId) : (s.hold i).windows = s.windows := by
  unfold State.hold; dsimp only; (repeat' split) <;> simp
@[simp] theorem State.hold_chans (i : StripId) : (s.hold i).chans = s.chans := by
  unfold State.hold; dsimp only; (repeat' split) <;> simp
@[simp] theorem State.hold_taper (i : StripId) : (s.hold i).taper = s.taper := by
  unfold State.hold; dsimp only; (repeat' split) <;> simp
@[simp] theorem State.hold_layers (i : StripId) : (s.hold i).layers = s.layers := by
  unfold State.hold; dsimp only; (repeat' split) <;> simp
@[simp] theorem State.hold_sliceDue (i : StripId) : (s.hold i).sliceDue = s.sliceDue := by
  unfold State.hold; dsimp only; (repeat' split) <;> simp
@[simp] theorem State.hold_meter (i : StripId) : (s.hold i).meter = s.meter := by
  unfold State.hold; dsimp only; (repeat' split) <;> simp
@[simp] theorem State.hold_ctl (i : StripId) : (s.hold i).ctl = s.ctl := by
  unfold State.hold; dsimp only; (repeat' split) <;> simp
@[simp] theorem State.hold_chan (i : StripId) (d : ChanId) : (s.hold i).chan d = s.chan d :=
  State.chan_congr (State.hold_chans s i) d
@[simp] theorem State.hold_home (i : StripId) (d : ChanId) : (s.hold i).home d = s.home d :=
  State.home_congr (State.hold_windows s i) d
@[simp] theorem State.hold_param (i : StripId) (p : Param) : (s.hold i).param p = s.param p := by simp [State.param]

@[simp] theorem State.hold_strip_ne {i j : StripId} (h : j ≠ i) : (s.hold i).strip j = s.strip j := by
  unfold State.hold; dsimp only; (repeat' split) <;> simp [h]

end Sys2Proof.Machine
end

