-- ==== Sys2Proof/Laws/Channels.lean ====
section
/-!
SUPPORT. What the operations of the taper unit, the channel table and the layer controller leave unchanged.
-/

namespace Sys2Proof.Machine

open Sys2Proof

variable (s : State)

/-! ## startHead -/

@[simp] theorem State.startHead_pending : s.startHead.pending = s.pending := by
  unfold State.startHead; try dsimp only
  split <;> simp
@[simp] theorem State.startHead_clock : s.startHead.clock = s.clock := by
  unfold State.startHead; try dsimp only
  split <;> simp
@[simp] theorem State.startHead_inReset : s.startHead.inReset = s.inReset := by
  unfold State.startHead; try dsimp only
  split <;> simp
@[simp] theorem State.startHead_strap : s.startHead.strap = s.strap := by
  unfold State.startHead; try dsimp only
  split <;> simp
@[simp] theorem State.startHead_port : s.startHead.port = s.port := by
  unfold State.startHead; try dsimp only
  split <;> simp
@[simp] theorem State.startHead_windows : s.startHead.windows = s.windows := by
  unfold State.startHead; try dsimp only
  split <;> simp
@[simp] theorem State.startHead_chans : s.startHead.chans = s.chans := by
  unfold State.startHead; try dsimp only
  split <;> simp
@[simp] theorem State.startHead_strips : s.startHead.strips = s.strips := by
  unfold State.startHead; try dsimp only
  split <;> simp
@[simp] theorem State.startHead_layers : s.startHead.layers = s.layers := by
  unfold State.startHead; try dsimp only
  split <;> simp
@[simp] theorem State.startHead_drive : s.startHead.drive = s.drive := by
  unfold State.startHead; try dsimp only
  split <;> simp
@[simp] theorem State.startHead_sliceDue : s.startHead.sliceDue = s.sliceDue := by
  unfold State.startHead; try dsimp only
  split <;> simp
@[simp] theorem State.startHead_meter : s.startHead.meter = s.meter := by
  unfold State.startHead; try dsimp only
  split <;> simp
@[simp] theorem State.startHead_ctl : s.startHead.ctl = s.ctl := by
  unfold State.startHead; try dsimp only
  split <;> simp
@[simp] theorem State.startHead_strip (j : StripId) : s.startHead.strip j = s.strip j :=
  State.strip_congr (State.startHead_strips s ) j
@[simp] theorem State.startHead_chan (d : ChanId) : s.startHead.chan d = s.chan d :=
  State.chan_congr (State.startHead_chans s ) d
@[simp] theorem State.startHead_home (d : ChanId) : s.startHead.home d = s.home d :=
  State.home_congr (State.startHead_windows s ) d
@[simp] theorem State.startHead_param (p : Param) : s.startHead.param p = s.param p := by simp [State.param]

/-! ## wait -/

@[simp] theorem State.wait_pending (w : Waiter) : (s.wait w).pending = s.pending := by simp [State.wait]
@[simp] theorem State.wait_clock (w : Waiter) : (s.wait w).clock = s.clock := by simp [State.wait]
@[simp] theorem State.wait_inReset (w : Waiter) : (s.wait w).inReset = s.inReset := by simp [State.wait]
@[simp] theorem State.wait_strap (w : Waiter) : (s.wait w).strap = s.strap := by simp [State.wait]
@[simp] theorem State.wait_port (w : Waiter) : (s.wait w).port = s.port := by simp [State.wait]
@[simp] theorem State.wait_windows (w : Waiter) : (s.wait w).windows = s.windows := by simp [State.wait]
@[simp] theorem State.wait_chans (w : Waiter) : (s.wait w).chans = s.chans := by simp [State.wait]
@[simp] theorem State.wait_strips (w : Waiter) : (s.wait w).strips = s.strips := by simp [State.wait]
@[simp] theorem State.wait_layers (w : Waiter) : (s.wait w).layers = s.layers := by simp [State.wait]
@[simp] theorem State.wait_drive (w : Waiter) : (s.wait w).drive = s.drive := by simp [State.wait]
@[simp] theorem State.wait_sliceDue (w : Waiter) : (s.wait w).sliceDue = s.sliceDue := by simp [State.wait]
@[simp] theorem State.wait_meter (w : Waiter) : (s.wait w).meter = s.meter := by simp [State.wait]
@[simp] theorem State.wait_ctl (w : Waiter) : (s.wait w).ctl = s.ctl := by simp [State.wait]
@[simp] theorem State.wait_strip (w : Waiter) (j : StripId) : (s.wait w).strip j = s.strip j :=
  State.strip_congr (State.wait_strips s w) j
@[simp] theorem State.wait_chan (w : Waiter) (d : ChanId) : (s.wait w).chan d = s.chan d :=
  State.chan_congr (State.wait_chans s w) d
@[simp] theorem State.wait_home (w : Waiter) (d : ChanId) : (s.wait w).home d = s.home d :=
  State.home_congr (State.wait_windows s w) d
@[simp] theorem State.wait_param (w : Waiter) (p : Param) : (s.wait w).param p = s.param p := by simp [State.param]

theorem State.convert_some {s t : State} {q : ConvReq} (h : s.convert q = some t) :
    t = { s with taper := t.taper } := by
  unfold State.convert at h
  split at h
  · cases h; rfl
  · split at h
    · cases h; unfold State.startHead; split <;> rfl
    · cases h

/-! ## convertOrWait -/

@[simp] theorem State.convertOrWait_pending (q : ConvReq) (w : Waiter) : (s.convertOrWait q w).pending = s.pending := by
  unfold State.convertOrWait; split
  · next h => rw [State.convert_some h]
  · simp
@[simp] theorem State.convertOrWait_clock (q : ConvReq) (w : Waiter) : (s.convertOrWait q w).clock = s.clock := by
  unfold State.convertOrWait; split
  · next h => rw [State.convert_some h]
  · simp
@[simp] theorem State.convertOrWait_inReset (q : ConvReq) (w : Waiter) : (s.convertOrWait q w).inReset = s.inReset := by
  unfold State.convertOrWait; split
  · next h => rw [State.convert_some h]
  · simp
@[simp] theorem State.convertOrWait_strap (q : ConvReq) (w : Waiter) : (s.convertOrWait q w).strap = s.strap := by
  unfold State.convertOrWait; split
  · next h => rw [State.convert_some h]
  · simp
@[simp] theorem State.convertOrWait_port (q : ConvReq) (w : Waiter) : (s.convertOrWait q w).port = s.port := by
  unfold State.convertOrWait; split
  · next h => rw [State.convert_some h]
  · simp
@[simp] theorem State.convertOrWait_windows (q : ConvReq) (w : Waiter) : (s.convertOrWait q w).windows = s.windows := by
  unfold State.convertOrWait; split
  · next h => rw [State.convert_some h]
  · simp
@[simp] theorem State.convertOrWait_chans (q : ConvReq) (w : Waiter) : (s.convertOrWait q w).chans = s.chans := by
  unfold State.convertOrWait; split
  · next h => rw [State.convert_some h]
  · simp
@[simp] theorem State.convertOrWait_strips (q : ConvReq) (w : Waiter) : (s.convertOrWait q w).strips = s.strips := by
  unfold State.convertOrWait; split
  · next h => rw [State.convert_some h]
  · simp
@[simp] theorem State.convertOrWait_layers (q : ConvReq) (w : Waiter) : (s.convertOrWait q w).layers = s.layers := by
  unfold State.convertOrWait; split
  · next h => rw [State.convert_some h]
  · simp
@[simp] theorem State.convertOrWait_drive (q : ConvReq) (w : Waiter) : (s.convertOrWait q w).drive = s.drive := by
  unfold State.convertOrWait; split
  · next h => rw [State.convert_some h]
  · simp
@[simp] theorem State.convertOrWait_sliceDue (q : ConvReq) (w : Waiter) : (s.convertOrWait q w).sliceDue = s.sliceDue := by
  unfold State.convertOrWait; split
  · next h => rw [State.convert_some h]
  · simp
@[simp] theorem State.convertOrWait_meter (q : ConvReq) (w : Waiter) : (s.convertOrWait q w).meter = s.meter := by
  unfold State.convertOrWait; split
  · next h => rw [State.convert_some h]
  · simp
@[simp] theorem State.convertOrWait_ctl (q : ConvReq) (w : Waiter) : (s.convertOrWait q w).ctl = s.ctl := by
  unfold State.convertOrWait; split
  · next h => rw [State.convert_some h]
  · simp
@[simp] theorem State.convertOrWait_strip (q : ConvReq) (w : Waiter) (j : StripId) : (s.convertOrWait q w).strip j = s.strip j :=
  State.strip_congr (State.convertOrWait_strips s q w) j
@[simp] theorem State.convertOrWait_chan (q : ConvReq) (w : Waiter) (d : ChanId) : (s.convertOrWait q w).chan d = s.chan d :=
  State.chan_congr (State.convertOrWait_chans s q w) d
@[simp] theorem State.convertOrWait_home (q : ConvReq) (w : Waiter) (d : ChanId) : (s.convertOrWait q w).home d = s.home d :=
  State.home_congr (State.convertOrWait_windows s q w) d
@[simp] theorem State.convertOrWait_param (q : ConvReq) (w : Waiter) (p : Param) : (s.convertOrWait q w).param p = s.param p := by simp [State.param]

/-! ## convertChannel -/

@[simp] theorem State.convertChannel_pending (c : ChanId) (o : Bool) : (s.convertChannel c o).pending = s.pending := by
  unfold State.convertChannel; try dsimp only
  split <;> simp
@[simp] theorem State.convertChannel_clock (c : ChanId) (o : Bool) : (s.convertChannel c o).clock = s.clock := by
  unfold State.convertChannel; try dsimp only
  split <;> simp
@[simp] theorem State.convertChannel_inReset (c : ChanId) (o : Bool) : (s.convertChannel c o).inReset = s.inReset := by
  unfold State.convertChannel; try dsimp only
  split <;> simp
@[simp] theorem State.convertChannel_strap (c : ChanId) (o : Bool) : (s.convertChannel c o).strap = s.strap := by
  unfold State.convertChannel; try dsimp only
  split <;> simp
@[simp] theorem State.convertChannel_port (c : ChanId) (o : Bool) : (s.convertChannel c o).port = s.port := by
  unfold State.convertChannel; try dsimp only
  split <;> simp
@[simp] theorem State.convertChannel_windows (c : ChanId) (o : Bool) : (s.convertChannel c o).windows = s.windows := by
  unfold State.convertChannel; try dsimp only
  split <;> simp
@[simp] theorem State.convertChannel_chans (c : ChanId) (o : Bool) : (s.convertChannel c o).chans = s.chans := by
  unfold State.convertChannel; try dsimp only
  split <;> simp
@[simp] theorem State.convertChannel_strips (c : ChanId) (o : Bool) : (s.convertChannel c o).strips = s.strips := by
  unfold State.convertChannel; try dsimp only
  split <;> simp
@[simp] theorem State.convertChannel_layers (c : ChanId) (o : Bool) : (s.convertChannel c o).layers = s.layers := by
  unfold State.convertChannel; try dsimp only
  split <;> simp
@[simp] theorem State.convertChannel_drive (c : ChanId) (o : Bool) : (s.convertChannel c o).drive = s.drive := by
  unfold State.convertChannel; try dsimp only
  split <;> simp
@[simp] theorem State.convertChannel_sliceDue (c : ChanId) (o : Bool) : (s.convertChannel c o).sliceDue = s.sliceDue := by
  unfold State.convertChannel; try dsimp only
  split <;> simp
@[simp] theorem State.convertChannel_meter (c : ChanId) (o : Bool) : (s.convertChannel c o).meter = s.meter := by
  unfold State.convertChannel; try dsimp only
  split <;> simp
@[simp] theorem State.convertChannel_ctl (c : ChanId) (o : Bool) : (s.convertChannel c o).ctl = s.ctl := by
  unfold State.convertChannel; try dsimp only
  split <;> simp
@[simp] theorem State.convertChannel_strip (c : ChanId) (o : Bool) (j : StripId) : (s.convertChannel c o).strip j = s.strip j :=
  State.strip_congr (State.convertChannel_strips s c o) j
@[simp] theorem State.convertChannel_chan (c : ChanId) (o : Bool) (d : ChanId) : (s.convertChannel c o).chan d = s.chan d :=
  State.chan_congr (State.convertChannel_chans s c o) d
@[simp] theorem State.convertChannel_home (c : ChanId) (o : Bool) (d : ChanId) : (s.convertChannel c o).home d = s.home d :=
  State.home_congr (State.convertChannel_windows s c o) d
@[simp] theorem State.convertChannel_param (c : ChanId) (o : Bool) (p : Param) : (s.convertChannel c o).param p = s.param p := by simp [State.param]

/-! ## convertThreshold -/

@[simp] theorem State.convertThreshold_pending (i : StripId) (on o : Bool) : (s.convertThreshold i on o).pending = s.pending := by simp [State.convertThreshold]
@[simp] theorem State.convertThreshold_clock (i : StripId) (on o : Bool) : (s.convertThreshold i on o).clock = s.clock := by simp [State.convertThreshold]
@[simp] theorem State.convertThreshold_inReset (i : StripId) (on o : Bool) : (s.convertThreshold i on o).inReset = s.inReset := by simp [State.convertThreshold]
@[simp] theorem State.convertThreshold_strap (i : StripId) (on o : Bool) : (s.convertThreshold i on o).strap = s.strap := by simp [State.convertThreshold]
@[simp] theorem State.convertThreshold_port (i : StripId) (on o : Bool) : (s.convertThreshold i on o).port = s.port := by simp [State.convertThreshold]
@[simp] theorem State.convertThreshold_windows (i : StripId) (on o : Bool) : (s.convertThreshold i on o).windows = s.windows := by simp [State.convertThreshold]
@[simp] theorem State.convertThreshold_chans (i : StripId) (on o : Bool) : (s.convertThreshold i on o).chans = s.chans := by simp [State.convertThreshold]
@[simp] theorem State.convertThreshold_strips (i : StripId) (on o : Bool) : (s.convertThreshold i on o).strips = s.strips := by simp [State.convertThreshold]
@[simp] theorem State.convertThreshold_layers (i : StripId) (on o : Bool) : (s.convertThreshold i on o).layers = s.layers := by simp [State.convertThreshold]
@[simp] theorem State.convertThreshold_drive (i : StripId) (on o : Bool) : (s.convertThreshold i on o).drive = s.drive := by simp [State.convertThreshold]
@[simp] theorem State.convertThreshold_sliceDue (i : StripId) (on o : Bool) : (s.convertThreshold i on o).sliceDue = s.sliceDue := by simp [State.convertThreshold]
@[simp] theorem State.convertThreshold_meter (i : StripId) (on o : Bool) : (s.convertThreshold i on o).meter = s.meter := by simp [State.convertThreshold]
@[simp] theorem State.convertThreshold_ctl (i : StripId) (on o : Bool) : (s.convertThreshold i on o).ctl = s.ctl := by simp [State.convertThreshold]
@[simp] theorem State.convertThreshold_strip (i : StripId) (on o : Bool) (j : StripId) : (s.convertThreshold i on o).strip j = s.strip j :=
  State.strip_congr (State.convertThreshold_strips s i on o) j
@[simp] theorem State.convertThreshold_chan (i : StripId) (on o : Bool) (d : ChanId) : (s.convertThreshold i on o).chan d = s.chan d :=
  State.chan_congr (State.convertThreshold_chans s i on o) d
@[simp] theorem State.convertThreshold_home (i : StripId) (on o : Bool) (d : ChanId) : (s.convertThreshold i on o).home d = s.home d :=
  State.home_congr (State.convertThreshold_windows s i on o) d
@[simp] theorem State.convertThreshold_param (i : StripId) (on o : Bool) (p : Param) : (s.convertThreshold i on o).param p = s.param p := by simp [State.param]

/-! ## requestPosition -/

@[simp] theorem State.requestPosition_pending (c : ChanId) (code : Code) : (s.requestPosition c code).pending = s.pending := by
  unfold State.requestPosition; try dsimp only
  (repeat' split) <;> simp
@[simp] theorem State.requestPosition_clock (c : ChanId) (code : Code) : (s.requestPosition c code).clock = s.clock := by
  unfold State.requestPosition; try dsimp only
  (repeat' split) <;> simp
@[simp] theorem State.requestPosition_inReset (c : ChanId) (code : Code) : (s.requestPosition c code).inReset = s.inReset := by
  unfold State.requestPosition; try dsimp only
  (repeat' split) <;> simp
@[simp] theorem State.requestPosition_strap (c : ChanId) (code : Code) : (s.requestPosition c code).strap = s.strap := by
  unfold State.requestPosition; try dsimp only
  (repeat' split) <;> simp
@[simp] theorem State.requestPosition_windows (c : ChanId) (code : Code) : (s.requestPosition c code).windows = s.windows := by
  unfold State.requestPosition; try dsimp only
  (repeat' split) <;> simp
@[simp] theorem State.requestPosition_chans (c : ChanId) (code : Code) : (s.requestPosition c code).chans = s.chans := by
  unfold State.requestPosition; try dsimp only
  (repeat' split) <;> simp
@[simp] theorem State.requestPosition_taper (c : ChanId) (code : Code) : (s.requestPosition c code).taper = s.taper := by
  unfold State.requestPosition; try dsimp only
  (repeat' split) <;> simp
@[simp] theorem State.requestPosition_strips (c : ChanId) (code : Code) : (s.requestPosition c code).strips = s.strips := by
  unfold State.requestPosition; try dsimp only
  (repeat' split) <;> simp
@[simp] theorem State.requestPosition_layers (c : ChanId) (code : Code) : (s.requestPosition c code).layers = s.layers := by
  unfold State.requestPosition; try dsimp only
  (repeat' split) <;> simp
@[simp] theorem State.requestPosition_drive (c : ChanId) (code : Code) : (s.requestPosition c code).drive = s.drive := by
  unfold State.requestPosition; try dsimp only
  (repeat' split) <;> simp
@[simp] theorem State.requestPosition_sliceDue (c : ChanId) (code : Code) : (s.requestPosition c code).sliceDue = s.sliceDue := by
  unfold State.requestPosition; try dsimp only
  (repeat' split) <;> simp
@[simp] theorem State.requestPosition_meter (c : ChanId) (code : Code) : (s.requestPosition c code).meter = s.meter := by
  unfold State.requestPosition; try dsimp only
  (repeat' split) <;> simp
@[simp] theorem State.requestPosition_port_req (c : ChanId) (code : Code) : (s.requestPosition c code).port.req = s.port.req := by
  unfold State.requestPosition; try dsimp only
  (repeat' split) <;> simp
@[simp] theorem State.requestPosition_port_heldBeat (c : ChanId) (code : Code) : (s.requestPosition c code).port.heldBeat = s.port.heldBeat := by
  unfold State.requestPosition; try dsimp only
  (repeat' split) <;> simp
@[simp] theorem State.requestPosition_port_owed (c : ChanId) (code : Code) : (s.requestPosition c code).port.owed = s.port.owed := by
  unfold State.requestPosition; try dsimp only
  (repeat' split) <;> simp
@[simp] theorem State.requestPosition_port_holder (c : ChanId) (code : Code) : (s.requestPosition c code).port.holder = s.port.holder := by
  unfold State.requestPosition; try dsimp only
  (repeat' split) <;> simp
@[simp] theorem State.requestPosition_port_members (c : ChanId) (code : Code) : (s.requestPosition c code).port.members = s.port.members := by
  unfold State.requestPosition; try dsimp only
  (repeat' split) <;> simp
@[simp] theorem State.requestPosition_port_alertEnd (c : ChanId) (code : Code) : (s.requestPosition c code).port.alertEnd = s.port.alertEnd := by
  unfold State.requestPosition; try dsimp only
  (repeat' split) <;> simp
@[simp] theorem State.requestPosition_port_toProcessor (c : ChanId) (code : Code) : (s.requestPosition c code).port.toProcessor = s.port.toProcessor := by
  unfold State.requestPosition; try dsimp only
  (repeat' split) <;> simp
@[simp] theorem State.requestPosition_port_toMemory (c : ChanId) (code : Code) : (s.requestPosition c code).port.toMemory = s.port.toMemory := by
  unfold State.requestPosition; try dsimp only
  (repeat' split) <;> simp
@[simp] theorem State.requestPosition_ctl_quiet (c : ChanId) (code : Code) : (s.requestPosition c code).ctl.quiet = s.ctl.quiet := by
  unfold State.requestPosition; try dsimp only
  (repeat' split) <;> simp
@[simp] theorem State.requestPosition_ctl_ringBase (c : ChanId) (code : Code) : (s.requestPosition c code).ctl.ringBase = s.ctl.ringBase := by
  unfold State.requestPosition; try dsimp only
  (repeat' split) <;> simp
@[simp] theorem State.requestPosition_ctl_ringCapacity (c : ChanId) (code : Code) : (s.requestPosition c code).ctl.ringCapacity = s.ctl.ringCapacity := by
  unfold State.requestPosition; try dsimp only
  (repeat' split) <;> simp
@[simp] theorem State.requestPosition_ctl_consumer (c : ChanId) (code : Code) : (s.requestPosition c code).ctl.consumer = s.ctl.consumer := by
  unfold State.requestPosition; try dsimp only
  (repeat' split) <;> simp
@[simp] theorem State.requestPosition_ctl_parityCount (c : ChanId) (code : Code) : (s.requestPosition c code).ctl.parityCount = s.ctl.parityCount := by
  unfold State.requestPosition; try dsimp only
  (repeat' split) <;> simp
@[simp] theorem State.requestPosition_ctl_time (c : ChanId) (code : Code) : (s.requestPosition c code).ctl.time = s.ctl.time := by
  unfold State.requestPosition; try dsimp only
  (repeat' split) <;> simp
@[simp] theorem State.requestPosition_ctl_nextTick (c : ChanId) (code : Code) : (s.requestPosition c code).ctl.nextTick = s.ctl.nextTick := by
  unfold State.requestPosition; try dsimp only
  (repeat' split) <;> simp
@[simp] theorem State.requestPosition_ctl_params (c : ChanId) (code : Code) : (s.requestPosition c code).ctl.params = s.ctl.params := by
  unfold State.requestPosition; try dsimp only
  (repeat' split) <;> simp
@[simp] theorem State.requestPosition_strip (c : ChanId) (code : Code) (j : StripId) : (s.requestPosition c code).strip j = s.strip j :=
  State.strip_congr (State.requestPosition_strips s c code) j
@[simp] theorem State.requestPosition_chan (c : ChanId) (code : Code) (d : ChanId) : (s.requestPosition c code).chan d = s.chan d :=
  State.chan_congr (State.requestPosition_chans s c code) d
@[simp] theorem State.requestPosition_home (c : ChanId) (code : Code) (d : ChanId) : (s.requestPosition c code).home d = s.home d :=
  State.home_congr (State.requestPosition_windows s c code) d
@[simp] theorem State.requestPosition_param (c : ChanId) (code : Code) (p : Param) : (s.requestPosition c code).param p = s.param p := by simp [State.param]

/-! ## fetchFailed -/

@[simp] theorem State.fetchFailed_pending (c : ChanId) (v : BitVec 16) : (s.fetchFailed c v).pending = s.pending := by
  unfold State.fetchFailed; dsimp only; split <;> simp
@[simp] theorem State.fetchFailed_clock (c : ChanId) (v : BitVec 16) : (s.fetchFailed c v).clock = s.clock := by
  unfold State.fetchFailed; dsimp only; split <;> simp
@[simp] theorem State.fetchFailed_inReset (c : ChanId) (v : BitVec 16) : (s.fetchFailed c v).inReset = s.inReset := by
  unfold State.fetchFailed; dsimp only; split <;> simp
@[simp] theorem State.fetchFailed_strap (c : ChanId) (v : BitVec 16) : (s.fetchFailed c v).strap = s.strap := by
  unfold State.fetchFailed; dsimp only; split <;> simp
@[simp] theorem State.fetchFailed_windows (c : ChanId) (v : BitVec 16) : (s.fetchFailed c v).windows = s.windows := by
  unfold State.fetchFailed; dsimp only; split <;> simp
@[simp] theorem State.fetchFailed_chans (c : ChanId) (v : BitVec 16) : (s.fetchFailed c v).chans = s.chans := by
  unfold State.fetchFailed; dsimp only; split <;> simp
@[simp] theorem State.fetchFailed_taper (c : ChanId) (v : BitVec 16) : (s.fetchFailed c v).taper = s.taper := by
  unfold State.fetchFailed; dsimp only; split <;> simp
@[simp] theorem State.fetchFailed_layers (c : ChanId) (v : BitVec 16) : (s.fetchFailed c v).layers = s.layers := by
  unfold State.fetchFailed; dsimp only; split <;> simp
@[simp] theorem State.fetchFailed_sliceDue (c : ChanId) (v : BitVec 16) : (s.fetchFailed c v).sliceDue = s.sliceDue := by
  unfold State.fetchFailed; dsimp only; split <;> simp
@[simp] theorem State.fetchFailed_meter (c : ChanId) (v : BitVec 16) : (s.fetchFailed c v).meter = s.meter := by
  unfold State.fetchFailed; dsimp only; split <;> simp
@[simp] theorem State.fetchFailed_port_req (c : ChanId) (v : BitVec 16) : (s.fetchFailed c v).port.req = s.port.req := by
  unfold State.fetchFailed; dsimp only; split <;> simp
@[simp] theorem State.fetchFailed_port_heldBeat (c : ChanId) (v : BitVec 16) : (s.fetchFailed c v).port.heldBeat = s.port.heldBeat := by
  unfold State.fetchFailed; dsimp only; split <;> simp
@[simp] theorem State.fetchFailed_port_owed (c : ChanId) (v : BitVec 16) : (s.fetchFailed c v).port.owed = s.port.owed := by
  unfold State.fetchFailed; dsimp only; split <;> simp
@[simp] theorem State.fetchFailed_port_holder (c : ChanId) (v : BitVec 16) : (s.fetchFailed c v).port.holder = s.port.holder := by
  unfold State.fetchFailed; dsimp only; split <;> simp
@[simp] theorem State.fetchFailed_port_members (c : ChanId) (v : BitVec 16) : (s.fetchFailed c v).port.members = s.port.members := by
  unfold State.fetchFailed; dsimp only; split <;> simp
@[simp] theorem State.fetchFailed_port_alertEnd (c : ChanId) (v : BitVec 16) : (s.fetchFailed c v).port.alertEnd = s.port.alertEnd := by
  unfold State.fetchFailed; dsimp only; split <;> simp
@[simp] theorem State.fetchFailed_port_toProcessor (c : ChanId) (v : BitVec 16) : (s.fetchFailed c v).port.toProcessor = s.port.toProcessor := by
  unfold State.fetchFailed; dsimp only; split <;> simp
@[simp] theorem State.fetchFailed_port_toMemory (c : ChanId) (v : BitVec 16) : (s.fetchFailed c v).port.toMemory = s.port.toMemory := by
  unfold State.fetchFailed; dsimp only; split <;> simp
@[simp] theorem State.fetchFailed_ctl_quiet (c : ChanId) (v : BitVec 16) : (s.fetchFailed c v).ctl.quiet = s.ctl.quiet := by
  unfold State.fetchFailed; dsimp only; split <;> simp
@[simp] theorem State.fetchFailed_ctl_ringBase (c : ChanId) (v : BitVec 16) : (s.fetchFailed c v).ctl.ringBase = s.ctl.ringBase := by
  unfold State.fetchFailed; dsimp only; split <;> simp
@[simp] theorem State.fetchFailed_ctl_ringCapacity (c : ChanId) (v : BitVec 16) : (s.fetchFailed c v).ctl.ringCapacity = s.ctl.ringCapacity := by
  unfold State.fetchFailed; dsimp only; split <;> simp
@[simp] theorem State.fetchFailed_ctl_consumer (c : ChanId) (v : BitVec 16) : (s.fetchFailed c v).ctl.consumer = s.ctl.consumer := by
  unfold State.fetchFailed; dsimp only; split <;> simp
@[simp] theorem State.fetchFailed_ctl_parityCount (c : ChanId) (v : BitVec 16) : (s.fetchFailed c v).ctl.parityCount = s.ctl.parityCount := by
  unfold State.fetchFailed; dsimp only; split <;> simp
@[simp] theorem State.fetchFailed_ctl_time (c : ChanId) (v : BitVec 16) : (s.fetchFailed c v).ctl.time = s.ctl.time := by
  unfold State.fetchFailed; dsimp only; split <;> simp
@[simp] theorem State.fetchFailed_ctl_nextTick (c : ChanId) (v : BitVec 16) : (s.fetchFailed c v).ctl.nextTick = s.ctl.nextTick := by
  unfold State.fetchFailed; dsimp only; split <;> simp
@[simp] theorem State.fetchFailed_ctl_params (c : ChanId) (v : BitVec 16) : (s.fetchFailed c v).ctl.params = s.ctl.params := by
  unfold State.fetchFailed; dsimp only; split <;> simp
@[simp] theorem State.fetchFailed_chan (c : ChanId) (v : BitVec 16) (d : ChanId) : (s.fetchFailed c v).chan d = s.chan d :=
  State.chan_congr (State.fetchFailed_chans s c v) d
@[simp] theorem State.fetchFailed_home (c : ChanId) (v : BitVec 16) (d : ChanId) : (s.fetchFailed c v).home d = s.home d :=
  State.home_congr (State.fetchFailed_windows s c v) d
@[simp] theorem State.fetchFailed_param (c : ChanId) (v : BitVec 16) (p : Param) : (s.fetchFailed c v).param p = s.param p := by simp [State.param]

/-! ## requestFetch -/

@[simp] theorem State.requestFetch_pending (c : ChanId) : (s.requestFetch c).pending = s.pending := by
  unfold State.requestFetch; try dsimp only
  (repeat' split) <;> simp
@[simp] theorem State.requestFetch_clock (c : ChanId) : (s.requestFetch c).clock = s.clock := by
  unfold State.requestFetch; try dsimp only
  (repeat' split) <;> simp
@[simp] theorem State.requestFetch_inReset (c : ChanId) : (s.requestFetch c).inReset = s.inReset := by
  unfold State.requestFetch; try dsimp only
  (repeat' split) <;> simp
@[simp] theorem State.requestFetch_strap (c : ChanId) : (s.requestFetch c).strap = s.strap := by
  unfold State.requestFetch; try dsimp only
  (repeat' split) <;> simp
@[simp] theorem State.requestFetch_windows (c : ChanId) : (s.requestFetch c).windows = s.windows := by
  unfold State.requestFetch; try dsimp only
  (repeat' split) <;> simp
@[simp] theorem State.requestFetch_chans (c : ChanId) : (s.requestFetch c).chans = s.chans := by
  unfold State.requestFetch; try dsimp only
  (repeat' split) <;> simp
@[simp] theorem State.requestFetch_taper (c : ChanId) : (s.requestFetch c).taper = s.taper := by
  unfold State.requestFetch; try dsimp only
  (repeat' split) <;> simp
@[simp] theorem State.requestFetch_layers (c : ChanId) : (s.requestFetch c).layers = s.layers := by
  unfold State.requestFetch; try dsimp only
  (repeat' split) <;> simp
@[simp] theorem State.requestFetch_sliceDue (c : ChanId) : (s.requestFetch c).sliceDue = s.sliceDue := by
  unfold State.requestFetch; try dsimp only
  (repeat' split) <;> simp
@[simp] theorem State.requestFetch_meter (c : ChanId) : (s.requestFetch c).meter = s.meter := by
  unfold State.requestFetch; try dsimp only
  (repeat' split) <;> simp
@[simp] theorem State.requestFetch_port_req (c : ChanId) : (s.requestFetch c).port.req = s.port.req := by
  unfold State.requestFetch; try dsimp only
  (repeat' split) <;> simp
@[simp] theorem State.requestFetch_port_heldBeat (c : ChanId) : (s.requestFetch c).port.heldBeat = s.port.heldBeat := by
  unfold State.requestFetch; try dsimp only
  (repeat' split) <;> simp
@[simp] theorem State.requestFetch_port_owed (c : ChanId) : (s.requestFetch c).port.owed = s.port.owed := by
  unfold State.requestFetch; try dsimp only
  (repeat' split) <;> simp
@[simp] theorem State.requestFetch_port_holder (c : ChanId) : (s.requestFetch c).port.holder = s.port.holder := by
  unfold State.requestFetch; try dsimp only
  (repeat' split) <;> simp
@[simp] theorem State.requestFetch_port_members (c : ChanId) : (s.requestFetch c).port.members = s.port.members := by
  unfold State.requestFetch; try dsimp only
  (repeat' split) <;> simp
@[simp] theorem State.requestFetch_port_alertEnd (c : ChanId) : (s.requestFetch c).port.alertEnd = s.port.alertEnd := by
  unfold State.requestFetch; try dsimp only
  (repeat' split) <;> simp
@[simp] theorem State.requestFetch_port_toProcessor (c : ChanId) : (s.requestFetch c).port.toProcessor = s.port.toProcessor := by
  unfold State.requestFetch; try dsimp only
  (repeat' split) <;> simp
@[simp] theorem State.requestFetch_port_toMemory (c : ChanId) : (s.requestFetch c).port.toMemory = s.port.toMemory := by
  unfold State.requestFetch; try dsimp only
  (repeat' split) <;> simp
@[simp] theorem State.requestFetch_ctl_quiet (c : ChanId) : (s.requestFetch c).ctl.quiet = s.ctl.quiet := by
  unfold State.requestFetch; try dsimp only
  (repeat' split) <;> simp
@[simp] theorem State.requestFetch_ctl_ringBase (c : ChanId) : (s.requestFetch c).ctl.ringBase = s.ctl.ringBase := by
  unfold State.requestFetch; try dsimp only
  (repeat' split) <;> simp
@[simp] theorem State.requestFetch_ctl_ringCapacity (c : ChanId) : (s.requestFetch c).ctl.ringCapacity = s.ctl.ringCapacity := by
  unfold State.requestFetch; try dsimp only
  (repeat' split) <;> simp
@[simp] theorem State.requestFetch_ctl_consumer (c : ChanId) : (s.requestFetch c).ctl.consumer = s.ctl.consumer := by
  unfold State.requestFetch; try dsimp only
  (repeat' split) <;> simp
@[simp] theorem State.requestFetch_ctl_parityCount (c : ChanId) : (s.requestFetch c).ctl.parityCount = s.ctl.parityCount := by
  unfold State.requestFetch; try dsimp only
  (repeat' split) <;> simp
@[simp] theorem State.requestFetch_ctl_time (c : ChanId) : (s.requestFetch c).ctl.time = s.ctl.time := by
  unfold State.requestFetch; try dsimp only
  (repeat' split) <;> simp
@[simp] theorem State.requestFetch_ctl_nextTick (c : ChanId) : (s.requestFetch c).ctl.nextTick = s.ctl.nextTick := by
  unfold State.requestFetch; try dsimp only
  (repeat' split) <;> simp
@[simp] theorem State.requestFetch_ctl_params (c : ChanId) : (s.requestFetch c).ctl.params = s.ctl.params := by
  unfold State.requestFetch; try dsimp only
  (repeat' split) <;> simp
@[simp] theorem State.requestFetch_chan (c : ChanId) (d : ChanId) : (s.requestFetch c).chan d = s.chan d :=
  State.chan_congr (State.requestFetch_chans s c) d
@[simp] theorem State.requestFetch_home (c : ChanId) (d : ChanId) : (s.requestFetch c).home d = s.home d :=
  State.home_congr (State.requestFetch_windows s c) d
@[simp] theorem State.requestFetch_param (c : ChanId) (p : Param) : (s.requestFetch c).param p = s.param p := by simp [State.param]

/-! ## writeBack -/

@[simp] theorem State.writeBack_pending (c : ChanId) (code : Code) : (s.writeBack c code).pending = s.pending := by
  unfold State.writeBack; try dsimp only
  split <;> simp
@[simp] theorem State.writeBack_clock (c : ChanId) (code : Code) : (s.writeBack c code).clock = s.clock := by
  unfold State.writeBack; try dsimp only
  split <;> simp
@[simp] theorem State.writeBack_inReset (c : ChanId) (code : Code) : (s.writeBack c code).inReset = s.inReset := by
  unfold State.writeBack; try dsimp only
  split <;> simp
@[simp] theorem State.writeBack_strap (c : ChanId) (code : Code) : (s.writeBack c code).strap = s.strap := by
  unfold State.writeBack; try dsimp only
  split <;> simp
@[simp] theorem State.writeBack_windows (c : ChanId) (code : Code) : (s.writeBack c code).windows = s.windows := by
  unfold State.writeBack; try dsimp only
  split <;> simp
@[simp] theorem State.writeBack_chans (c : ChanId) (code : Code) : (s.writeBack c code).chans = s.chans := by
  unfold State.writeBack; try dsimp only
  split <;> simp
@[simp] theorem State.writeBack_taper (c : ChanId) (code : Code) : (s.writeBack c code).taper = s.taper := by
  unfold State.writeBack; try dsimp only
  split <;> simp
@[simp] theorem State.writeBack_strips (c : ChanId) (code : Code) : (s.writeBack c code).strips = s.strips := by
  unfold State.writeBack; try dsimp only
  split <;> simp
@[simp] theorem State.writeBack_layers (c : ChanId) (code : Code) : (s.writeBack c code).layers = s.layers := by
  unfold State.writeBack; try dsimp only
  split <;> simp
@[simp] theorem State.writeBack_drive (c : ChanId) (code : Code) : (s.writeBack c code).drive = s.drive := by
  unfold State.writeBack; try dsimp only
  split <;> simp
@[simp] theorem State.writeBack_sliceDue (c : ChanId) (code : Code) : (s.writeBack c code).sliceDue = s.sliceDue := by
  unfold State.writeBack; try dsimp only
  split <;> simp
@[simp] theorem State.writeBack_meter (c : ChanId) (code : Code) : (s.writeBack c code).meter = s.meter := by
  unfold State.writeBack; try dsimp only
  split <;> simp
@[simp] theorem State.writeBack_port_req (c : ChanId) (code : Code) : (s.writeBack c code).port.req = s.port.req := by
  unfold State.writeBack; try dsimp only
  split <;> simp
@[simp] theorem State.writeBack_port_heldBeat (c : ChanId) (code : Code) : (s.writeBack c code).port.heldBeat = s.port.heldBeat := by
  unfold State.writeBack; try dsimp only
  split <;> simp
@[simp] theorem State.writeBack_port_owed (c : ChanId) (code : Code) : (s.writeBack c code).port.owed = s.port.owed := by
  unfold State.writeBack; try dsimp only
  split <;> simp
@[simp] theorem State.writeBack_port_holder (c : ChanId) (code : Code) : (s.writeBack c code).port.holder = s.port.holder := by
  unfold State.writeBack; try dsimp only
  split <;> simp
@[simp] theorem State.writeBack_port_members (c : ChanId) (code : Code) : (s.writeBack c code).port.members = s.port.members := by
  unfold State.writeBack; try dsimp only
  split <;> simp
@[simp] theorem State.writeBack_port_alertEnd (c : ChanId) (code : Code) : (s.writeBack c code).port.alertEnd = s.port.alertEnd := by
  unfold State.writeBack; try dsimp only
  split <;> simp
@[simp] theorem State.writeBack_port_toProcessor (c : ChanId) (code : Code) : (s.writeBack c code).port.toProcessor = s.port.toProcessor := by
  unfold State.writeBack; try dsimp only
  split <;> simp
@[simp] theorem State.writeBack_port_toMemory (c : ChanId) (code : Code) : (s.writeBack c code).port.toMemory = s.port.toMemory := by
  unfold State.writeBack; try dsimp only
  split <;> simp
@[simp] theorem State.writeBack_ctl_quiet (c : ChanId) (code : Code) : (s.writeBack c code).ctl.quiet = s.ctl.quiet := by
  unfold State.writeBack; try dsimp only
  split <;> simp
@[simp] theorem State.writeBack_ctl_ringBase (c : ChanId) (code : Code) : (s.writeBack c code).ctl.ringBase = s.ctl.ringBase := by
  unfold State.writeBack; try dsimp only
  split <;> simp
@[simp] theorem State.writeBack_ctl_ringCapacity (c : ChanId) (code : Code) : (s.writeBack c code).ctl.ringCapacity = s.ctl.ringCapacity := by
  unfold State.writeBack; try dsimp only
  split <;> simp
@[simp] theorem State.writeBack_ctl_consumer (c : ChanId) (code : Code) : (s.writeBack c code).ctl.consumer = s.ctl.consumer := by
  unfold State.writeBack; try dsimp only
  split <;> simp
@[simp] theorem State.writeBack_ctl_parityCount (c : ChanId) (code : Code) : (s.writeBack c code).ctl.parityCount = s.ctl.parityCount := by
  unfold State.writeBack; try dsimp only
  split <;> simp
@[simp] theorem State.writeBack_ctl_time (c : ChanId) (code : Code) : (s.writeBack c code).ctl.time = s.ctl.time := by
  unfold State.writeBack; try dsimp only
  split <;> simp
@[simp] theorem State.writeBack_ctl_nextTick (c : ChanId) (code : Code) : (s.writeBack c code).ctl.nextTick = s.ctl.nextTick := by
  unfold State.writeBack; try dsimp only
  split <;> simp
@[simp] theorem State.writeBack_ctl_params (c : ChanId) (code : Code) : (s.writeBack c code).ctl.params = s.ctl.params := by
  unfold State.writeBack; try dsimp only
  split <;> simp
@[simp] theorem State.writeBack_strip (c : ChanId) (code : Code) (j : StripId) : (s.writeBack c code).strip j = s.strip j :=
  State.strip_congr (State.writeBack_strips s c code) j
@[simp] theorem State.writeBack_chan (c : ChanId) (code : Code) (d : ChanId) : (s.writeBack c code).chan d = s.chan d :=
  State.chan_congr (State.writeBack_chans s c code) d
@[simp] theorem State.writeBack_home (c : ChanId) (code : Code) (d : ChanId) : (s.writeBack c code).home d = s.home d :=
  State.home_congr (State.writeBack_windows s c code) d
@[simp] theorem State.writeBack_param (c : ChanId) (code : Code) (p : Param) : (s.writeBack c code).param p = s.param p := by simp [State.param]

/-! ## unmapped -/

@[simp] theorem State.unmapped_pending (i : StripId) (c : ChanId) : (s.unmapped i c).pending = s.pending := by simp [State.unmapped]
@[simp] theorem State.unmapped_clock (i : StripId) (c : ChanId) : (s.unmapped i c).clock = s.clock := by simp [State.unmapped]
@[simp] theorem State.unmapped_inReset (i : StripId) (c : ChanId) : (s.unmapped i c).inReset = s.inReset := by simp [State.unmapped]
@[simp] theorem State.unmapped_strap (i : StripId) (c : ChanId) : (s.unmapped i c).strap = s.strap := by simp [State.unmapped]
@[simp] theorem State.unmapped_windows (i : StripId) (c : ChanId) : (s.unmapped i c).windows = s.windows := by simp [State.unmapped]
@[simp] theorem State.unmapped_chans (i : StripId) (c : ChanId) : (s.unmapped i c).chans = s.chans := by simp [State.unmapped]
@[simp] theorem State.unmapped_taper (i : StripId) (c : ChanId) : (s.unmapped i c).taper = s.taper := by simp [State.unmapped]
@[simp] theorem State.unmapped_layers (i : StripId) (c : ChanId) : (s.unmapped i c).layers = s.layers := by simp [State.unmapped]
@[simp] theorem State.unmapped_sliceDue (i : StripId) (c : ChanId) : (s.unmapped i c).sliceDue = s.sliceDue := by simp [State.unmapped]
@[simp] theorem State.unmapped_meter (i : StripId) (c : ChanId) : (s.unmapped i c).meter = s.meter := by simp [State.unmapped]
@[simp] theorem State.unmapped_port_req (i : StripId) (c : ChanId) : (s.unmapped i c).port.req = s.port.req := by simp [State.unmapped]
@[simp] theorem State.unmapped_port_heldBeat (i : StripId) (c : ChanId) : (s.unmapped i c).port.heldBeat = s.port.heldBeat := by simp [State.unmapped]
@[simp] theorem State.unmapped_port_owed (i : StripId) (c : ChanId) : (s.unmapped i c).port.owed = s.port.owed := by simp [State.unmapped]
@[simp] theorem State.unmapped_port_holder (i : StripId) (c : ChanId) : (s.unmapped i c).port.holder = s.port.holder := by simp [State.unmapped]
@[simp] theorem State.unmapped_port_members (i : StripId) (c : ChanId) : (s.unmapped i c).port.members = s.port.members := by simp [State.unmapped]
@[simp] theorem State.unmapped_port_alertEnd (i : StripId) (c : ChanId) : (s.unmapped i c).port.alertEnd = s.port.alertEnd := by simp [State.unmapped]
@[simp] theorem State.unmapped_port_toProcessor (i : StripId) (c : ChanId) : (s.unmapped i c).port.toProcessor = s.port.toProcessor := by simp [State.unmapped]
@[simp] theorem State.unmapped_port_toMemory (i : StripId) (c : ChanId) : (s.unmapped i c).port.toMemory = s.port.toMemory := by simp [State.unmapped]
@[simp] theorem State.unmapped_ctl_quiet (i : StripId) (c : ChanId) : (s.unmapped i c).ctl.quiet = s.ctl.quiet := by simp [State.unmapped]
@[simp] theorem State.unmapped_ctl_ringBase (i : StripId) (c : ChanId) : (s.unmapped i c).ctl.ringBase = s.ctl.ringBase := by simp [State.unmapped]
@[simp] theorem State.unmapped_ctl_ringCapacity (i : StripId) (c : ChanId) : (s.unmapped i c).ctl.ringCapacity = s.ctl.ringCapacity := by simp [State.unmapped]
@[simp] theorem State.unmapped_ctl_consumer (i : StripId) (c : ChanId) : (s.unmapped i c).ctl.consumer = s.ctl.consumer := by simp [State.unmapped]
@[simp] theorem State.unmapped_ctl_parityCount (i : StripId) (c : ChanId) : (s.unmapped i c).ctl.parityCount = s.ctl.parityCount := by simp [State.unmapped]
@[simp] theorem State.unmapped_ctl_time (i : StripId) (c : ChanId) : (s.unmapped i c).ctl.time = s.ctl.time := by simp [State.unmapped]
@[simp] theorem State.unmapped_ctl_nextTick (i : StripId) (c : ChanId) : (s.unmapped i c).ctl.nextTick = s.ctl.nextTick := by simp [State.unmapped]
@[simp] theorem State.unmapped_ctl_params (i : StripId) (c : ChanId) : (s.unmapped i c).ctl.params = s.ctl.params := by simp [State.unmapped]
@[simp] theorem State.unmapped_chan (i : StripId) (c : ChanId) (d : ChanId) : (s.unmapped i c).chan d = s.chan d :=
  State.chan_congr (State.unmapped_chans s i c) d
@[simp] theorem State.unmapped_home (i : StripId) (c : ChanId) (d : ChanId) : (s.unmapped i c).home d = s.home d :=
  State.home_congr (State.unmapped_windows s i c) d
@[simp] theorem State.unmapped_param (i : StripId) (c : ChanId) (p : Param) : (s.unmapped i c).param p = s.param p := by simp [State.param]

/-! ## handOff -/

@[simp] theorem State.handOff_pending (c : ChanId) (code : Code) : (s.handOff c code).pending = s.pending := by
  unfold State.handOff; (repeat' split) <;> first | (next h => rw [State.convert_some h]) | simp
@[simp] theorem State.handOff_clock (c : ChanId) (code : Code) : (s.handOff c code).clock = s.clock := by
  unfold State.handOff; (repeat' split) <;> first | (next h => rw [State.convert_some h]) | simp
@[simp] theorem State.handOff_inReset (c : ChanId) (code : Code) : (s.handOff c code).inReset = s.inReset := by
  unfold State.handOff; (repeat' split) <;> first | (next h => rw [State.convert_some h]) | simp
@[simp] theorem State.handOff_strap (c : ChanId) (code : Code) : (s.handOff c code).strap = s.strap := by
  unfold State.handOff; (repeat' split) <;> first | (next h => rw [State.convert_some h]) | simp
@[simp] theorem State.handOff_windows (c : ChanId) (code : Code) : (s.handOff c code).windows = s.windows := by
  unfold State.handOff; (repeat' split) <;> first | (next h => rw [State.convert_some h]) | simp
@[simp] theorem State.handOff_chans (c : ChanId) (code : Code) : (s.handOff c code).chans = s.chans := by
  unfold State.handOff; (repeat' split) <;> first | (next h => rw [State.convert_some h]) | simp
@[simp] theorem State.handOff_strips (c : ChanId) (code : Code) : (s.handOff c code).strips = s.strips := by
  unfold State.handOff; (repeat' split) <;> first | (next h => rw [State.convert_some h]) | simp
@[simp] theorem State.handOff_layers (c : ChanId) (code : Code) : (s.handOff c code).layers = s.layers := by
  unfold State.handOff; (repeat' split) <;> first | (next h => rw [State.convert_some h]) | simp
@[simp] theorem State.handOff_drive (c : ChanId) (code : Code) : (s.handOff c code).drive = s.drive := by
  unfold State.handOff; (repeat' split) <;> first | (next h => rw [State.convert_some h]) | simp
@[simp] theorem State.handOff_sliceDue (c : ChanId) (code : Code) : (s.handOff c code).sliceDue = s.sliceDue := by
  unfold State.handOff; (repeat' split) <;> first | (next h => rw [State.convert_some h]) | simp
@[simp] theorem State.handOff_meter (c : ChanId) (code : Code) : (s.handOff c code).meter = s.meter := by
  unfold State.handOff; (repeat' split) <;> first | (next h => rw [State.convert_some h]) | simp
@[simp] theorem State.handOff_port_req (c : ChanId) (code : Code) : (s.handOff c code).port.req = s.port.req := by
  unfold State.handOff; (repeat' split) <;> first | (next h => rw [State.convert_some h]) | simp
@[simp] theorem State.handOff_port_heldBeat (c : ChanId) (code : Code) : (s.handOff c code).port.heldBeat = s.port.heldBeat := by
  unfold State.handOff; (repeat' split) <;> first | (next h => rw [State.convert_some h]) | simp
@[simp] theorem State.handOff_port_owed (c : ChanId) (code : Code) : (s.handOff c code).port.owed = s.port.owed := by
  unfold State.handOff; (repeat' split) <;> first | (next h => rw [State.convert_some h]) | simp
@[simp] theorem State.handOff_port_holder (c : ChanId) (code : Code) : (s.handOff c code).port.holder = s.port.holder := by
  unfold State.handOff; (repeat' split) <;> first | (next h => rw [State.convert_some h]) | simp
@[simp] theorem State.handOff_port_members (c : ChanId) (code : Code) : (s.handOff c code).port.members = s.port.members := by
  unfold State.handOff; (repeat' split) <;> first | (next h => rw [State.convert_some h]) | simp
@[simp] theorem State.handOff_port_alertEnd (c : ChanId) (code : Code) : (s.handOff c code).port.alertEnd = s.port.alertEnd := by
  unfold State.handOff; (repeat' split) <;> first | (next h => rw [State.convert_some h]) | simp
@[simp] theorem State.handOff_port_toProcessor (c : ChanId) (code : Code) : (s.handOff c code).port.toProcessor = s.port.toProcessor := by
  unfold State.handOff; (repeat' split) <;> first | (next h => rw [State.convert_some h]) | simp
@[simp] theorem State.handOff_port_toMemory (c : ChanId) (code : Code) : (s.handOff c code).port.toMemory = s.port.toMemory := by
  unfold State.handOff; (repeat' split) <;> first | (next h => rw [State.convert_some h]) | simp
@[simp] theorem State.handOff_ctl_quiet (c : ChanId) (code : Code) : (s.handOff c code).ctl.quiet = s.ctl.quiet := by
  unfold State.handOff; (repeat' split) <;> first | (next h => rw [State.convert_some h]) | simp
@[simp] theorem State.handOff_ctl_ringBase (c : ChanId) (code : Code) : (s.handOff c code).ctl.ringBase = s.ctl.ringBase := by
  unfold State.handOff; (repeat' split) <;> first | (next h => rw [State.convert_some h]) | simp
@[simp] theorem State.handOff_ctl_ringCapacity (c : ChanId) (code : Code) : (s.handOff c code).ctl.ringCapacity = s.ctl.ringCapacity := by
  unfold State.handOff; (repeat' split) <;> first | (next h => rw [State.convert_some h]) | simp
@[simp] theorem State.handOff_ctl_consumer (c : ChanId) (code : Code) : (s.handOff c code).ctl.consumer = s.ctl.consumer := by
  unfold State.handOff; (repeat' split) <;> first | (next h => rw [State.convert_some h]) | simp
@[simp] theorem State.handOff_ctl_parityCount (c : ChanId) (code : Code) : (s.handOff c code).ctl.parityCount = s.ctl.parityCount := by
  unfold State.handOff; (repeat' split) <;> first | (next h => rw [State.convert_some h]) | simp
@[simp] theorem State.handOff_ctl_time (c : ChanId) (code : Code) : (s.handOff c code).ctl.time = s.ctl.time := by
  unfold State.handOff; (repeat' split) <;> first | (next h => rw [State.convert_some h]) | simp
@[simp] theorem State.handOff_ctl_nextTick (c : ChanId) (code : Code) : (s.handOff c code).ctl.nextTick = s.ctl.nextTick := by
  unfold State.handOff; (repeat' split) <;> first | (next h => rw [State.convert_some h]) | simp
@[simp] theorem State.handOff_ctl_params (c : ChanId) (code : Code) : (s.handOff c code).ctl.params = s.ctl.params := by
  unfold State.handOff; (repeat' split) <;> first | (next h => rw [State.convert_some h]) | simp
@[simp] theorem State.handOff_strip (c : ChanId) (code : Code) (j : StripId) : (s.handOff c code).strip j = s.strip j :=
  State.strip_congr (State.handOff_strips s c code) j
@[simp] theorem State.handOff_chan (c : ChanId) (code : Code) (d : ChanId) : (s.handOff c code).chan d = s.chan d :=
  State.chan_congr (State.handOff_chans s c code) d
@[simp] theorem State.handOff_home (c : ChanId) (code : Code) (d : ChanId) : (s.handOff c code).home d = s.home d :=
  State.home_congr (State.handOff_windows s c code) d
@[simp] theorem State.handOff_param (c : ChanId) (code : Code) (p : Param) : (s.handOff c code).param p = s.param p := by simp [State.param]

/-! ## writeCode -/

@[simp] theorem State.writeCode_pending (c : ChanId) (code : Code) : (s.writeCode c code).pending = s.pending := by simp [State.writeCode]
@[simp] theorem State.writeCode_clock (c : ChanId) (code : Code) : (s.writeCode c code).clock = s.clock := by simp [State.writeCode]
@[simp] theorem State.writeCode_inReset (c : ChanId) (code : Code) : (s.writeCode c code).inReset = s.inReset := by simp [State.writeCode]
@[simp] theorem State.writeCode_strap (c : ChanId) (code : Code) : (s.writeCode c code).strap = s.strap := by simp [State.writeCode]
@[simp] theorem State.writeCode_windows (c : ChanId) (code : Code) : (s.writeCode c code).windows = s.windows := by simp [State.writeCode]
@[simp] theorem State.writeCode_strips (c : ChanId) (code : Code) : (s.writeCode c code).strips = s.strips := by simp [State.writeCode]
@[simp] theorem State.writeCode_layers (c : ChanId) (code : Code) : (s.writeCode c code).layers = s.layers := by simp [State.writeCode]
@[simp] theorem State.writeCode_drive (c : ChanId) (code : Code) : (s.writeCode c code).drive = s.drive := by simp [State.writeCode]
@[simp] theorem State.writeCode_sliceDue (c : ChanId) (code : Code) : (s.writeCode c code).sliceDue = s.sliceDue := by simp [State.writeCode]
@[simp] theorem State.writeCode_meter (c : ChanId) (code : Code) : (s.writeCode c code).meter = s.meter := by simp [State.writeCode]
@[simp] theorem State.writeCode_port_req (c : ChanId) (code : Code) : (s.writeCode c code).port.req = s.port.req := by simp [State.writeCode]
@[simp] theorem State.writeCode_port_heldBeat (c : ChanId) (code : Code) : (s.writeCode c code).port.heldBeat = s.port.heldBeat := by simp [State.writeCode]
@[simp] theorem State.writeCode_port_owed (c : ChanId) (code : Code) : (s.writeCode c code).port.owed = s.port.owed := by simp [State.writeCode]
@[simp] theorem State.writeCode_port_holder (c : ChanId) (code : Code) : (s.writeCode c code).port.holder = s.port.holder := by simp [State.writeCode]
@[simp] theorem State.writeCode_port_members (c : ChanId) (code : Code) : (s.writeCode c code).port.members = s.port.members := by simp [State.writeCode]
@[simp] theorem State.writeCode_port_alertEnd (c : ChanId) (code : Code) : (s.writeCode c code).port.alertEnd = s.port.alertEnd := by simp [State.writeCode]
@[simp] theorem State.writeCode_port_toProcessor (c : ChanId) (code : Code) : (s.writeCode c code).port.toProcessor = s.port.toProcessor := by simp [State.writeCode]
@[simp] theorem State.writeCode_port_toMemory (c : ChanId) (code : Code) : (s.writeCode c code).port.toMemory = s.port.toMemory := by simp [State.writeCode]
@[simp] theorem State.writeCode_ctl_quiet (c : ChanId) (code : Code) : (s.writeCode c code).ctl.quiet = s.ctl.quiet := by simp [State.writeCode]
@[simp] theorem State.writeCode_ctl_ringBase (c : ChanId) (code : Code) : (s.writeCode c code).ctl.ringBase = s.ctl.ringBase := by simp [State.writeCode]
@[simp] theorem State.writeCode_ctl_ringCapacity (c : ChanId) (code : Code) : (s.writeCode c code).ctl.ringCapacity = s.ctl.ringCapacity := by simp [State.writeCode]
@[simp] theorem State.writeCode_ctl_consumer (c : ChanId) (code : Code) : (s.writeCode c code).ctl.consumer = s.ctl.consumer := by simp [State.writeCode]
@[simp] theorem State.writeCode_ctl_parityCount (c : ChanId) (code : Code) : (s.writeCode c code).ctl.parityCount = s.ctl.parityCount := by simp [State.writeCode]
@[simp] theorem State.writeCode_ctl_time (c : ChanId) (code : Code) : (s.writeCode c code).ctl.time = s.ctl.time := by simp [State.writeCode]
@[simp] theorem State.writeCode_ctl_nextTick (c : ChanId) (code : Code) : (s.writeCode c code).ctl.nextTick = s.ctl.nextTick := by simp [State.writeCode]
@[simp] theorem State.writeCode_ctl_params (c : ChanId) (code : Code) : (s.writeCode c code).ctl.params = s.ctl.params := by simp [State.writeCode]
@[simp] theorem State.writeCode_strip (c : ChanId) (code : Code) (j : StripId) : (s.writeCode c code).strip j = s.strip j :=
  State.strip_congr (State.writeCode_strips s c code) j
@[simp] theorem State.writeCode_home (c : ChanId) (code : Code) (d : ChanId) : (s.writeCode c code).home d = s.home d :=
  State.home_congr (State.writeCode_windows s c code) d
@[simp] theorem State.writeCode_param (c : ChanId) (code : Code) (p : Param) : (s.writeCode c code).param p = s.param p := by simp [State.param]

/-! ## setLine -/

@[simp] theorem State.setLine_pending (i : StripId) (on : Bool) : (s.setLine i on).pending = s.pending := by
  unfold State.setLine; try dsimp only
  split <;> simp
@[simp] theorem State.setLine_clock (i : StripId) (on : Bool) : (s.setLine i on).clock = s.clock := by
  unfold State.setLine; try dsimp only
  split <;> simp
@[simp] theorem State.setLine_inReset (i : StripId) (on : Bool) : (s.setLine i on).inReset = s.inReset := by
  unfold State.setLine; try dsimp only
  split <;> simp
@[simp] theorem State.setLine_strap (i : StripId) (on : Bool) : (s.setLine i on).strap = s.strap := by
  unfold State.setLine; try dsimp only
  split <;> simp
@[simp] theorem State.setLine_windows (i : StripId) (on : Bool) : (s.setLine i on).windows = s.windows := by
  unfold State.setLine; try dsimp only
  split <;> simp
@[simp] theorem State.setLine_chans (i : StripId) (on : Bool) : (s.setLine i on).chans = s.chans := by
  unfold State.setLine; try dsimp only
  split <;> simp
@[simp] theorem State.setLine_taper (i : StripId) (on : Bool) : (s.setLine i on).taper = s.taper := by
  unfold State.setLine; try dsimp only
  split <;> simp
@[simp] theorem State.setLine_layers (i : StripId) (on : Bool) : (s.setLine i on).layers = s.layers := by
  unfold State.setLine; try dsimp only
  split <;> simp
@[simp] theorem State.setLine_drive (i : StripId) (on : Bool) : (s.setLine i on).drive = s.drive := by
  unfold State.setLine; try dsimp only
  split <;> simp
@[simp] theorem State.setLine_sliceDue (i : StripId) (on : Bool) : (s.setLine i on).sliceDue = s.sliceDue := by
  unfold State.setLine; try dsimp only
  split <;> simp
@[simp] theorem State.setLine_meter (i : StripId) (on : Bool) : (s.setLine i on).meter = s.meter := by
  unfold State.setLine; try dsimp only
  split <;> simp
@[simp] theorem State.setLine_port_req (i : StripId) (on : Bool) : (s.setLine i on).port.req = s.port.req := by
  unfold State.setLine; try dsimp only
  split <;> simp
@[simp] theorem State.setLine_port_heldBeat (i : StripId) (on : Bool) : (s.setLine i on).port.heldBeat = s.port.heldBeat := by
  unfold State.setLine; try dsimp only
  split <;> simp
@[simp] theorem State.setLine_port_owed (i : StripId) (on : Bool) : (s.setLine i on).port.owed = s.port.owed := by
  unfold State.setLine; try dsimp only
  split <;> simp
@[simp] theorem State.setLine_port_holder (i : StripId) (on : Bool) : (s.setLine i on).port.holder = s.port.holder := by
  unfold State.setLine; try dsimp only
  split <;> simp
@[simp] theorem State.setLine_port_members (i : StripId) (on : Bool) : (s.setLine i on).port.members = s.port.members := by
  unfold State.setLine; try dsimp only
  split <;> simp
@[simp] theorem State.setLine_port_alertEnd (i : StripId) (on : Bool) : (s.setLine i on).port.alertEnd = s.port.alertEnd := by
  unfold State.setLine; try dsimp only
  split <;> simp
@[simp] theorem State.setLine_port_toProcessor (i : StripId) (on : Bool) : (s.setLine i on).port.toProcessor = s.port.toProcessor := by
  unfold State.setLine; try dsimp only
  split <;> simp
@[simp] theorem State.setLine_port_toMemory (i : StripId) (on : Bool) : (s.setLine i on).port.toMemory = s.port.toMemory := by
  unfold State.setLine; try dsimp only
  split <;> simp
@[simp] theorem State.setLine_ctl_quiet (i : StripId) (on : Bool) : (s.setLine i on).ctl.quiet = s.ctl.quiet := by
  unfold State.setLine; try dsimp only
  split <;> simp
@[simp] theorem State.setLine_ctl_ringBase (i : StripId) (on : Bool) : (s.setLine i on).ctl.ringBase = s.ctl.ringBase := by
  unfold State.setLine; try dsimp only
  split <;> simp
@[simp] theorem State.setLine_ctl_ringCapacity (i : StripId) (on : Bool) : (s.setLine i on).ctl.ringCapacity = s.ctl.ringCapacity := by
  unfold State.setLine; try dsimp only
  split <;> simp
@[simp] theorem State.setLine_ctl_consumer (i : StripId) (on : Bool) : (s.setLine i on).ctl.consumer = s.ctl.consumer := by
  unfold State.setLine; try dsimp only
  split <;> simp
@[simp] theorem State.setLine_ctl_parityCount (i : StripId) (on : Bool) : (s.setLine i on).ctl.parityCount = s.ctl.parityCount := by
  unfold State.setLine; try dsimp only
  split <;> simp
@[simp] theorem State.setLine_ctl_time (i : StripId) (on : Bool) : (s.setLine i on).ctl.time = s.ctl.time := by
  unfold State.setLine; try dsimp only
  split <;> simp
@[simp] theorem State.setLine_ctl_nextTick (i : StripId) (on : Bool) : (s.setLine i on).ctl.nextTick = s.ctl.nextTick := by
  unfold State.setLine; try dsimp only
  split <;> simp
@[simp] theorem State.setLine_ctl_params (i : StripId) (on : Bool) : (s.setLine i on).ctl.params = s.ctl.params := by
  unfold State.setLine; try dsimp only
  split <;> simp
@[simp] theorem State.setLine_chan (i : StripId) (on : Bool) (d : ChanId) : (s.setLine i on).chan d = s.chan d :=
  State.chan_congr (State.setLine_chans s i on) d
@[simp] theorem State.setLine_home (i : StripId) (on : Bool) (d : ChanId) : (s.setLine i on).home d = s.home d :=
  State.home_congr (State.setLine_windows s i on) d
@[simp] theorem State.setLine_param (i : StripId) (on : Bool) (p : Param) : (s.setLine i on).param p = s.param p := by simp [State.param]

/-! ## forceLine -/

@[simp] theorem State.forceLine_pending (i : StripId) : (s.forceLine i).pending = s.pending := by
  unfold State.forceLine; try dsimp only
  split <;> simp
@[simp] theorem State.forceLine_clock (i : StripId) : (s.forceLine i).clock = s.clock := by
  unfold State.forceLine; try dsimp only
  split <;> simp
@[simp] theorem State.forceLine_inReset (i : StripId) : (s.forceLine i).inReset = s.inReset := by
  unfold State.forceLine; try dsimp only
  split <;> simp
@[simp] theorem State.forceLine_strap (i : StripId) : (s.forceLine i).strap = s.strap := by
  unfold State.forceLine; try dsimp only
  split <;> simp
@[simp] theorem State.forceLine_windows (i : StripId) : (s.forceLine i).windows = s.windows := by
  unfold State.forceLine; try dsimp only
  split <;> simp
@[simp] theorem State.forceLine_chans (i : StripId) : (s.forceLine i).chans = s.chans := by
  unfold State.forceLine; try dsimp only
  split <;> simp
@[simp] theorem State.forceLine_taper (i : StripId) : (s.forceLine i).taper = s.taper := by
  unfold State.forceLine; try dsimp only
  split <;> simp
@[simp] theorem State.forceLine_layers (i : StripId) : (s.forceLine i).layers = s.layers := by
  unfold State.forceLine; try dsimp only
  split <;> simp
@[simp] theorem State.forceLine_drive (i : StripId) : (s.forceLine i).drive = s.drive := by
  unfold State.forceLine; try dsimp only
  split <;> simp
@[simp] theorem State.forceLine_sliceDue (i : StripId) : (s.forceLine i).sliceDue = s.sliceDue := by
  unfold State.forceLine; try dsimp only
  split <;> simp
@[simp] theorem State.forceLine_meter (i : StripId) : (s.forceLine i).meter = s.meter := by
  unfold State.forceLine; try dsimp only
  split <;> simp
@[simp] theorem State.forceLine_port_req (i : StripId) : (s.forceLine i).port.req = s.port.req := by
  unfold State.forceLine; try dsimp only
  split <;> simp
@[simp] theorem State.forceLine_port_heldBeat (i : StripId) : (s.forceLine i).port.heldBeat = s.port.heldBeat := by
  unfold State.forceLine; try dsimp only
  split <;> simp
@[simp] theorem State.forceLine_port_owed (i : StripId) : (s.forceLine i).port.owed = s.port.owed := by
  unfold State.forceLine; try dsimp only
  split <;> simp
@[simp] theorem State.forceLine_port_holder (i : StripId) : (s.forceLine i).port.holder = s.port.holder := by
  unfold State.forceLine; try dsimp only
  split <;> simp
@[simp] theorem State.forceLine_port_members (i : StripId) : (s.forceLine i).port.members = s.port.members := by
  unfold State.forceLine; try dsimp only
  split <;> simp
@[simp] theorem State.forceLine_port_alertEnd (i : StripId) : (s.forceLine i).port.alertEnd = s.port.alertEnd := by
  unfold State.forceLine; try dsimp only
  split <;> simp
@[simp] theorem State.forceLine_port_toProcessor (i : StripId) : (s.forceLine i).port.toProcessor = s.port.toProcessor := by
  unfold State.forceLine; try dsimp only
  split <;> simp
@[simp] theorem State.forceLine_port_toMemory (i : StripId) : (s.forceLine i).port.toMemory = s.port.toMemory := by
  unfold State.forceLine; try dsimp only
  split <;> simp
@[simp] theorem State.forceLine_ctl_quiet (i : StripId) : (s.forceLine i).ctl.quiet = s.ctl.quiet := by
  unfold State.forceLine; try dsimp only
  split <;> simp
@[simp] theorem State.forceLine_ctl_ringBase (i : StripId) : (s.forceLine i).ctl.ringBase = s.ctl.ringBase := by
  unfold State.forceLine; try dsimp only
  split <;> simp
@[simp] theorem State.forceLine_ctl_ringCapacity (i : StripId) : (s.forceLine i).ctl.ringCapacity = s.ctl.ringCapacity := by
  unfold State.forceLine; try dsimp only
  split <;> simp
@[simp] theorem State.forceLine_ctl_consumer (i : StripId) : (s.forceLine i).ctl.consumer = s.ctl.consumer := by
  unfold State.forceLine; try dsimp only
  split <;> simp
@[simp] theorem State.forceLine_ctl_parityCount (i : StripId) : (s.forceLine i).ctl.parityCount = s.ctl.parityCount := by
  unfold State.forceLine; try dsimp only
  split <;> simp
@[simp] theorem State.forceLine_ctl_time (i : StripId) : (s.forceLine i).ctl.time = s.ctl.time := by
  unfold State.forceLine; try dsimp only
  split <;> simp
@[simp] theorem State.forceLine_ctl_nextTick (i : StripId) : (s.forceLine i).ctl.nextTick = s.ctl.nextTick := by
  unfold State.forceLine; try dsimp only
  split <;> simp
@[simp] theorem State.forceLine_ctl_params (i : StripId) : (s.forceLine i).ctl.params = s.ctl.params := by
  unfold State.forceLine; try dsimp only
  split <;> simp
@[simp] theorem State.forceLine_chan (i : StripId) (d : ChanId) : (s.forceLine i).chan d = s.chan d :=
  State.chan_congr (State.forceLine_chans s i) d
@[simp] theorem State.forceLine_home (i : StripId) (d : ChanId) : (s.forceLine i).home d = s.home d :=
  State.home_congr (State.forceLine_windows s i) d
@[simp] theorem State.forceLine_param (i : StripId) (p : Param) : (s.forceLine i).param p = s.param p := by simp [State.param]

/-! ## evalLine -/

@[simp] theorem State.evalLine_pending (i : StripId) : (s.evalLine i).pending = s.pending := by simp [State.evalLine]
@[simp] theorem State.evalLine_clock (i : StripId) : (s.evalLine i).clock = s.clock := by simp [State.evalLine]
@[simp] theorem State.evalLine_inReset (i : StripId) : (s.evalLine i).inReset = s.inReset := by simp [State.evalLine]
@[simp] theorem State.evalLine_strap (i : StripId) : (s.evalLine i).strap = s.strap := by simp [State.evalLine]
@[simp] theorem State.evalLine_windows (i : StripId) : (s.evalLine i).windows = s.windows := by simp [State.evalLine]
@[simp] theorem State.evalLine_chans (i : StripId) : (s.evalLine i).chans = s.chans := by simp [State.evalLine]
@[simp] theorem State.evalLine_taper (i : StripId) : (s.evalLine i).taper = s.taper := by simp [State.evalLine]
@[simp] theorem State.evalLine_layers (i : StripId) : (s.evalLine i).layers = s.layers := by simp [State.evalLine]
@[simp] theorem State.evalLine_drive (i : StripId) : (s.evalLine i).drive = s.drive := by simp [State.evalLine]
@[simp] theorem State.evalLine_sliceDue (i : StripId) : (s.evalLine i).sliceDue = s.sliceDue := by simp [State.evalLine]
@[simp] theorem State.evalLine_meter (i : StripId) : (s.evalLine i).meter = s.meter := by simp [State.evalLine]
@[simp] theorem State.evalLine_port_req (i : StripId) : (s.evalLine i).port.req = s.port.req := by simp [State.evalLine]
@[simp] theorem State.evalLine_port_heldBeat (i : StripId) : (s.evalLine i).port.heldBeat = s.port.heldBeat := by simp [State.evalLine]
@[simp] theorem State.evalLine_port_owed (i : StripId) : (s.evalLine i).port.owed = s.port.owed := by simp [State.evalLine]
@[simp] theorem State.evalLine_port_holder (i : StripId) : (s.evalLine i).port.holder = s.port.holder := by simp [State.evalLine]
@[simp] theorem State.evalLine_port_members (i : StripId) : (s.evalLine i).port.members = s.port.members := by simp [State.evalLine]
@[simp] theorem State.evalLine_port_alertEnd (i : StripId) : (s.evalLine i).port.alertEnd = s.port.alertEnd := by simp [State.evalLine]
@[simp] theorem State.evalLine_port_toProcessor (i : StripId) : (s.evalLine i).port.toProcessor = s.port.toProcessor := by simp [State.evalLine]
@[simp] theorem State.evalLine_port_toMemory (i : StripId) : (s.evalLine i).port.toMemory = s.port.toMemory := by simp [State.evalLine]
@[simp] theorem State.evalLine_ctl_quiet (i : StripId) : (s.evalLine i).ctl.quiet = s.ctl.quiet := by simp [State.evalLine]
@[simp] theorem State.evalLine_ctl_ringBase (i : StripId) : (s.evalLine i).ctl.ringBase = s.ctl.ringBase := by simp [State.evalLine]
@[simp] theorem State.evalLine_ctl_ringCapacity (i : StripId) : (s.evalLine i).ctl.ringCapacity = s.ctl.ringCapacity := by simp [State.evalLine]
@[simp] theorem State.evalLine_ctl_consumer (i : StripId) : (s.evalLine i).ctl.consumer = s.ctl.consumer := by simp [State.evalLine]
@[simp] theorem State.evalLine_ctl_parityCount (i : StripId) : (s.evalLine i).ctl.parityCount = s.ctl.parityCount := by simp [State.evalLine]
@[simp] theorem State.evalLine_ctl_time (i : StripId) : (s.evalLine i).ctl.time = s.ctl.time := by simp [State.evalLine]
@[simp] theorem State.evalLine_ctl_nextTick (i : StripId) : (s.evalLine i).ctl.nextTick = s.ctl.nextTick := by simp [State.evalLine]
@[simp] theorem State.evalLine_ctl_params (i : StripId) : (s.evalLine i).ctl.params = s.ctl.params := by simp [State.evalLine]
@[simp] theorem State.evalLine_chan (i : StripId) (d : ChanId) : (s.evalLine i).chan d = s.chan d :=
  State.chan_congr (State.evalLine_chans s i) d
@[simp] theorem State.evalLine_home (i : StripId) (d : ChanId) : (s.evalLine i).home d = s.home d :=
  State.home_congr (State.evalLine_windows s i) d
@[simp] theorem State.evalLine_param (i : StripId) (p : Param) : (s.evalLine i).param p = s.param p := by simp [State.param]

/-! ## takeChannel -/

@[simp] theorem State.takeChannel_pending (i : StripId) (x : Option ChanId) : (s.takeChannel i x).pending = s.pending := by
  unfold State.takeChannel; dsimp only; (repeat' split) <;> simp
@[simp] theorem State.takeChannel_clock (i : StripId) (x : Option ChanId) : (s.takeChannel i x).clock = s.clock := by
  unfold State.takeChannel; dsimp only; (repeat' split) <;> simp
@[simp] theorem State.takeChannel_inReset (i : StripId) (x : Option ChanId) : (s.takeChannel i x).inReset = s.inReset := by
  unfold State.takeChannel; dsimp only; (repeat' split) <;> simp
@[simp] theorem State.takeChannel_strap (i : StripId) (x : Option ChanId) : (s.takeChannel i x).strap = s.strap := by
  unfold State.takeChannel; dsimp only; (repeat' split) <;> simp
@[simp] theorem State.takeChannel_windows (i : StripId) (x : Option ChanId) : (s.takeChannel i x).windows = s.windows := by
  unfold State.takeChannel; dsimp only; (repeat' split) <;> simp
@[simp] theorem State.takeChannel_chans (i : StripId) (x : Option ChanId) : (s.takeChannel i x).chans = s.chans := by
  unfold State.takeChannel; dsimp only; (repeat' split) <;> simp
@[simp] theorem State.takeChannel_layers (i : StripId) (x : Option ChanId) : (s.takeChannel i x).layers = s.layers := by
  unfold State.takeChannel; dsimp only; (repeat' split) <;> simp
@[simp] theorem State.takeChannel_sliceDue (i : StripId) (x : Option ChanId) : (s.takeChannel i x).sliceDue = s.sliceDue := by
  unfold State.takeChannel; dsimp only; (repeat' split) <;> simp
@[simp] theorem State.takeChannel_meter (i : StripId) (x : Option ChanId) : (s.takeChannel i x).meter = s.meter := by
  unfold State.takeChannel; dsimp only; (repeat' split) <;> simp
@[simp] theorem State.takeChannel_port_req (i : StripId) (x : Option ChanId) : (s.takeChannel i x).port.req = s.port.req := by
  unfold State.takeChannel; dsimp only; (repeat' split) <;> simp
@[simp] theorem State.takeChannel_port_heldBeat (i : StripId) (x : Option ChanId) : (s.takeChannel i x).port.heldBeat = s.port.heldBeat := by
  unfold State.takeChannel; dsimp only; (repeat' split) <;> simp
@[simp] theorem State.takeChannel_port_owed (i : StripId) (x : Option ChanId) : (s.takeChannel i x).port.owed = s.port.owed := by
  unfold State.takeChannel; dsimp only; (repeat' split) <;> simp
@[simp] theorem State.takeChannel_port_holder (i : StripId) (x : Option ChanId) : (s.takeChannel i x).port.holder = s.port.holder := by
  unfold State.takeChannel; dsimp only; (repeat' split) <;> simp
@[simp] theorem State.takeChannel_port_members (i : StripId) (x : Option ChanId) : (s.takeChannel i x).port.members = s.port.members := by
  unfold State.takeChannel; dsimp only; (repeat' split) <;> simp
@[simp] theorem State.takeChannel_port_alertEnd (i : StripId) (x : Option ChanId) : (s.takeChannel i x).port.alertEnd = s.port.alertEnd := by
  unfold State.takeChannel; dsimp only; (repeat' split) <;> simp
@[simp] theorem State.takeChannel_port_toProcessor (i : StripId) (x : Option ChanId) : (s.takeChannel i x).port.toProcessor = s.port.toProcessor := by
  unfold State.takeChannel; dsimp only; (repeat' split) <;> simp
@[simp] theorem State.takeChannel_port_toMemory (i : StripId) (x : Option ChanId) : (s.takeChannel i x).port.toMemory = s.port.toMemory := by
  unfold State.takeChannel; dsimp only; (repeat' split) <;> simp
@[simp] theorem State.takeChannel_ctl_quiet (i : StripId) (x : Option ChanId) : (s.takeChannel i x).ctl.quiet = s.ctl.quiet := by
  unfold State.takeChannel; dsimp only; (repeat' split) <;> simp
@[simp] theorem State.takeChannel_ctl_ringBase (i : StripId) (x : Option ChanId) : (s.takeChannel i x).ctl.ringBase = s.ctl.ringBase := by
  unfold State.takeChannel; dsimp only; (repeat' split) <;> simp
@[simp] theorem State.takeChannel_ctl_ringCapacity (i : StripId) (x : Option ChanId) : (s.takeChannel i x).ctl.ringCapacity = s.ctl.ringCapacity := by
  unfold State.takeChannel; dsimp only; (repeat' split) <;> simp
@[simp] theorem State.takeChannel_ctl_consumer (i : StripId) (x : Option ChanId) : (s.takeChannel i x).ctl.consumer = s.ctl.consumer := by
  unfold State.takeChannel; dsimp only; (repeat' split) <;> simp
@[simp] theorem State.takeChannel_ctl_parityCount (i : StripId) (x : Option ChanId) : (s.takeChannel i x).ctl.parityCount = s.ctl.parityCount := by
  unfold State.takeChannel; dsimp only; (repeat' split) <;> simp
@[simp] theorem State.takeChannel_ctl_time (i : StripId) (x : Option ChanId) : (s.takeChannel i x).ctl.time = s.ctl.time := by
  unfold State.takeChannel; dsimp only; (repeat' split) <;> simp
@[simp] theorem State.takeChannel_ctl_nextTick (i : StripId) (x : Option ChanId) : (s.takeChannel i x).ctl.nextTick = s.ctl.nextTick := by
  unfold State.takeChannel; dsimp only; (repeat' split) <;> simp
@[simp] theorem State.takeChannel_ctl_params (i : StripId) (x : Option ChanId) : (s.takeChannel i x).ctl.params = s.ctl.params := by
  unfold State.takeChannel; dsimp only; (repeat' split) <;> simp
@[simp] theorem State.takeChannel_chan (i : StripId) (x : Option ChanId) (d : ChanId) : (s.takeChannel i x).chan d = s.chan d :=
  State.chan_congr (State.takeChannel_chans s i x) d
@[simp] theorem State.takeChannel_home (i : StripId) (x : Option ChanId) (d : ChanId) : (s.takeChannel i x).home d = s.home d :=
  State.home_congr (State.takeChannel_windows s i x) d
@[simp] theorem State.takeChannel_param (i : StripId) (x : Option ChanId) (p : Param) : (s.takeChannel i x).param p = s.param p := by simp [State.param]

/-! ## adopt -/

@[simp] theorem State.adopt_pending (i : StripId) (x : Option ChanId) : (s.adopt i x).pending = s.pending := by
  unfold State.adopt; try dsimp only
  (repeat' split) <;> simp
@[simp] theorem State.adopt_clock (i : StripId) (x : Option ChanId) : (s.adopt i x).clock = s.clock := by
  unfold State.adopt; try dsimp only
  (repeat' split) <;> simp
@[simp] theorem State.adopt_inReset (i : StripId) (x : Option ChanId) : (s.adopt i x).inReset = s.inReset := by
  unfold State.adopt; try dsimp only
  (repeat' split) <;> simp
@[simp] theorem State.adopt_strap (i : StripId) (x : Option ChanId) : (s.adopt i x).strap = s.strap := by
  unfold State.adopt; try dsimp only
  (repeat' split) <;> simp
@[simp] theorem State.adopt_windows (i : StripId) (x : Option ChanId) : (s.adopt i x).windows = s.windows := by
  unfold State.adopt; try dsimp only
  (repeat' split) <;> simp
@[simp] theorem State.adopt_chans (i : StripId) (x : Option ChanId) : (s.adopt i x).chans = s.chans := by
  unfold State.adopt; try dsimp only
  (repeat' split) <;> simp
@[simp] theorem State.adopt_layers (i : StripId) (x : Option ChanId) : (s.adopt i x).layers = s.layers := by
  unfold State.adopt; try dsimp only
  (repeat' split) <;> simp
@[simp] theorem State.adopt_sliceDue (i : StripId) (x : Option ChanId) : (s.adopt i x).sliceDue = s.sliceDue := by
  unfold State.adopt; try dsimp only
  (repeat' split) <;> simp
@[simp] theorem State.adopt_meter (i : StripId) (x : Option ChanId) : (s.adopt i x).meter = s.meter := by
  unfold State.adopt; try dsimp only
  (repeat' split) <;> simp
@[simp] theorem State.adopt_port_req (i : StripId) (x : Option ChanId) : (s.adopt i x).port.req = s.port.req := by
  unfold State.adopt; try dsimp only
  (repeat' split) <;> simp
@[simp] theorem State.adopt_port_heldBeat (i : StripId) (x : Option ChanId) : (s.adopt i x).port.heldBeat = s.port.heldBeat := by
  unfold State.adopt; try dsimp only
  (repeat' split) <;> simp
@[simp] theorem State.adopt_port_owed (i : StripId) (x : Option ChanId) : (s.adopt i x).port.owed = s.port.owed := by
  unfold State.adopt; try dsimp only
  (repeat' split) <;> simp
@[simp] theorem State.adopt_port_holder (i : StripId) (x : Option ChanId) : (s.adopt i x).port.holder = s.port.holder := by
  unfold State.adopt; try dsimp only
  (repeat' split) <;> simp
@[simp] theorem State.adopt_port_members (i : StripId) (x : Option ChanId) : (s.adopt i x).port.members = s.port.members := by
  unfold State.adopt; try dsimp only
  (repeat' split) <;> simp
@[simp] theorem State.adopt_port_alertEnd (i : StripId) (x : Option ChanId) : (s.adopt i x).port.alertEnd = s.port.alertEnd := by
  unfold State.adopt; try dsimp only
  (repeat' split) <;> simp
@[simp] theorem State.adopt_port_toProcessor (i : StripId) (x : Option ChanId) : (s.adopt i x).port.toProcessor = s.port.toProcessor := by
  unfold State.adopt; try dsimp only
  (repeat' split) <;> simp
@[simp] theorem State.adopt_port_toMemory (i : StripId) (x : Option ChanId) : (s.adopt i x).port.toMemory = s.port.toMemory := by
  unfold State.adopt; try dsimp only
  (repeat' split) <;> simp
@[simp] theorem State.adopt_ctl_quiet (i : StripId) (x : Option ChanId) : (s.adopt i x).ctl.quiet = s.ctl.quiet := by
  unfold State.adopt; try dsimp only
  (repeat' split) <;> simp
@[simp] theorem State.adopt_ctl_ringBase (i : StripId) (x : Option ChanId) : (s.adopt i x).ctl.ringBase = s.ctl.ringBase := by
  unfold State.adopt; try dsimp only
  (repeat' split) <;> simp
@[simp] theorem State.adopt_ctl_ringCapacity (i : StripId) (x : Option ChanId) : (s.adopt i x).ctl.ringCapacity = s.ctl.ringCapacity := by
  unfold State.adopt; try dsimp only
  (repeat' split) <;> simp
@[simp] theorem State.adopt_ctl_consumer (i : StripId) (x : Option ChanId) : (s.adopt i x).ctl.consumer = s.ctl.consumer := by
  unfold State.adopt; try dsimp only
  (repeat' split) <;> simp
@[simp] theorem State.adopt_ctl_parityCount (i : StripId) (x : Option ChanId) : (s.adopt i x).ctl.parityCount = s.ctl.parityCount := by
  unfold State.adopt; try dsimp only
  (repeat' split) <;> simp
@[simp] theorem State.adopt_ctl_time (i : StripId) (x : Option ChanId) : (s.adopt i x).ctl.time = s.ctl.time := by
  unfold State.adopt; try dsimp only
  (repeat' split) <;> simp
@[simp] theorem State.adopt_ctl_nextTick (i : StripId) (x : Option ChanId) : (s.adopt i x).ctl.nextTick = s.ctl.nextTick := by
  unfold State.adopt; try dsimp only
  (repeat' split) <;> simp
@[simp] theorem State.adopt_ctl_params (i : StripId) (x : Option ChanId) : (s.adopt i x).ctl.params = s.ctl.params := by
  unfold State.adopt; try dsimp only
  (repeat' split) <;> simp
@[simp] theorem State.adopt_chan (i : StripId) (x : Option ChanId) (d : ChanId) : (s.adopt i x).chan d = s.chan d :=
  State.chan_congr (State.adopt_chans s i x) d
@[simp] theorem State.adopt_home (i : StripId) (x : Option ChanId) (d : ChanId) : (s.adopt i x).home d = s.home d :=
  State.home_congr (State.adopt_windows s i x) d
@[simp] theorem State.adopt_param (i : StripId) (x : Option ChanId) (p : Param) : (s.adopt i x).param p = s.param p := by simp [State.param]

/-! ## layerApplied -/

@[simp] theorem State.layerApplied_pending (i : StripId) : (s.layerApplied i).pending = s.pending := by simp [State.layerApplied]
@[simp] theorem State.layerApplied_clock (i : StripId) : (s.layerApplied i).clock = s.clock := by simp [State.layerApplied]
@[simp] theorem State.layerApplied_inReset (i : StripId) : (s.layerApplied i).inReset = s.inReset := by simp [State.layerApplied]
@[simp] theorem State.layerApplied_strap (i : StripId) : (s.layerApplied i).strap = s.strap := by simp [State.layerApplied]
@[simp] theorem State.layerApplied_windows (i : StripId) : (s.layerApplied i).windows = s.windows := by simp [State.layerApplied]
@[simp] theorem State.layerApplied_chans (i : StripId) : (s.layerApplied i).chans = s.chans := by simp [State.layerApplied]
@[simp] theorem State.layerApplied_taper (i : StripId) : (s.layerApplied i).taper = s.taper := by simp [State.layerApplied]
@[simp] theorem State.layerApplied_strips (i : StripId) : (s.layerApplied i).strips = s.strips := by simp [State.layerApplied]
@[simp] theorem State.layerApplied_layers (i : StripId) : (s.layerApplied i).layers = s.layers := by simp [State.layerApplied]
@[simp] theorem State.layerApplied_drive (i : StripId) : (s.layerApplied i).drive = s.drive := by simp [State.layerApplied]
@[simp] theorem State.layerApplied_sliceDue (i : StripId) : (s.layerApplied i).sliceDue = s.sliceDue := by simp [State.layerApplied]
@[simp] theorem State.layerApplied_meter (i : StripId) : (s.layerApplied i).meter = s.meter := by simp [State.layerApplied]
@[simp] theorem State.layerApplied_port_req (i : StripId) : (s.layerApplied i).port.req = s.port.req := by simp [State.layerApplied]
@[simp] theorem State.layerApplied_port_heldBeat (i : StripId) : (s.layerApplied i).port.heldBeat = s.port.heldBeat := by simp [State.layerApplied]
@[simp] theorem State.layerApplied_port_owed (i : StripId) : (s.layerApplied i).port.owed = s.port.owed := by simp [State.layerApplied]
@[simp] theorem State.layerApplied_port_holder (i : StripId) : (s.layerApplied i).port.holder = s.port.holder := by simp [State.layerApplied]
@[simp] theorem State.layerApplied_port_members (i : StripId) : (s.layerApplied i).port.members = s.port.members := by simp [State.layerApplied]
@[simp] theorem State.layerApplied_port_alertEnd (i : StripId) : (s.layerApplied i).port.alertEnd = s.port.alertEnd := by simp [State.layerApplied]
@[simp] theorem State.layerApplied_port_toProcessor (i : StripId) : (s.layerApplied i).port.toProcessor = s.port.toProcessor := by simp [State.layerApplied]
@[simp] theorem State.layerApplied_port_toMemory (i : StripId) : (s.layerApplied i).port.toMemory = s.port.toMemory := by simp [State.layerApplied]
@[simp] theorem State.layerApplied_ctl_quiet (i : StripId) : (s.layerApplied i).ctl.quiet = s.ctl.quiet := by simp [State.layerApplied]
@[simp] theorem State.layerApplied_ctl_ringBase (i : StripId) : (s.layerApplied i).ctl.ringBase = s.ctl.ringBase := by simp [State.layerApplied]
@[simp] theorem State.layerApplied_ctl_ringCapacity (i : StripId) : (s.layerApplied i).ctl.ringCapacity = s.ctl.ringCapacity := by simp [State.layerApplied]
@[simp] theorem State.layerApplied_ctl_consumer (i : StripId) : (s.layerApplied i).ctl.consumer = s.ctl.consumer := by simp [State.layerApplied]
@[simp] theorem State.layerApplied_ctl_parityCount (i : StripId) : (s.layerApplied i).ctl.parityCount = s.ctl.parityCount := by simp [State.layerApplied]
@[simp] theorem State.layerApplied_ctl_time (i : StripId) : (s.layerApplied i).ctl.time = s.ctl.time := by simp [State.layerApplied]
@[simp] theorem State.layerApplied_ctl_nextTick (i : StripId) : (s.layerApplied i).ctl.nextTick = s.ctl.nextTick := by simp [State.layerApplied]
@[simp] theorem State.layerApplied_ctl_params (i : StripId) : (s.layerApplied i).ctl.params = s.ctl.params := by simp [State.layerApplied]
@[simp] theorem State.layerApplied_strip (i : StripId) (j : StripId) : (s.layerApplied i).strip j = s.strip j :=
  State.strip_congr (State.layerApplied_strips s i) j
@[simp] theorem State.layerApplied_chan (i : StripId) (d : ChanId) : (s.layerApplied i).chan d = s.chan d :=
  State.chan_congr (State.layerApplied_chans s i) d
@[simp] theorem State.layerApplied_home (i : StripId) (d : ChanId) : (s.layerApplied i).home d = s.home d :=
  State.home_congr (State.layerApplied_windows s i) d
@[simp] theorem State.layerApplied_param (i : StripId) (p : Param) : (s.layerApplied i).param p = s.param p := by simp [State.param]

/-! ## releaseConflict -/

@[simp] theorem State.releaseConflict_pending (x : ChanId) : (s.releaseConflict x).pending = s.pending := by
  unfold State.releaseConflict; try dsimp only
  (repeat' split) <;> simp
@[simp] theorem State.releaseConflict_clock (x : ChanId) : (s.releaseConflict x).clock = s.clock := by
  unfold State.releaseConflict; try dsimp only
  (repeat' split) <;> simp
@[simp] theorem State.releaseConflict_inReset (x : ChanId) : (s.releaseConflict x).inReset = s.inReset := by
  unfold State.releaseConflict; try dsimp only
  (repeat' split) <;> simp
@[simp] theorem State.releaseConflict_strap (x : ChanId) : (s.releaseConflict x).strap = s.strap := by
  unfold State.releaseConflict; try dsimp only
  (repeat' split) <;> simp
@[simp] theorem State.releaseConflict_windows (x : ChanId) : (s.releaseConflict x).windows = s.windows := by
  unfold State.releaseConflict; try dsimp only
  (repeat' split) <;> simp
@[simp] theorem State.releaseConflict_chans (x : ChanId) : (s.releaseConflict x).chans = s.chans := by
  unfold State.releaseConflict; try dsimp only
  (repeat' split) <;> simp
@[simp] theorem State.releaseConflict_layers (x : ChanId) : (s.releaseConflict x).layers = s.layers := by
  unfold State.releaseConflict; try dsimp only
  (repeat' split) <;> simp
@[simp] theorem State.releaseConflict_sliceDue (x : ChanId) : (s.releaseConflict x).sliceDue = s.sliceDue := by
  unfold State.releaseConflict; try dsimp only
  (repeat' split) <;> simp
@[simp] theorem State.releaseConflict_meter (x : ChanId) : (s.releaseConflict x).meter = s.meter := by
  unfold State.releaseConflict; try dsimp only
  (repeat' split) <;> simp
@[simp] theorem State.releaseConflict_port_req (x : ChanId) : (s.releaseConflict x).port.req = s.port.req := by
  unfold State.releaseConflict; try dsimp only
  (repeat' split) <;> simp
@[simp] theorem State.releaseConflict_port_heldBeat (x : ChanId) : (s.releaseConflict x).port.heldBeat = s.port.heldBeat := by
  unfold State.releaseConflict; try dsimp only
  (repeat' split) <;> simp
@[simp] theorem State.releaseConflict_port_owed (x : ChanId) : (s.releaseConflict x).port.owed = s.port.owed := by
  unfold State.releaseConflict; try dsimp only
  (repeat' split) <;> simp
@[simp] theorem State.releaseConflict_port_holder (x : ChanId) : (s.releaseConflict x).port.holder = s.port.holder := by
  unfold State.releaseConflict; try dsimp only
  (repeat' split) <;> simp
@[simp] theorem State.releaseConflict_port_members (x : ChanId) : (s.releaseConflict x).port.members = s.port.members := by
  unfold State.releaseConflict; try dsimp only
  (repeat' split) <;> simp
@[simp] theorem State.releaseConflict_port_alertEnd (x : ChanId) : (s.releaseConflict x).port.alertEnd = s.port.alertEnd := by
  unfold State.releaseConflict; try dsimp only
  (repeat' split) <;> simp
@[simp] theorem State.releaseConflict_port_toProcessor (x : ChanId) : (s.releaseConflict x).port.toProcessor = s.port.toProcessor := by
  unfold State.releaseConflict; try dsimp only
  (repeat' split) <;> simp
@[simp] theorem State.releaseConflict_port_toMemory (x : ChanId) : (s.releaseConflict x).port.toMemory = s.port.toMemory := by
  unfold State.releaseConflict; try dsimp only
  (repeat' split) <;> simp
@[simp] theorem State.releaseConflict_ctl_quiet (x : ChanId) : (s.releaseConflict x).ctl.quiet = s.ctl.quiet := by
  unfold State.releaseConflict; try dsimp only
  (repeat' split) <;> simp
@[simp] theorem State.releaseConflict_ctl_ringBase (x : ChanId) : (s.releaseConflict x).ctl.ringBase = s.ctl.ringBase := by
  unfold State.releaseConflict; try dsimp only
  (repeat' split) <;> simp
@[simp] theorem State.releaseConflict_ctl_ringCapacity (x : ChanId) : (s.releaseConflict x).ctl.ringCapacity = s.ctl.ringCapacity := by
  unfold State.releaseConflict; try dsimp only
  (repeat' split) <;> simp
@[simp] theorem State.releaseConflict_ctl_consumer (x : ChanId) : (s.releaseConflict x).ctl.consumer = s.ctl.consumer := by
  unfold State.releaseConflict; try dsimp only
  (repeat' split) <;> simp
@[simp] theorem State.releaseConflict_ctl_parityCount (x : ChanId) : (s.releaseConflict x).ctl.parityCount = s.ctl.parityCount := by
  unfold State.releaseConflict; try dsimp only
  (repeat' split) <;> simp
@[simp] theorem State.releaseConflict_ctl_time (x : ChanId) : (s.releaseConflict x).ctl.time = s.ctl.time := by
  unfold State.releaseConflict; try dsimp only
  (repeat' split) <;> simp
@[simp] theorem State.releaseConflict_ctl_nextTick (x : ChanId) : (s.releaseConflict x).ctl.nextTick = s.ctl.nextTick := by
  unfold State.releaseConflict; try dsimp only
  (repeat' split) <;> simp
@[simp] theorem State.releaseConflict_ctl_params (x : ChanId) : (s.releaseConflict x).ctl.params = s.ctl.params := by
  unfold State.releaseConflict; try dsimp only
  (repeat' split) <;> simp
@[simp] theorem State.releaseConflict_chan (x : ChanId) (d : ChanId) : (s.releaseConflict x).chan d = s.chan d :=
  State.chan_congr (State.releaseConflict_chans s x) d
@[simp] theorem State.releaseConflict_home (x : ChanId) (d : ChanId) : (s.releaseConflict x).home d = s.home d :=
  State.home_congr (State.releaseConflict_windows s x) d
@[simp] theorem State.releaseConflict_param (x : ChanId) (p : Param) : (s.releaseConflict x).param p = s.param p := by simp [State.param]

/-! ## giveUp -/

@[simp] theorem State.giveUp_pending (i : StripId) (old : Option ChanId) : (s.giveUp i old).pending = s.pending := by
  unfold State.giveUp; try dsimp only
  (repeat' split) <;> simp
@[simp] theorem State.giveUp_clock (i : StripId) (old : Option ChanId) : (s.giveUp i old).clock = s.clock := by
  unfold State.giveUp; try dsimp only
  (repeat' split) <;> simp
@[simp] theorem State.giveUp_inReset (i : StripId) (old : Option ChanId) : (s.giveUp i old).inReset = s.inReset := by
  unfold State.giveUp; try dsimp only
  (repeat' split) <;> simp
@[simp] theorem State.giveUp_strap (i : StripId) (old : Option ChanId) : (s.giveUp i old).strap = s.strap := by
  unfold State.giveUp; try dsimp only
  (repeat' split) <;> simp
@[simp] theorem State.giveUp_windows (i : StripId) (old : Option ChanId) : (s.giveUp i old).windows = s.windows := by
  unfold State.giveUp; try dsimp only
  (repeat' split) <;> simp
@[simp] theorem State.giveUp_chans (i : StripId) (old : Option ChanId) : (s.giveUp i old).chans = s.chans := by
  unfold State.giveUp; try dsimp only
  (repeat' split) <;> simp
@[simp] theorem State.giveUp_layers (i : StripId) (old : Option ChanId) : (s.giveUp i old).layers = s.layers := by
  unfold State.giveUp; try dsimp only
  (repeat' split) <;> simp
@[simp] theorem State.giveUp_sliceDue (i : StripId) (old : Option ChanId) : (s.giveUp i old).sliceDue = s.sliceDue := by
  unfold State.giveUp; try dsimp only
  (repeat' split) <;> simp
@[simp] theorem State.giveUp_meter (i : StripId) (old : Option ChanId) : (s.giveUp i old).meter = s.meter := by
  unfold State.giveUp; try dsimp only
  (repeat' split) <;> simp
@[simp] theorem State.giveUp_port_req (i : StripId) (old : Option ChanId) : (s.giveUp i old).port.req = s.port.req := by
  unfold State.giveUp; try dsimp only
  (repeat' split) <;> simp
@[simp] theorem State.giveUp_port_heldBeat (i : StripId) (old : Option ChanId) : (s.giveUp i old).port.heldBeat = s.port.heldBeat := by
  unfold State.giveUp; try dsimp only
  (repeat' split) <;> simp
@[simp] theorem State.giveUp_port_owed (i : StripId) (old : Option ChanId) : (s.giveUp i old).port.owed = s.port.owed := by
  unfold State.giveUp; try dsimp only
  (repeat' split) <;> simp
@[simp] theorem State.giveUp_port_holder (i : StripId) (old : Option ChanId) : (s.giveUp i old).port.holder = s.port.holder := by
  unfold State.giveUp; try dsimp only
  (repeat' split) <;> simp
@[simp] theorem State.giveUp_port_members (i : StripId) (old : Option ChanId) : (s.giveUp i old).port.members = s.port.members := by
  unfold State.giveUp; try dsimp only
  (repeat' split) <;> simp
@[simp] theorem State.giveUp_port_alertEnd (i : StripId) (old : Option ChanId) : (s.giveUp i old).port.alertEnd = s.port.alertEnd := by
  unfold State.giveUp; try dsimp only
  (repeat' split) <;> simp
@[simp] theorem State.giveUp_port_toProcessor (i : StripId) (old : Option ChanId) : (s.giveUp i old).port.toProcessor = s.port.toProcessor := by
  unfold State.giveUp; try dsimp only
  (repeat' split) <;> simp
@[simp] theorem State.giveUp_port_toMemory (i : StripId) (old : Option ChanId) : (s.giveUp i old).port.toMemory = s.port.toMemory := by
  unfold State.giveUp; try dsimp only
  (repeat' split) <;> simp
@[simp] theorem State.giveUp_ctl_quiet (i : StripId) (old : Option ChanId) : (s.giveUp i old).ctl.quiet = s.ctl.quiet := by
  unfold State.giveUp; try dsimp only
  (repeat' split) <;> simp
@[simp] theorem State.giveUp_ctl_ringBase (i : StripId) (old : Option ChanId) : (s.giveUp i old).ctl.ringBase = s.ctl.ringBase := by
  unfold State.giveUp; try dsimp only
  (repeat' split) <;> simp
@[simp] theorem State.giveUp_ctl_ringCapacity (i : StripId) (old : Option ChanId) : (s.giveUp i old).ctl.ringCapacity = s.ctl.ringCapacity := by
  unfold State.giveUp; try dsimp only
  (repeat' split) <;> simp
@[simp] theorem State.giveUp_ctl_consumer (i : StripId) (old : Option ChanId) : (s.giveUp i old).ctl.consumer = s.ctl.consumer := by
  unfold State.giveUp; try dsimp only
  (repeat' split) <;> simp
@[simp] theorem State.giveUp_ctl_parityCount (i : StripId) (old : Option ChanId) : (s.giveUp i old).ctl.parityCount = s.ctl.parityCount := by
  unfold State.giveUp; try dsimp only
  (repeat' split) <;> simp
@[simp] theorem State.giveUp_ctl_time (i : StripId) (old : Option ChanId) : (s.giveUp i old).ctl.time = s.ctl.time := by
  unfold State.giveUp; try dsimp only
  (repeat' split) <;> simp
@[simp] theorem State.giveUp_ctl_nextTick (i : StripId) (old : Option ChanId) : (s.giveUp i old).ctl.nextTick = s.ctl.nextTick := by
  unfold State.giveUp; try dsimp only
  (repeat' split) <;> simp
@[simp] theorem State.giveUp_ctl_params (i : StripId) (old : Option ChanId) : (s.giveUp i old).ctl.params = s.ctl.params := by
  unfold State.giveUp; try dsimp only
  (repeat' split) <;> simp
@[simp] theorem State.giveUp_chan (i : StripId) (old : Option ChanId) (d : ChanId) : (s.giveUp i old).chan d = s.chan d :=
  State.chan_congr (State.giveUp_chans s i old) d
@[simp] theorem State.giveUp_home (i : StripId) (old : Option ChanId) (d : ChanId) : (s.giveUp i old).home d = s.home d :=
  State.home_congr (State.giveUp_windows s i old) d
@[simp] theorem State.giveUp_param (i : StripId) (old : Option ChanId) (p : Param) : (s.giveUp i old).param p = s.param p := by simp [State.param]

/-! ## adoptPending -/

@[simp] theorem State.adoptPending_pending (i : StripId) (x : Option ChanId) : (s.adoptPending i x).pending = s.pending := by simp [State.adoptPending]
@[simp] theorem State.adoptPending_clock (i : StripId) (x : Option ChanId) : (s.adoptPending i x).clock = s.clock := by simp [State.adoptPending]
@[simp] theorem State.adoptPending_inReset (i : StripId) (x : Option ChanId) : (s.adoptPending i x).inReset = s.inReset := by simp [State.adoptPending]
@[simp] theorem State.adoptPending_strap (i : StripId) (x : Option ChanId) : (s.adoptPending i x).strap = s.strap := by simp [State.adoptPending]
@[simp] theorem State.adoptPending_windows (i : StripId) (x : Option ChanId) : (s.adoptPending i x).windows = s.windows := by simp [State.adoptPending]
@[simp] theorem State.adoptPending_chans (i : StripId) (x : Option ChanId) : (s.adoptPending i x).chans = s.chans := by simp [State.adoptPending]
@[simp] theorem State.adoptPending_layers (i : StripId) (x : Option ChanId) : (s.adoptPending i x).layers = s.layers := by simp [State.adoptPending]
@[simp] theorem State.adoptPending_sliceDue (i : StripId) (x : Option ChanId) : (s.adoptPending i x).sliceDue = s.sliceDue := by simp [State.adoptPending]
@[simp] theorem State.adoptPending_meter (i : StripId) (x : Option ChanId) : (s.adoptPending i x).meter = s.meter := by simp [State.adoptPending]
@[simp] theorem State.adoptPending_port_req (i : StripId) (x : Option ChanId) : (s.adoptPending i x).port.req = s.port.req := by simp [State.adoptPending]
@[simp] theorem State.adoptPending_port_heldBeat (i : StripId) (x : Option ChanId) : (s.adoptPending i x).port.heldBeat = s.port.heldBeat := by simp [State.adoptPending]
@[simp] theorem State.adoptPending_port_owed (i : StripId) (x : Option ChanId) : (s.adoptPending i x).port.owed = s.port.owed := by simp [State.adoptPending]
@[simp] theorem State.adoptPending_port_holder (i : StripId) (x : Option ChanId) : (s.adoptPending i x).port.holder = s.port.holder := by simp [State.adoptPending]
@[simp] theorem State.adoptPending_port_members (i : StripId) (x : Option ChanId) : (s.adoptPending i x).port.members = s.port.members := by simp [State.adoptPending]
@[simp] theorem State.adoptPending_port_alertEnd (i : StripId) (x : Option ChanId) : (s.adoptPending i x).port.alertEnd = s.port.alertEnd := by simp [State.adoptPending]
@[simp] theorem State.adoptPending_port_toProcessor (i : StripId) (x : Option ChanId) : (s.adoptPending i x).port.toProcessor = s.port.toProcessor := by simp [State.adoptPending]
@[simp] theorem State.adoptPending_port_toMemory (i : StripId) (x : Option ChanId) : (s.adoptPending i x).port.toMemory = s.port.toMemory := by simp [State.adoptPending]
@[simp] theorem State.adoptPending_ctl_quiet (i : StripId) (x : Option ChanId) : (s.adoptPending i x).ctl.quiet = s.ctl.quiet := by simp [State.adoptPending]
@[simp] theorem State.adoptPending_ctl_ringBase (i : StripId) (x : Option ChanId) : (s.adoptPending i x).ctl.ringBase = s.ctl.ringBase := by simp [State.adoptPending]
@[simp] theorem State.adoptPending_ctl_ringCapacity (i : StripId) (x : Option ChanId) : (s.adoptPending i x).ctl.ringCapacity = s.ctl.ringCapacity := by simp [State.adoptPending]
@[simp] theorem State.adoptPending_ctl_consumer (i : StripId) (x : Option ChanId) : (s.adoptPending i x).ctl.consumer = s.ctl.consumer := by simp [State.adoptPending]
@[simp] theorem State.adoptPending_ctl_parityCount (i : StripId) (x : Option ChanId) : (s.adoptPending i x).ctl.parityCount = s.ctl.parityCount := by simp [State.adoptPending]
@[simp] theorem State.adoptPending_ctl_time (i : StripId) (x : Option ChanId) : (s.adoptPending i x).ctl.time = s.ctl.time := by simp [State.adoptPending]
@[simp] theorem State.adoptPending_ctl_nextTick (i : StripId) (x : Option ChanId) : (s.adoptPending i x).ctl.nextTick = s.ctl.nextTick := by simp [State.adoptPending]
@[simp] theorem State.adoptPending_ctl_params (i : StripId) (x : Option ChanId) : (s.adoptPending i x).ctl.params = s.ctl.params := by simp [State.adoptPending]
@[simp] theorem State.adoptPending_chan (i : StripId) (x : Option ChanId) (d : ChanId) : (s.adoptPending i x).chan d = s.chan d :=
  State.chan_congr (State.adoptPending_chans s i x) d
@[simp] theorem State.adoptPending_home (i : StripId) (x : Option ChanId) (d : ChanId) : (s.adoptPending i x).home d = s.home d :=
  State.home_congr (State.adoptPending_windows s i x) d
@[simp] theorem State.adoptPending_param (i : StripId) (x : Option ChanId) (p : Param) : (s.adoptPending i x).param p = s.param p := by simp [State.param]

/-! ## deferredAdoption -/

@[simp] theorem State.deferredAdoption_pending (i : StripId) : (s.deferredAdoption i).pending = s.pending := by
  unfold State.deferredAdoption; try dsimp only
  (repeat' split) <;> simp
@[simp] theorem State.deferredAdoption_clock (i : StripId) : (s.deferredAdoption i).clock = s.clock := by
  unfold State.deferredAdoption; try dsimp only
  (repeat' split) <;> simp
@[simp] theorem State.deferredAdoption_inReset (i : StripId) : (s.deferredAdoption i).inReset = s.inReset := by
  unfold State.deferredAdoption; try dsimp only
  (repeat' split) <;> simp
@[simp] theorem State.deferredAdoption_strap (i : StripId) : (s.deferredAdoption i).strap = s.strap := by
  unfold State.deferredAdoption; try dsimp only
  (repeat' split) <;> simp
@[simp] theorem State.deferredAdoption_windows (i : StripId) : (s.deferredAdoption i).windows = s.windows := by
  unfold State.deferredAdoption; try dsimp only
  (repeat' split) <;> simp
@[simp] theorem State.deferredAdoption_chans (i : StripId) : (s.deferredAdoption i).chans = s.chans := by
  unfold State.deferredAdoption; try dsimp only
  (repeat' split) <;> simp
@[simp] theorem State.deferredAdoption_layers (i : StripId) : (s.deferredAdoption i).layers = s.layers := by
  unfold State.deferredAdoption; try dsimp only
  (repeat' split) <;> simp
@[simp] theorem State.deferredAdoption_sliceDue (i : StripId) : (s.deferredAdoption i).sliceDue = s.sliceDue := by
  unfold State.deferredAdoption; try dsimp only
  (repeat' split) <;> simp
@[simp] theorem State.deferredAdoption_meter (i : StripId) : (s.deferredAdoption i).meter = s.meter := by
  unfold State.deferredAdoption; try dsimp only
  (repeat' split) <;> simp
@[simp] theorem State.deferredAdoption_port_req (i : StripId) : (s.deferredAdoption i).port.req = s.port.req := by
  unfold State.deferredAdoption; try dsimp only
  (repeat' split) <;> simp
@[simp] theorem State.deferredAdoption_port_heldBeat (i : StripId) : (s.deferredAdoption i).port.heldBeat = s.port.heldBeat := by
  unfold State.deferredAdoption; try dsimp only
  (repeat' split) <;> simp
@[simp] theorem State.deferredAdoption_port_owed (i : StripId) : (s.deferredAdoption i).port.owed = s.port.owed := by
  unfold State.deferredAdoption; try dsimp only
  (repeat' split) <;> simp
@[simp] theorem State.deferredAdoption_port_holder (i : StripId) : (s.deferredAdoption i).port.holder = s.port.holder := by
  unfold State.deferredAdoption; try dsimp only
  (repeat' split) <;> simp
@[simp] theorem State.deferredAdoption_port_members (i : StripId) : (s.deferredAdoption i).port.members = s.port.members := by
  unfold State.deferredAdoption; try dsimp only
  (repeat' split) <;> simp
@[simp] theorem State.deferredAdoption_port_alertEnd (i : StripId) : (s.deferredAdoption i).port.alertEnd = s.port.alertEnd := by
  unfold State.deferredAdoption; try dsimp only
  (repeat' split) <;> simp
@[simp] theorem State.deferredAdoption_port_toProcessor (i : StripId) : (s.deferredAdoption i).port.toProcessor = s.port.toProcessor := by
  unfold State.deferredAdoption; try dsimp only
  (repeat' split) <;> simp
@[simp] theorem State.deferredAdoption_port_toMemory (i : StripId) : (s.deferredAdoption i).port.toMemory = s.port.toMemory := by
  unfold State.deferredAdoption; try dsimp only
  (repeat' split) <;> simp
@[simp] theorem State.deferredAdoption_ctl_quiet (i : StripId) : (s.deferredAdoption i).ctl.quiet = s.ctl.quiet := by
  unfold State.deferredAdoption; try dsimp only
  (repeat' split) <;> simp
@[simp] theorem State.deferredAdoption_ctl_ringBase (i : StripId) : (s.deferredAdoption i).ctl.ringBase = s.ctl.ringBase := by
  unfold State.deferredAdoption; try dsimp only
  (repeat' split) <;> simp
@[simp] theorem State.deferredAdoption_ctl_ringCapacity (i : StripId) : (s.deferredAdoption i).ctl.ringCapacity = s.ctl.ringCapacity := by
  unfold State.deferredAdoption; try dsimp only
  (repeat' split) <;> simp
@[simp] theorem State.deferredAdoption_ctl_consumer (i : StripId) : (s.deferredAdoption i).ctl.consumer = s.ctl.consumer := by
  unfold State.deferredAdoption; try dsimp only
  (repeat' split) <;> simp
@[simp] theorem State.deferredAdoption_ctl_parityCount (i : StripId) : (s.deferredAdoption i).ctl.parityCount = s.ctl.parityCount := by
  unfold State.deferredAdoption; try dsimp only
  (repeat' split) <;> simp
@[simp] theorem State.deferredAdoption_ctl_time (i : StripId) : (s.deferredAdoption i).ctl.time = s.ctl.time := by
  unfold State.deferredAdoption; try dsimp only
  (repeat' split) <;> simp
@[simp] theorem State.deferredAdoption_ctl_nextTick (i : StripId) : (s.deferredAdoption i).ctl.nextTick = s.ctl.nextTick := by
  unfold State.deferredAdoption; try dsimp only
  (repeat' split) <;> simp
@[simp] theorem State.deferredAdoption_ctl_params (i : StripId) : (s.deferredAdoption i).ctl.params = s.ctl.params := by
  unfold State.deferredAdoption; try dsimp only
  (repeat' split) <;> simp
@[simp] theorem State.deferredAdoption_chan (i : StripId) (d : ChanId) : (s.deferredAdoption i).chan d = s.chan d :=
  State.chan_congr (State.deferredAdoption_chans s i) d
@[simp] theorem State.deferredAdoption_home (i : StripId) (d : ChanId) : (s.deferredAdoption i).home d = s.home d :=
  State.home_congr (State.deferredAdoption_windows s i) d
@[simp] theorem State.deferredAdoption_param (i : StripId) (p : Param) : (s.deferredAdoption i).param p = s.param p := by simp [State.param]

end Sys2Proof.Machine
end

