-- ==== Sys2Proof/Laws/PerInstr.lean ====
section
/-!
SUPPORT. Laws stated command by command, of the commands as syntax.
-/

namespace Sys2Proof.Laws

open Sys2Proof Sys2Proof.Machine

/-- A well-formed processor command carries one of the fourteen codes of R194 exactly when it is not UNKNOWN_COMMAND. -/
def CommandCode.Statement (i : Instr) : Prop :=
  i.wf = true → ∀ code tag, commandOf i = some (code, tag) →
    (isKnownCode code = false ↔ ∃ arg, i = .unknownCommand code tag arg)

theorem CommandCode.powerOnReset :
    CommandCode.Statement .powerOnReset := by
  rintro - _ _ ⟨⟩

theorem CommandCode.poresetRelease :
    CommandCode.Statement .poresetRelease := by
  rintro - _ _ ⟨⟩

theorem CommandCode.surfaceTimeTick :
    CommandCode.Statement .surfaceTimeTick := by
  rintro - _ _ ⟨⟩

theorem CommandCode.sensorReading (strip : StripId) (raw : BitVec 12) :
    CommandCode.Statement (.sensorReading strip raw) := by
  rintro - _ _ ⟨⟩

theorem CommandCode.pportRequest (kind : ReqKind) (addr : BitVec 24) (lenCode : BitVec 2) (parity : Bool) :
    CommandCode.Statement (.pportRequest kind addr lenCode parity) := by
  rintro - _ _ ⟨⟩

theorem CommandCode.alertTimeout :
    CommandCode.Statement .alertTimeout := by
  rintro - _ _ ⟨⟩

theorem CommandCode.passingGrant :
    CommandCode.Statement .passingGrant := by
  rintro - _ _ ⟨⟩

theorem CommandCode.injectionIssue :
    CommandCode.Statement .injectionIssue := by
  rintro - _ _ ⟨⟩

theorem CommandCode.writeBeatAccept (data : Word) (enables : Enables) :
    CommandCode.Statement (.writeBeatAccept data enables) := by
  rintro - _ _ ⟨⟩

theorem CommandCode.readBeatReturn (data : Word) (status : RespStatus) :
    CommandCode.Statement (.readBeatReturn data status) := by
  rintro - _ _ ⟨⟩

theorem CommandCode.memoryWriteResponse (status : RespStatus) :
    CommandCode.Statement (.memoryWriteResponse status) := by
  rintro - _ _ ⟨⟩

theorem CommandCode.positionResponse (status : RespStatus) :
    CommandCode.Statement (.positionResponse status) := by
  rintro - _ _ ⟨⟩

theorem CommandCode.fetchResponse (data : Word) (status : RespStatus) :
    CommandCode.Statement (.fetchResponse data status) := by
  rintro - _ _ ⟨⟩

theorem CommandCode.statusEventResponse (status : RespStatus) :
    CommandCode.Statement (.statusEventResponse status) := by
  rintro - _ _ ⟨⟩

theorem CommandCode.controlAreaWrite (offset : BitVec 9) (data : Word) :
    CommandCode.Statement (.controlAreaWrite offset data) := by
  rintro - _ _ ⟨⟩

theorem CommandCode.liveParameterWrite (param : Param) (data : Word) :
    CommandCode.Statement (.liveParameterWrite param data) := by
  rintro - _ _ ⟨⟩

theorem CommandCode.stripSettingsWrite (strip : StripId) (second : Bool) (data : Word) :
    CommandCode.Statement (.stripSettingsWrite strip second data) := by
  rintro - _ _ ⟨⟩

theorem CommandCode.ackWrite (data : Word) :
    CommandCode.Statement (.ackWrite data) := by
  rintro - _ _ ⟨⟩

theorem CommandCode.quietWrite (data : Word) :
    CommandCode.Statement (.quietWrite data) := by
  rintro - _ _ ⟨⟩

theorem CommandCode.ringBaseWrite (data : Word) :
    CommandCode.Statement (.ringBaseWrite data) := by
  rintro - _ _ ⟨⟩

theorem CommandCode.ringCapacityWrite (data : Word) :
    CommandCode.Statement (.ringCapacityWrite data) := by
  rintro - _ _ ⟨⟩

theorem CommandCode.consumerWrite (data : Word) :
    CommandCode.Statement (.consumerWrite data) := by
  rintro - _ _ ⟨⟩

theorem CommandCode.unknownCommand (code tag : BitVec 8) (arg : BitVec 16) :
    CommandCode.Statement (.unknownCommand code tag arg) := by
  rintro h _ _ ⟨⟩
  simpa [Instr.wf] using h

theorem CommandCode.selectLayer (tag : BitVec 8) (arg : BitVec 16) :
    CommandCode.Statement (.selectLayer tag arg) := by
  rintro - _ _ ⟨⟩
  simp [isKnownCode]

theorem CommandCode.setMode (tag : BitVec 8) (arg : BitVec 16) :
    CommandCode.Statement (.setMode tag arg) := by
  rintro - _ _ ⟨⟩
  simp [isKnownCode]

theorem CommandCode.unlatch (tag : BitVec 8) (arg : BitVec 16) :
    CommandCode.Statement (.unlatch tag arg) := by
  rintro - _ _ ⟨⟩
  simp [isKnownCode]

theorem CommandCode.isolateOn (tag : BitVec 8) (arg : BitVec 16) :
    CommandCode.Statement (.isolateOn tag arg) := by
  rintro - _ _ ⟨⟩
  simp [isKnownCode]

theorem CommandCode.isolateOff (tag : BitVec 8) (arg : BitVec 16) :
    CommandCode.Statement (.isolateOff tag arg) := by
  rintro - _ _ ⟨⟩
  simp [isKnownCode]

theorem CommandCode.recalibrate (tag : BitVec 8) (arg : BitVec 16) :
    CommandCode.Statement (.recalibrate tag arg) := by
  rintro - _ _ ⟨⟩
  simp [isKnownCode]

theorem CommandCode.clearFault (tag : BitVec 8) (arg : BitVec 16) :
    CommandCode.Statement (.clearFault tag arg) := by
  rintro - _ _ ⟨⟩
  simp [isKnownCode]

theorem CommandCode.clearErrors (tag : BitVec 8) (arg : BitVec 16) :
    CommandCode.Statement (.clearErrors tag arg) := by
  rintro - _ _ ⟨⟩
  simp [isKnownCode]

theorem CommandCode.loadWindows (tag : BitVec 8) (arg : BitVec 16) :
    CommandCode.Statement (.loadWindows tag arg) := by
  rintro - _ _ ⟨⟩
  simp [isKnownCode]

theorem CommandCode.loadLayerMap (tag : BitVec 8) (arg : BitVec 16) :
    CommandCode.Statement (.loadLayerMap tag arg) := by
  rintro - _ _ ⟨⟩
  simp [isKnownCode]

theorem CommandCode.loadTaper (tag : BitVec 8) (arg : BitVec 16) :
    CommandCode.Statement (.loadTaper tag arg) := by
  rintro - _ _ ⟨⟩
  simp [isKnownCode]

theorem CommandCode.loadTaperComplete :
    CommandCode.Statement .loadTaperComplete := by
  rintro - _ _ ⟨⟩

theorem CommandCode.loadMeterSetup (tag : BitVec 8) (arg : BitVec 16) :
    CommandCode.Statement (.loadMeterSetup tag arg) := by
  rintro - _ _ ⟨⟩
  simp [isKnownCode]

theorem CommandCode.queryStrip (tag : BitVec 8) (arg : BitVec 16) :
    CommandCode.Statement (.queryStrip tag arg) := by
  rintro - _ _ ⟨⟩
  simp [isKnownCode]

theorem CommandCode.sync (tag : BitVec 8) (arg : BitVec 16) :
    CommandCode.Statement (.sync tag arg) := by
  rintro - _ _ ⟨⟩
  simp [isKnownCode]

theorem CommandCode.syncComplete :
    CommandCode.Statement .syncComplete := by
  rintro - _ _ ⟨⟩

theorem CommandCode.surfaceReset (tag : BitVec 8) (arg : BitVec 16) :
    CommandCode.Statement (.surfaceReset tag arg) := by
  rintro - _ _ ⟨⟩
  simp [isKnownCode]

theorem CommandCode.conversionStart :
    CommandCode.Statement .conversionStart := by
  rintro - _ _ ⟨⟩

theorem CommandCode.levelToTravelComplete :
    CommandCode.Statement .levelToTravelComplete := by
  rintro - _ _ ⟨⟩

theorem CommandCode.travelToLevelComplete :
    CommandCode.Statement .travelToLevelComplete := by
  rintro - _ _ ⟨⟩

theorem CommandCode.thresholdComplete :
    CommandCode.Statement .thresholdComplete := by
  rintro - _ _ ⟨⟩

theorem CommandCode.slotWaiterServe :
    CommandCode.Statement .slotWaiterServe := by
  rintro - _ _ ⟨⟩

theorem CommandCode.servoSample (strip : StripId) :
    CommandCode.Statement (.servoSample strip) := by
  rintro - _ _ ⟨⟩

theorem CommandCode.settled (strip : StripId) :
    CommandCode.Statement (.settled strip) := by
  rintro - _ _ ⟨⟩

theorem CommandCode.settleTimeout (strip : StripId) :
    CommandCode.Statement (.settleTimeout strip) := by
  rintro - _ _ ⟨⟩

theorem CommandCode.calStopFound (strip : StripId) :
    CommandCode.Statement (.calStopFound strip) := by
  rintro - _ _ ⟨⟩

theorem CommandCode.calPhaseTimeout (strip : StripId) :
    CommandCode.Statement (.calPhaseTimeout strip) := by
  rintro - _ _ ⟨⟩

theorem CommandCode.touchInputChange (strip : StripId) (pressed : Bool) :
    CommandCode.Statement (.touchInputChange strip pressed) := by
  rintro - _ _ ⟨⟩

theorem CommandCode.debounceExpiry (strip : StripId) :
    CommandCode.Statement (.debounceExpiry strip) := by
  rintro - _ _ ⟨⟩

theorem CommandCode.readbackExpiry (strip : StripId) :
    CommandCode.Statement (.readbackExpiry strip) := by
  rintro - _ _ ⟨⟩

theorem CommandCode.grant :
    CommandCode.Statement .grant := by
  rintro - _ _ ⟨⟩

theorem CommandCode.railWakeEnd (group : GroupId) :
    CommandCode.Statement (.railWakeEnd group) := by
  rintro - _ _ ⟨⟩

theorem CommandCode.railIdleOff (group : GroupId) :
    CommandCode.Statement (.railIdleOff group) := by
  rintro - _ _ ⟨⟩

theorem CommandCode.sliceTimerExpiry :
    CommandCode.Statement .sliceTimerExpiry := by
  rintro - _ _ ⟨⟩

theorem CommandCode.frameExpiry :
    CommandCode.Statement .frameExpiry := by
  rintro - _ _ ⟨⟩

theorem CommandCode.peakHoldEnd (chan : MeterId) :
    CommandCode.Statement (.peakHoldEnd chan) := by
  rintro - _ _ ⟨⟩

theorem CommandCode.overLatchEnd (chan : MeterId) :
    CommandCode.Statement (.overLatchEnd chan) := by
  rintro - _ _ ⟨⟩

theorem CommandCode.staleEntry (chan : MeterId) :
    CommandCode.Statement (.staleEntry chan) := by
  rintro - _ _ ⟨⟩

theorem CommandCode.droppedRequestBeat :
    CommandCode.Statement .droppedRequestBeat := by
  rintro - _ _ ⟨⟩

theorem CommandCode.meterShiftEnd :
    CommandCode.Statement .meterShiftEnd := by
  rintro - _ _ ⟨⟩

end Sys2Proof.Laws
end

