-- ==== Sys2Proof/Tests/Slice0.lean ====
section
/-!
SUPPORT. The model's own tests: ill-formed commands, one-step examples of the spec's worked tables, and for each statement with
hypotheses a state and operands that meet them.
-/

namespace Sys2Proof.Tests

-- The kernel's evaluations run one after the other: many at once each take a thread's stack, and the check's memory limit counts them all.
set_option Elab.async false

open Sys2Proof Sys2Proof.Machine

/-! ## Small states -/

/-- The state after reset. -/
def up : State := State.reset

/-- Windows for the tests: C0 to C15 NATIVE at 0x10000, C16 to C19 SWAPPED at 0x10010, the meters at 0x20000. -/
def mapped : State :=
  { up with windows := { up.windows with active :=
    ((up.windows.active.set 0 ⟨.fader, 0x10000, 16, .native, 0⟩).set 1
      ⟨.fader, 0x10010, 4, .swapped, 16⟩).set 2 ⟨.meter, 0x20000, 64, .native, 0⟩ } }

/-- A level in 1/16 dB as its code. -/
def level (x : Int) : Code := BitVec.ofInt 16 x

/-- Strip `i` shows channel `c` in a mode and a motion state, with valid calibration. -/
def showing (s : State) (i : StripId) (c : ChanId) (mode : Mode) (motion : Motion) : State :=
  s.modStrip i fun p =>
    { p with
      shown := some c, mode := mode, motion := motion, touched := motion == .touched
      latch := motion == .latched, calibration := some ⟨112, 3980⟩ }

/-- Channel `c` is SEEN with an image code and a processor code. -/
def seen (s : State) (c : ChanId) (image proc : Int) (seq : BitVec 8) : State :=
  s.setChan c ⟨some (level image), some (level proc), seq⟩

/-- A passing write has been granted and stands at an address. -/
def writing (s : State) (addr : BitVec 24) (lenCode : BitVec 2) : State :=
  s.modPort fun p => { p with req := some ⟨.write, addr, lenCode, false, false, true, 0⟩, holder := .passing }

/-- The write of `writing`. -/
def theWrite (addr : BitVec 24) (lenCode : BitVec 2) : PortRequest :=
  ⟨.write, addr, lenCode, false, false, true, 0⟩

/-- The injection queue holds these bodies at these addresses. -/
def queued (s : State) (l : List (Nat × InjBody)) : State :=
  l.foldl (fun t x => t.pushEntry x.1 x.2) s

/-- The oldest members of the completion list. -/
def issued (s : State) (l : List Member) : State := s.modPort fun p => { p with members := l }

/-- The ring is enabled, at a base, with its indices. -/
def ringed (s : State) (base capacity producer consumer : Nat) : State :=
  s.modCtl fun c =>
    { c with ringBase := base, ringCapacity := capacity, producer := producer, consumer := consumer }

/-- Every strip has a reading and a place in the schedule. -/
def sampled (s : State) (raw : BitVec 12) : State :=
  { s with strips := s.strips.map fun p =>
    { p with reading := some raw, sampleDue := some 4000, readbackDue := some 16000 } }

/-- What a command leaves, read by `f`. -/
def after (c : Instr) (s : State) (f : State → α) : Option α :=
  match exec c s with
  | .next t => some (f t)
  | .fault _ => none
  | .refused _ => none

/-! ## Ill-formed commands are refused by WellFormed -/

theorem test_wf_own_row : (Instr.controlAreaWrite 0x000#9 0#32).wf = false ∧
    (Instr.controlAreaWrite 0x006#9 0#32).wf = false ∧ (Instr.controlAreaWrite 0x008#9 0#32).wf = false ∧
    (Instr.controlAreaWrite 0x02B#9 0#32).wf = false ∧ (Instr.controlAreaWrite 0x13F#9 0#32).wf = false ∧
    (Instr.controlAreaWrite 0x02C#9 0#32).wf = true ∧ (Instr.controlAreaWrite 0x140#9 0#32).wf = true := by
  decide

theorem test_wf_known_code : (Instr.unknownCommand 0x01#8 0#8 0#16).wf = false ∧
    (Instr.unknownCommand 0x0E#8 0#8 0#16).wf = false ∧ (Instr.unknownCommand 0x00#8 0#8 0#16).wf = true ∧
    (Instr.unknownCommand 0x0F#8 0#8 0#16).wf = true := by
  decide

theorem test_wf_isolate_bit : (Instr.isolateOn 0#8 0x0005#16).wf = false ∧
    (Instr.isolateOff 0#8 0x0105#16).wf = false ∧ (Instr.isolateOn 0#8 0x0105#16).wf = true ∧
    (Instr.isolateOff 0#8 0x0005#16).wf = true := by
  decide

/-! ## Worked values of the spec -/

/-- Table 5.2: raw readings scaled with p_lo 112 and p_hi 3980. -/
theorem test_scaling : [100, 112, 2046, 3980, 4000].map (measured (some ⟨112, 3980⟩)) =
    [0, 0, 2048, 4095, 4095] := by
  decide

/-- Table 5.4: the drive law. -/
theorem test_drive_law : driveLaw 96 512 10 20 = 175 ∧ driveLaw 96 512 (-3) (-12) = -100 ∧
    driveLaw 96 512 5 0 = 8 ∧ driveLaw 96 512 (-4000) 0 = -1023 := by
  decide

/-- Table 5.3, samples 1, 9 and 16: the reference speed under the braking bound. -/
theorem test_profile_speed : profileSpeed 4 40 0 300 = 4 ∧ profileSpeed 4 40 32 156 = 35 ∧
    profileSpeed 4 40 9 2 = 4 := by
  decide

/-- The conversions under Table 4.5 and Table 6.3, with the power-on table. -/
theorem test_taper_values : travelToLevel Taper.powerOn 2101 = level (-243) ∧
    travelToLevel Taper.powerOn 2180 = level (-223) ∧ travelToLevel Taper.powerOn 1600 = level (-380) ∧
    travelToLevel Taper.powerOn 1700 = level (-349) ∧ levelToTravel Taper.powerOn (level (-200)) = 2272 ∧
    levelToTravel Taper.powerOn (level (-250)) = 2072 := by
  decide

/-- Table 10.2: input conversions. -/
theorem test_input_levels : [16777215, 8388608, 4194304, 838861, 524288, 9, 8, 0].map inputLevel =
    [0, 0, -96, -320, -385, -1910, -1920, -1920] := by
  decide +kernel

/-- Table 1.5: at guard count 4 the injection head goes before the waiting passing request. -/
theorem test_guard_count :
    let s := (queued up [(7, .status .producer 0#32)]).modPort fun p =>
      { p with req := some ⟨.read, 0#24, 0#2, false, false, false, 0⟩, guardCount := 4 }
    after .passingGrant s (·.port.holder) = some .nobody ∧
      after .injectionIssue s (fun t => (t.port.queue, t.port.guardCount)) = some ([], 0) := by
  decide +kernel

/-- Table 1.4, step 2: a read of C8's word is forwarded the POSITION's code in the code half. -/
theorem test_read_forwarding :
    let s := (issued (queued mapped [(0x10008, .position 8 (level (-240)) .native)]) [.passingRead]).modPort fun p =>
      { p with req := some ⟨.read, 0x10008#24, 0#2, false, false, true, 0⟩ }
    after (.readBeatReturn 0x1234FF00#32 .ok) s (·.port.toProcessor) =
      some [.readBeat 0x1234FF10#32, .response .ok] := by
  decide +kernel

/-- Table 1.4, step 4: a full code under the operator's hand keeps the POSITION and rewrites it with the operator code. -/
theorem test_write_under_hand :
    let s := (seen (showing mapped 5 8 .touch .touched) 8 (-256) (-256) 3#8).modStrip 5 fun p =>
      { p with opCode := some (level (-232)) }
    let u := writing (queued s [(0x10008, .position 8 (level (-232)) .native)]) 0x10008#24 0#2
    after (.writeBeatAccept (ofHalves 0#16 (level (-300))) 0xF#4) u
        (fun t => (t.chan 8, t.port.queue.map InjEntry.body, t.port.owed)) =
      some (⟨some (level (-300)), some (level (-300)), 4#8⟩,
        [.position 8 (level (-232)) .native], [.memory]) := by
  decide +kernel

/-- Table 4.5, step 2: a conversion that completes beyond deadband queues a MOVE and wakes the rail. -/
theorem test_arrival_queues_move :
    let s := (seen (showing mapped 4 15 .touch .idle) 15 (-192) (-192) 10#8).modStrip 4 fun p => { p with m := 2048 }
    let u := s.modTaper fun u =>
      { u with queue := [⟨.levelToTravel 15 (level (-192)) 10#8, false⟩], running := some ⟨Taper.powerOn, 4⟩ }
    after .levelToTravelComplete u (fun t =>
        ((t.strip 4).motion, (t.strip 4).target, t.drive.queue, t.rail 0, t.clock)) =
      some (.queued, some ⟨level (-192), 2304, 15⟩, [⟨4, .move⟩], .waking 20004, 4) := by
  decide +kernel

/-- Table 5.6, sample 266: the settle timeout stalls the strip with the lag as its value and sets FAULT. -/
theorem test_settle_timeout :
    let s := (sampled (ringed (showing up 0 3 .read .settling) 0x310000 16 0 0) 0#12).modStrip 0 fun p =>
      { p with
        r := 1300, settleStart := 5000#16, reading := some 1290#12, calibration := some ⟨0, 4095⟩
        target := some ⟨level 0, 1300, 3⟩ }
    let u := s.modCtl fun c => { c with time := 5250#16, serial := 39#16 }
    after (.settleTimeout 0) u (fun t => ((t.strip 0).motion, (t.strip 0).errorTotal, t.ctl.faultCause,
        t.port.queue.head?.map InjEntry.body)) =
      some (.stalled, 1, true, some (.event (eventWord0 .stall 0#8 39#16) (eventWord1 10#16 5250#16))) := by
  decide +kernel

/-- Table 6.3, time 230: UNLATCH of S12 asks for -250 and sets RETURN. -/
theorem test_unlatch :
    let s := seen (showing mapped 12 10 .latch .latched) 10 (-349) (-250) 7#8
    after (.unlatch 1#8 12#16) s (fun t => ((t.strip 12).motion, (t.strip 12).speed, (t.strip 12).latch,
        t.taper.queue, t.ctl.result)) =
      some (.idle, .ret, false, [⟨.levelToTravel 10 (level (-250)) 7#8, false⟩], 0x00010101#32) := by
  decide +kernel

/-- Table 9.4, time 1550: a short span at still count 20 fails the run, and a new one begins. -/
theorem test_short_span :
    let s := (sampled (showing up 6 3 .touch .calibrating) 0#12).modStrip 6 fun p =>
      { p with
        reading := some 3100#12, cal := some ⟨.highSeek 112, 1361#16, some 3100, 19⟩
        calibration := some ⟨110, 3975⟩ }
    let u := s.modCtl fun c => { c with time := 1550#16 }
    after (.calStopFound 6) u (fun t => ((t.strip 6).attempts, (t.strip 6).cal, (t.strip 6).drive)) =
      some (1, some ⟨.lowSeek, 1550#16, none, 0⟩, -300) := by
  decide +kernel

/-- Table 11.8, step 3: an event at a full ring is lost, and COUNTERS and SUMMARY are asked for. -/
theorem test_full_ring :
    let s := (ringed up 0x310000 16 15 0).modStrip 2 fun p => { p with debounce := some ⟨true, 0⟩ }
    after (.debounceExpiry 2) s (fun t => (t.ctl.lostCount, t.ctl.lostCause, t.ctl.serial,
        t.port.queue.map InjEntry.body)) =
      some (1, true, 1#16, [.status .counters 1#32, .status .summary 3#32]) := by
  decide +kernel

/-- R203 with R7: a delivered PARITY_ERROR stands before PRODUCER, and COUNTERS and SUMMARY after it (entry 34). -/
theorem test_parity_order :
    after (.pportRequest .read 0#24 0#2 true) (ringed up 0x310000 16 0 0) (fun t => t.port.queue.map fun e => e.addr) =
      some [0x310000, 7, 9, 2] := by
  decide +kernel

/-- R28: a FETCH whose channel has no home when its answer comes leaves the channel UNSEEN. -/
theorem test_fetch_home_checked :
    after (.fetchResponse 5#32 .ok) (issued up [.fetch 8 0#8 0x10008 .native]) (fun t => t.chan 8) =
      some ⟨none, none, 0#8⟩ := by
  decide +kernel

/-- Table 10.6, frame 1: M7 rises from the floor. -/
theorem test_meter_rise :
    let s := up.modMeter fun e => { e with recs := e.recs.set 7 { MeterRec.powerOn with capture := some 4194304 } }
    after .frameExpiry s (fun t => ((t.meterRec 7).level, (t.meterRec 7).peak, (t.meterRec 7).hold,
        (t.meterRec 7).stale, (t.meterRec 8).stale)) =
      some (-23424, -23424, 150, false, true) := by
  decide +kernel

/-- Table 10.7, frame 3: the third over lights M20's lamp with one OVER event. -/
theorem test_over_lamp :
    let s := (ringed up 0x310000 16 0 0).modMeter fun e => 
      { e with recs := (e.recs.set 20 ⟨some 16777215, -320, -320, 0, 2, 0, 0, false, ⟨0, 0, false⟩⟩) }
    after .frameExpiry s (fun t => ((t.meterRec 20).overLatch, (t.meterRec 20).out.lamp,
        t.port.queue.head?.map InjEntry.body)) =
      some (200, true, some (.event (eventWord0 .over 20#8 0#16) (eventWord1 0#16 0#16))) := by
  decide +kernel

/-- The example of R58: breakpoint 9 at the level of breakpoint 8 refuses the load with value 9. -/
theorem test_taper_refused :
    let s := up.modTaper fun u => { u with staged := u.staged.set 9 (ofHalves (level (-256)) 2304#16) }
    after (.loadTaper 7#8 0#16) s (fun t => (t.ctl.result, t.ctl.busy)) = some (0x00090407#32, none) := by
  decide +kernel

/-- Table 3.6: 16 owned requests fill the queue and 50 wait. -/
theorem test_taper_load :
    let s := seen (seen (showing (showing (showing mapped 0 0 .read .idle) 1 1 .read .idle) 2 2 .read .idle)
      0 (-256) (-256) 1#8) 2 (-100) (-100) 1#8
    after (.loadTaper 7#8 0#16) s (fun t => (t.taper.queue.length, t.taper.waiters.length,
        t.taper.queue.all ConvReq.owned, t.ctl.busy)) = some (16, 50, true, some (.loadTaper 7#8 2)) := by
  decide +kernel

/-- Table 7.4 in small: S0 takes, S1 is deferred, S3 is isolated, S4 is conflict-blank on what S3 shows. -/
theorem test_select_layer :
    let s := showing (showing (showing (showing mapped 0 0 .read .idle) 1 1 .read .touched) 3 3 .read .idle)
      4 4 .read .idle
    let m := s.modStrip 3 fun p => { p with isolated := true }
    let map : Vector (Option ChanId) 32 :=
      (((Vector.replicate 32 none).set 0 (some 8)).set 1 (some 9)).set 4 (some 3)
    let u := { m with layers := { m.layers with maps := (m.layers.maps.set 1 map) } }
    after (.selectLayer 1#8 1#16) u (fun t => [(t.strip 0).shown, (t.strip 1).shown, (t.strip 3).shown,
        (t.strip 4).shown, (t.strip 4).conflict]) = some [some 8, some 1, some 3, none, some 3] ∧
      after (.selectLayer 1#8 1#16) u (fun t => ((t.strip 1).waiting, t.ctl.result)) =
        some (some (some 9), 0x00010101#32) := by
  decide +kernel

/-! ## Witnesses: states and operands that meet the statements' hypotheses, clause by clause -/

theorem witness_StepTakesFrontCommand :
    ({ up with pending := [.grant, .sync 1#8 0#16] } : State).pending = .grant :: [.sync 1#8 0#16] ∧
      up.pending = [] := ⟨rfl, rfl⟩

theorem witness_CommandsCompleteAndKeepPins : Instr.grant ≠ .powerOnReset ∧ Instr.grant ≠ .poresetRelease ∧
    ∀ i b, Instr.grant ≠ .touchInputChange i b := ⟨nofun, nofun, nofun⟩

theorem witness_PartStandsStillInReset : State.powerOn.inReset = true ∧ Instr.grant ≠ .powerOnReset ∧
    Instr.grant ≠ .poresetRelease ∧ ∀ i b, Instr.grant ≠ .touchInputChange i b := ⟨rfl, nofun, nofun, nofun⟩

theorem witness_ResetSetsPowerOnValuesAndStartsTimers : State.powerOn.inReset = true := rfl

theorem witness_SurfaceTimeCountsMilliseconds : up.inReset = false ∧ Instr.grant ≠ .surfaceTimeTick ∧
    Instr.grant ≠ .powerOnReset ∧ exec .grant up = .next up := ⟨rfl, nofun, nofun, rfl⟩

/-- A write of one word with odd parity; counts and ring at their edges; then each way a dropped beat goes. -/
theorem witness_BadParityIsDroppedAndReported :
    let s := (ringed up 0x310000 16 14 0).modCtl fun c => { c with parityCount := 254 }
    let alerted := up.modPort fun p => { p with alertEnd := some 8 }
    let dropped : ReqKind → Nat → PortRequest := fun k n => ⟨k, 0#24, 1#2, true, true, false, n⟩
    let held : PortRequest → List Owed → State := fun q l => up.modPort fun p => { p with req := some q, owed := l }
    (s.inReset = false ∧ s.port.req = none ∧ (fieldOnes .write 0#24 0#2 + false.toNat) % 2 = 1 ∧
      s.ctl.parityCount < 255 ∧ s.ringHasRoom) ∧
    (alerted.inReset = false ∧ alerted.port.alertEnd = some 8) ∧
    ((held (dropped .read 0) []).port.req = some (dropped .read 0) ∧ (dropped .read 0).dropped = true ∧
      (dropped .read 0).done + 1 ≠ lengthOf (dropped .read 0).lenCode) ∧
    ((dropped .read 1).done + 1 = lengthOf (dropped .read 1).lenCode ∧
      (held (dropped .read 1) []).port.owed = []) ∧
    ((dropped .write 1).done + 1 = lengthOf (dropped .write 1).lenCode ∧ (dropped .write 1).kind = .write ∧
      (held (dropped .write 1) [.memory]).port.owed = .memory :: []) := by
  unfold State.ringHasRoom
  decide +kernel

/-- The three fates of its event: the ring disabled, full or with 12 unissued EVENT entries, and with room for one; and a cause set that changes. -/
theorem witness_BadParityIsDroppedAndReported_fates :
    let full : Nat → State := fun n => (ringed up 0x310000 16 15 0).modCtl fun c => { c with lostCount := n }
    let twelve := queued (ringed up 0x310000 16 0 1) (List.replicate 12 (0x310000, .event 0#32 0#32))
    let free := ringed up 0x310000 16 14 0
    (∀ s ∈ [up, full 65534, full 65535, twelve, free], s.inReset = false ∧ s.port.req = none) ∧
    up.ctl.ringCapacity = 0 ∧ ((full 65534).ctl.ringCapacity ≠ 0 ∧ ¬ (full 65534).ringHasRoom ∧
      (full 65534).ctl.lostCount < 65535 ∧ ¬ (full 65535).ctl.lostCount < 65535) ∧
    (twelve.ctl.ringCapacity ≠ 0 ∧ ¬ twelve.ringHasRoom) ∧ free.ringHasRoom ∧
    (after (.pportRequest .write 0#24 0#2 false) free (fun t => decide (t.ctl.summaryWord = free.ctl.summaryWord))) = some false := by
  unfold State.ringHasRoom
  decide +kernel

theorem witness_PassingRequestsClaimAndAreGranted :
    let q : PortRequest := ⟨.read, 0#24, 0#2, false, false, false, 0⟩
    let claim : List (Nat × InjBody) → Nat → Holder → State := fun l n h =>
      (queued up l).modPort fun p => { p with req := some q, guardCount := n, holder := h }
    let e : List (Nat × InjBody) := [(7, .status .producer 0#32)]
    (up.inReset = false ∧ up.port.req = none ∧ (fieldOnes .read 0#24 0#2 + false.toNat) % 2 = 0) ∧
    ((claim [] 4 .nobody).port.claimant = some q ∧ (claim [] 4 .nobody).port.holder = .nobody ∧
      (claim [] 4 .nobody).port.queue = []) ∧
    ((claim e 3 .nobody).port.claimant = some q ∧ (claim e 3 .nobody).port.guardCount < 4) ∧
    ((claim e 4 .nobody).port.claimant = some q ∧ (claim e 4 .nobody).port.queue ≠ [] ∧
      4 ≤ (claim e 4 .nobody).port.guardCount) ∧
    ((claim [] 0 .issuedFetch).port.claimant = some q ∧ (claim [] 0 .issuedFetch).port.holder ≠ .nobody) := by
  decide +kernel

theorem witness_InjectionHeadIsIssued :
    let q : PortRequest := ⟨.read, 0#24, 0#2, false, false, false, 0⟩
    let e : InjEntry := ⟨0, 7, .status .producer 0#32⟩
    let free := queued up [(7, .status .producer 0#32)]
    let claimed : Nat → State := fun n => free.modPort fun p => { p with req := some q, guardCount := n }
    let waiting : Nat → State := fun n => (free.pushEntry 9 (.status .counters 0#32)).modCtl fun c =>
      { c with busy := some (.sync 3#8 n 2) }
    (free.inReset = false ∧ free.port.queue = e :: [] ∧ free.port.holder = .nobody ∧ free.port.claimant = none ∧
      free.ctl.busy = none) ∧
    ((claimed 4).port.queue = e :: [] ∧ (claimed 4).port.holder = .nobody ∧ 4 ≤ (claimed 4).port.guardCount) ∧
    ((claimed 3).port.queue = e :: [] ∧ (claimed 3).port.claimant ≠ none ∧ (claimed 3).port.guardCount < 4) ∧
    ((waiting 2).port.queue = e :: [⟨1, 9, .status .counters 0#32⟩] ∧ (waiting 2).port.claimant = none ∧
      (waiting 2).ctl.busy = some (.sync 3#8 2 2) ∧ ∃ x ∈ (waiting 2).port.queue.tail, x.stamp < 2) ∧
    ((waiting 1).ctl.busy = some (.sync 3#8 1 2) ∧ ∀ x ∈ (waiting 1).port.queue.tail, 1 ≤ x.stamp) := by
  decide +kernel

/-- C8 shown by S5: untouched READ, WRITE with an operator code, and not shown. -/
theorem witness_FullCodeWriteSetsRecord :
    let q := theWrite 0x10008#24 0#2
    let plain := writing mapped 0x10008#24 0#2
    let converting := writing (showing mapped 5 8 .read .idle) 0x10008#24 0#2
    let restoring := writing ((showing mapped 5 8 .write .idle).modStrip 5 fun p =>
      { p with opCode := some (level (-232)) }) 0x10008#24 0#2
    (plain.inReset = false ∧ plain.port.writes q ∧ plain.decodeBeat q.beatAddr = .fader 8 .native ∧
      coversCode .native 0b0011#4 = true ∧ plain.mustHold q.beatAddr 5#32 0b0011#4 = false ∧
      plain.shownBy 8 = none) ∧
    (converting.port.writes q ∧ converting.decodeBeat q.beatAddr = .fader 8 .native ∧
      converting.mustHold q.beatAddr 5#32 0xF#4 = false ∧ converting.shownBy 8 = some 5 ∧
      (converting.strip 5).converts) ∧
    (restoring.port.writes q ∧ restoring.mustHold q.beatAddr 5#32 0xF#4 = false ∧
      restoring.shownBy 8 = some 5 ∧ (restoring.strip 5).restores ∧
      (restoring.strip 5).opCode = some (level (-232)) ∧
      restoring.port.queue.countP InjEntry.isPosition < 32) := by
  unfold ImagePort.writes Strip.converts Strip.restores
  decide +kernel

/-- C17 lies in the SWAPPED window: bytes 2 and 3 are its code half. -/
theorem witness_PartialWriteMergesOrIsIgnored :
    let q := theWrite 0x10011#24 0#2
    let on : Mode → State := fun mode => writing ((showing (seen mapped 17 (-256) (-256) 3#8) 5 17 mode .idle).modStrip 5
      fun p => { p with opCode := some 7#16 }) 0x10011#24 0#2
    let s := writing (seen mapped 17 (-256) (-256) 3#8) 0x10011#24 0#2
    (s.inReset = false ∧ s.port.writes q ∧ s.decodeBeat q.beatAddr = .fader 17 .swapped ∧ s.shownBy 17 = none ∧
      coversCode .swapped 0b0100#4 = false ∧ s.mustHold q.beatAddr 5#32 0b0100#4 = false) ∧
    (touchesCode .swapped 0b0100#4 = true ∧ (s.chan 17).image = some (level (-256))) ∧
    (coversCode .swapped 0b0011#4 = false ∧ s.mustHold q.beatAddr 5#32 0b0011#4 = false ∧
      touchesCode .swapped 0b0011#4 = false) ∧
    (∀ m ∈ [Mode.read, .write], (on m).port.writes q ∧ (on m).decodeBeat q.beatAddr = .fader 17 .swapped ∧
      (on m).mustHold q.beatAddr 5#32 0b0100#4 = false ∧ (on m).shownBy 17 = some 5 ∧
      ((on m).chan 17).image = some (level (-256))) ∧
    ((on .read).strip 5).converts ∧ ¬ ((on .write).strip 5).converts ∧ ((on .write).strip 5).restores ∧
    ((on .write).strip 5).opCode = some 7#16 ∧ (on .write).port.queue.countP InjEntry.isPosition < 32 := by
  unfold ImagePort.writes Strip.converts Strip.restores
  decide +kernel

theorem witness_AcceptedBeatTreatsEntries :
    let q := theWrite 0x10008#24 0#2
    let s := writing (queued mapped [(0x10008, .position 8 (level (-232)) .native), (0x10008, .fetch 8 0#8 .native)])
      0x10008#24 0#2
    s.inReset = false ∧ s.port.writes q ∧ s.port.limitsKept ∧ s.mustHold q.beatAddr 5#32 0xF#4 = false ∧
      ∀ o, s.decodeBeat q.beatAddr ≠ .control o := by
  refine ⟨rfl, ⟨rfl, rfl, rfl, rfl, rfl⟩, ?_, by decide +kernel, ?_⟩
  · unfold ImagePort.limitsKept
    decide +kernel
  · intro o h
    exact absurd (h.symm.trans (show _ = BeatClass.fader 8 .native by decide +kernel)) nofun

/-- The first beat of two and the only beat of one; a POSITION of a strip that is owned in each way of R67, and of one that is not. -/
theorem witness_AcceptedBeatTreatsEntries_beats :
    let two := writing mapped 0x10008#24 1#2
    let s : Mode → Motion → State := fun mode motion => writing (queued (showing mapped 5 8 mode motion)
      [(0x10008, .position 8 (level (-232)) .native)]) 0x10008#24 0#2
    (two.port.writes (theWrite 0x10008#24 1#2) ∧ (theWrite 0x10008#24 1#2).done + 1 ≠ lengthOf 1#2) ∧
    (theWrite 0x10008#24 0#2).done + 1 = lengthOf 0#2 ∧
    (∀ x ∈ [(Mode.touch, Motion.touched), (.latch, .touched), (.latch, .latched), (.write, .idle), (.read, .touched)],
      (s x.1 x.2).port.writes (theWrite 0x10008#24 0#2) ∧ (s x.1 x.2).shownBy 8 = some 5 ∧
        (s x.1 x.2).mustHold 0x10008 5#32 0xF#4 = false) := by
  unfold ImagePort.writes
  decide +kernel

theorem witness_MeterBeatJoinsCapture :
    let q := theWrite 0x2003F#24 0#2
    let s := writing mapped 0x2003F#24 0#2
    s.inReset = false ∧ s.port.writes q ∧ s.decodeBeat q.beatAddr = .meter 63 .native ∧
      (0b0111#4 : Enables) ≠ 0xF#4 := by
  unfold ImagePort.writes
  decide +kernel

/-- The last word of the control area; and a beat for C8, shown by S5, before 16 requests of other keys. -/
theorem witness_ControlBeatsActWholeAndFullQueuesHold :
    let q := theWrite 0x0001FF#24 0#2
    let s := writing up 0x0001FF#24 0#2
    let r := theWrite 0x10008#24 0#2
    let full := (writing (showing mapped 5 8 .read .idle) 0x10008#24 0#2).modTaper fun u =>
      { u with queue := (List.finRange 16).map fun k => ⟨.threshold ⟨k.val, by omega⟩ true 0#16, false⟩ }
    (s.inReset = false ∧ s.port.writes q ∧ s.decodeBeat q.beatAddr = .control (0x1FF#9).toNat ∧
      (0b0111#4 : Enables) ≠ 0xF#4) ∧
    (full.inReset = false ∧ full.port.writes r ∧ full.decodeBeat r.beatAddr = .fader 8 .native ∧
      coversCode .native 0xF#4 = true ∧ full.shownBy 8 = some 5 ∧ (full.strip 5).converts ∧
      16 ≤ full.taper.queue.length ∧ full.taper.hasUnstarted (.level 8) = false ∧
      full.taper.hasWaiter (.level 8) = false) := by
  unfold ImagePort.writes Strip.converts
  decide +kernel

theorem witness_ReadBeatsAreForwarded :
    let q : PortRequest := ⟨.read, 0x10008#24, 1#2, false, false, true, 0⟩
    let s := (issued up [.passingRead]).modPort fun p => { p with req := some q }
    let last := { q with done := 1 }
    let u := s.modPort fun p => { p with req := some last }
    (s.inReset = false ∧ s.port.reads q ∧ q.done + 1 ≠ lengthOf q.lenCode) ∧
    (u.port.reads last ∧ last.done + 1 = lengthOf last.lenCode ∧ u.port.members.head? = some .passingRead) := by
  unfold ImagePort.reads
  decide +kernel

theorem witness_WriteAnswersAreReturned :
    let s := (issued up [.passingWrite, .passingWrite]).modPort fun p =>
      { p with owed := [.memory, .droppedWrite, .memory] }
    let u := issued up [.event 0x310000]
    (s.inReset = false ∧ s.port.members = .passingWrite :: [.passingWrite] ∧
      s.port.owed = .memory :: (List.replicate 1 .droppedWrite ++ [.memory]) ∧
      ([Owed.memory]).head? ≠ some .droppedWrite) ∧
    (u.port.members = .event 0x310000 :: [] ∧ ∃ a, Member.event 0x310000 = .event a) :=
  ⟨⟨rfl, rfl, rfl, by decide⟩, rfl, _, rfl⟩

theorem witness_PositionAnswerSetsImageCode :
    let s := issued mapped [.position 8 5#16 0x10008 .native false]
    let u := issued mapped [.position 8 5#16 0x10009 .native false]
    let m := issued mapped [.position 8 5#16 0x10008 .native true]
    (s.inReset = false ∧ s.port.members = .position 8 5#16 0x10008 .native false :: [] ∧
      s.home 8 = some (0x10008, .native)) ∧
    (u.port.members = .position 8 5#16 0x10009 .native false :: [] ∧ u.home 8 ≠ some (0x10009, .native)) ∧
    m.port.members = .position 8 5#16 0x10008 .native true :: [] := by
  decide +kernel

theorem witness_FetchAnswerSetsRecord :
    let s := issued (showing mapped 5 8 .read .idle) [.fetch 8 0#8 0x10008 .native]
    let u := issued mapped [.fetch 8 1#8 0x10008 .native]
    (s.inReset = false ∧ s.port.members = .fetch 8 0#8 0x10008 .native :: [] ∧ (s.chan 8).seq = 0#8 ∧
      s.home 8 = some (0x10008, .native) ∧ s.shownBy 8 ≠ none) ∧
    (u.port.members = .fetch 8 1#8 0x10008 .native :: [] ∧ (u.chan 8).seq ≠ 1#8 ∧ u.shownBy 8 = none) ∧
    ((issued up [.fetch 8 0#8 0x10008 .native]).home 8 ≠ some (0x10008, .native)) := by
  decide +kernel

theorem witness_RowsAreControlAreaWrites :
    (0x0105#16).getLsbD 8 = true ∧ (0x0005#16).getLsbD 8 = false := by decide

/-- The edges of the staging areas and of the gaps beside them. -/
theorem witness_StagingWritesAreKept : up.inReset = false ∧
    ∀ o ∈ [0x040, 0x07F, 0x080, 0x09F, 0x0A0, 0x0B0, 0x0B1, 0x140, 0x17F, 0x180, 0x197, 0x198, 0x19B, 0x19C, 0x1A0,
      0x1CF, 0x1D0, 0x1FF, 0x001, 0x002, 0x007, 0x009, 0x00F, 0x02C], hasOwnRow o = false := by
  decide +kernel

theorem witness_ParametersAndSettingsAreTaken :
    up.inReset = false ∧ (0#32).toNat < Param.vmax.spec.low ∧ Param.vmax.spec.high < (256#32).toNat ∧
      Param.kp ≠ Param.vmax ∧ (0x00010002#32).extractLsb' 0 16 ≠ (up.strip 31).onCode ∧
      (0x00010002#32).extractLsb' 16 16 ≠ (up.strip 31).offCode ∧
      (ofHalves (level (-1344)) (level (-1280))).extractLsb' 0 16 = (up.strip 31).onCode ∧
      (ofHalves (level (-1344)) (level (-1280))).extractLsb' 16 16 = (up.strip 31).offCode := by
  decide +kernel

/-- A line that is ON and is taken OFF by either settings word. -/
theorem witness_ParametersAndSettingsAreTaken_line :
    let s := up.modStrip 31 fun p => { p with line := true, fsEnable := true, mode := .read }
    (s.strip 31).line = true ∧ after (.stripSettingsWrite 31 false 0#32) s (fun t => (t.strip 31).line) = some false ∧
      after (.stripSettingsWrite 31 true 0#32) s (fun t => (t.strip 31).line) = some false := by
  decide +kernel

theorem witness_AckAndQuietDriveAttention :
    let s := up.modCtl fun c => { c with faultCause := true, commandCause := true }
    (s.inReset = false ∧ s.ctl.busy = none ∧ ∃ t, exec (.ackWrite 0x18#32) s = .next t ∧
      t.ctl.summaryWord ≠ s.ctl.summaryWord) ∧
    ((s.ctl.faultCause && (0x07#32).getLsbD 3) = false ∧ (s.ctl.commandCause && (0x07#32).getLsbD 4) = false) := by
  refine ⟨⟨rfl, rfl, _, rfl, ?_⟩, ?_⟩ <;> decide +kernel

theorem witness_RingWordsAreTaken :
    let s := ringed up 0x310000 16 15 0
    s.inReset = false ∧ s.ctl.eventsCause = true ∧ (15#32).toNat < s.ctl.ringCapacity ∧ s.ctl.ringCapacity ≤ (16#32).toNat ∧
      Instr.ringBaseWrite 5#32 = .ringBaseWrite 5#32 ∧ Instr.ringCapacityWrite 1025#32 = .ringCapacityWrite 1025#32 := by
  decide +kernel

theorem witness_ResultIsWritten : (∀ tag point count, up.ctl.busy ≠ some (.sync tag point count)) ∧
    up.ctl.commandCause = false := ⟨nofun, rfl⟩

theorem witness_CommandsAreRefused :
    let s := up.modCtl fun c => { c with busy := some (.loadTaper 9#8 3) }
    (s.inReset = false ∧ commandOf (.sync 1#8 0#16) = some (0x0D#8, 1#8) ∧ s.ctl.busy = some (.loadTaper 9#8 3)) ∧
    (up.inReset = false ∧ up.ctl.busy = none ∧ (0#8).toNat = 0 ∧ 14 < (0x0F#8).toNat) ∧
    (3 < (4#16).toNat ∧ (0x0020#16).getLsbD 15 = false ∧ 31 < ((0x0020#16).extractLsb' 0 8).toNat ∧
      4 < ((0x8500#16).extractLsb' 8 3).toNat ∧ (0x0120#16).getLsbD 8 = true ∧
      31 < ((0x8020#16).extractLsb' 0 8).toNat ∧ 4 < ((0x0500#16).extractLsb' 8 4).toNat) := by
  decide +kernel

theorem witness_QueryStripReadsTheStrip :
    let s := showing up 31 255 .read .idle
    s.inReset = false ∧ s.ctl.busy = none ∧
      ((0x041F#16).extractLsb' 0 8).toNat = (31 : StripId).val ∧ ((0x041F#16).extractLsb' 8 4).toNat = 4 ∧
      ((0x021F#16).extractLsb' 8 4).toNat = 2 ∧ (s.strip 31).shown = some 255 ∧
      (s.strip 31).calibration = some ⟨112, 3980⟩ ∧ (up.strip 31).calibration = none ∧
      (up.strip 31).shown = none := by
  decide +kernel

theorem witness_SyncWaitsForOlderEntries :
    let s := queued up [(1, .status .result 0#32)]
    let busy : Nat → State := fun n => s.modCtl fun c => { c with busy := some (.sync 3#8 n 1) }
    (up.inReset = false ∧ up.ctl.busy = none ∧ up.port.queue = []) ∧
    (s.ctl.busy = none ∧ s.port.queue ≠ [] ∧ ∀ e ∈ s.port.queue, e.stamp < s.port.nextStamp) ∧
    ((busy 1).ctl.busy = some (.sync 3#8 1 1) ∧ ∃ e ∈ (busy 1).port.queue, e.stamp < 1) ∧
    ((busy 0).ctl.busy = some (.sync 3#8 0 1) ∧ ∀ e ∈ (busy 0).port.queue, 0 ≤ e.stamp) ∧
    ((busy 1).inReset = false ∧ 1 ≤ (busy 1).port.nextStamp ∧ Instr.injectionIssue ≠ .powerOnReset ∧
      (∀ data e, Instr.injectionIssue ≠ .writeBeatAccept data e) ∧
      after .injectionIssue (busy 1) (fun t => t.ctl.busy) = some none ∧
      after .passingGrant (busy 1) (fun t => t.ctl.busy) = some (some (.sync 3#8 1 1))) := by
  refine ⟨?_, ?_, ?_, ?_, ?_, ?_, nofun, nofun, ?_⟩ <;> decide +kernel

/-- LOAD_TAPER in progress with an owned request, and SYNC with an entry before its point. -/
theorem witness_CommandsInProgressComplete :
    let s := (up.modTaper fun u => { u with queue := [⟨.threshold 0 true 0#16, true⟩] }).modCtl fun c =>
      { c with busy := some (.loadTaper 1#8 0) }
    s.progressOwed ∧ step s = .next s.idle := by
  exact ⟨⟨nofun, fun _ _ _ => rfl⟩, rfl⟩

/-- Strips that show nothing twice, and maps that name nothing twice, are safe. -/
theorem layersSafe_of (s : State)
    (h : ∀ i j : StripId, (s.strip i).shown ≠ none → (s.strip i).shown = (s.strip j).shown → i = j)
    (hi : ∀ i : StripId, (s.strip i).isolated = true → (s.strip i).waiting = none ∧ (s.strip i).conflict = none)
    (hc : ∀ i : StripId, (s.strip i).conflict.isSome = true →
      (s.strip i).shown = none ∧ (s.strip i).waiting = none)
    (hm : ∀ (n : LayerId) (i j : StripId), s.layerEntry n i ≠ none → s.layerEntry n i = s.layerEntry n j → i = j) :
    s.layersSafe :=
  ⟨fun i j c h1 h2 => h i j (by simp [h1]) (h1.trans h2.symm), hi, hc,
    fun n i j c h1 h2 => hm n i j (by simp [h1]) (h1.trans h2.symm)⟩

/-- S0 touched, S1 isolated, S2 and S3 taking; layer 3 gives S0 its own channel, S2 what S1 shows, S3 another. -/
def layered : State :=
  let s := showing (showing (showing up 0 10 .read .touched) 1 11 .read .idle) 2 12 .read .idle
  let m := s.modStrip 1 fun p => { p with isolated := true }
  let map : Vector (Option ChanId) 32 :=
    ((((Vector.replicate 32 none).set 0 (some 10)).set 1 (some 20)).set 2 (some 11)).set 3 (some 23)
  { m with layers := { m.layers with maps := (m.layers.maps.set 3 map) } }

theorem layered_safe : layered.layersSafe := by
  apply layersSafe_of <;> decide +kernel

/-- `layered` with a ring, C11 SEEN, and S4 and S5 conflict-blank on C11, S4 touched or not. -/
def blanked (touched : Bool) : State :=
  let s := ringed (seen layered 11 (-256) (-256) 1#8) 0x310000 16 0 0
  (s.modStrip 4 fun p => { p with conflict := some 11, touched := touched }).modStrip 5 fun p => { p with conflict := some 11 }

theorem blanked_safe : (blanked true).layersSafe ∧ (blanked false).layersSafe := by
  constructor <;> apply layersSafe_of <;> decide +kernel

theorem witness_SurfaceResetParksTheSurface :
    let s := (showing (showing mapped 0 0 .read .moving) 31 16 .latch .latched).setRail 0 (.on none)
    let u := s.modTaper fun u => { u with waiters := [.threshold 31 false false], queue := [⟨.threshold 0 true 0#16, false⟩] }
    u.inReset = false ∧ u.ctl.busy = none ∧ u.rail 0 = .on none ∧ u.groupActive 0 = true ∧
      u.groupActive 3 = false ∧ u.taper.hasWaiter (.threshold 31 false) = true ∧
      ∃ q ∈ u.taper.queue, q.work.key = .threshold 0 true := by
  decide +kernel

theorem witness_LayersAreSelectedAndLoaded :
    (layered.inReset = false ∧ layered.ctl.busy = none ∧ (3#16).toNat = (3 : LayerId).val ∧
      (layered.strip 1).isolated = true ∧ (layered.strip 0).isolated = false ∧
      (layered.strip 0).touched = true ∧ layered.keeps 2 = false ∧ layered.keeps 3 = false ∧
      layered.layerEntry 3 2 = some 11 ∧ layered.keeps 1 = true ∧ (layered.strip 1).shown = some 11 ∧
      layered.layerEntry 3 3 = some 23 ∧ (layered.strip 1).shown ≠ some 23) ∧
    layered.layersSafe ∧
    (up.inReset = false ∧ up.ctl.busy = none ∧ (0#16).toNat = up.layers.active.val ∧
      (∀ i : StripId, (lowHalf up.layers.staged[i.val]).toNat = 0xFFFF) ∧ (1 : LayerId) ≠ up.layers.active) := by
  refine ⟨by decide +kernel, layered_safe, by decide +kernel⟩

/-- An entry that is no channel, and one that repeats a lower one's. -/
theorem witness_LayersAreSelectedAndLoaded_refused :
    let s := { up with layers := { up.layers with staged := (up.layers.staged.set 31 256#32) } }
    let u := { up with layers := { up.layers with staged := ((up.layers.staged.set 4 255#32).set 9 255#32) } }
    (255 < (lowHalf s.layers.staged[31]).toNat ∧ (lowHalf s.layers.staged[31]).toNat ≠ 0xFFFF ∧
      ∀ j : StripId, j < 31 → (lowHalf s.layers.staged[j.val]).toNat = 0xFFFF) ∧
    ((lowHalf u.layers.staged[9]).toNat < 256 ∧
      (lowHalf u.layers.staged[4]).toNat = (lowHalf u.layers.staged[9]).toNat) := by
  decide +kernel

/-- One strip named (S31), or all with bit 15, in each pair of modes; S31 LATCHED and S2 QUEUED for the order of the start queue. -/
theorem witness_SetModeChangesNamedStrips :
    let read := showing up 31 5 .read .idle
    let latched := seen (showing up 31 5 .latch .latched) 5 (-256) (-256) 1#8
    let stalled := showing up 31 5 .read .stalled
    let joined := ((latched.modStrip 2 fun p => { p with mode := .read, motion := .queued }).modStrip 31 fun p =>
      { p with recalPending := true }).modDrive fun d => { d with queue := [⟨2, .calibrate⟩] }
    (up.inReset = false ∧ up.ctl.busy = none ∧ ((0x031F#16).extractLsb' 0 8).toNat < 32 ∧
      (0x8300#16).getLsbD 15 = true ∧ ((0x001F#16).extractLsb' 8 3).toNat = Mode.parked.code ∧
      ((0x811F#16).extractLsb' 8 3).toNat = Mode.read.code ∧
      ((0x031F#16).extractLsb' 8 3).toNat = Mode.latch.code ∧
      ((0x841F#16).extractLsb' 8 3).toNat = Mode.write.code) ∧
    ((read.strip 31).mode = .read ∧ (read.strip 31).mode ≠ .parked ∧ (read.strip 31).motion = .idle ∧
      (stalled.strip 31).motion = .stalled ∧ (up.strip 31).mode = .parked ∧ Mode.latch.motorised = true) ∧
    ((latched.strip 31).mode = .latch ∧ (latched.strip 31).latch = true ∧ (latched.strip 31).motion = .latched ∧
      (latched.strip 31).shown = some 5 ∧ (latched.chan 5).image = some (level (-256))) ∧
    (joined.inReset = false ∧ joined.ctl.busy = none ∧ joined.startsMatch ∧ ∀ i : StripId, (joined.strip i).coherent) ∧
    after (.setMode 0#8 0x8100#16) joined (fun t => t.drive.queue.map StartEntry.strip) =
      some (2 :: (List.finRange 32).filter (· != 2)) := by
  refine ⟨by decide +kernel, by decide +kernel, by decide +kernel, ⟨rfl, rfl, ?_, ?_⟩, by decide +kernel⟩
  · unfold State.startsMatch
    decide +kernel
  · unfold Strip.coherent
    decide +kernel

theorem witness_UnlatchGivesTheStripBack :
    let s := seen (showing up 31 5 .latch .latched) 5 (-256) (-256) 1#8
    s.inReset = false ∧ s.ctl.busy = none ∧ (0x8000#16).getLsbD 15 = true ∧
      ((0x001F#16).extractLsb' 0 8).toNat < 32 ∧ (s.strip 31).motion = .latched ∧
      (s.strip 0).motion ≠ .latched ∧ (s.strip 31).shown = some 5 ∧
      (s.chan 5).image = some (level (-256)) := by
  decide +kernel

/-- S1 isolated, for ISOLATE on and off; when it gives up C11, S4 is owed the release, untouched or touched, and S5 is not. -/
theorem witness_IsolateHoldsAndRejoins :
    (∀ h, (blanked h).layersSafe ∧ (blanked h).inReset = false ∧ (blanked h).ctl.busy = none ∧
      after (.isolateOff 0#8 0x0001#16) (blanked h) (fun t => (blanked h).gaveUp t 1) = some (some 11) ∧
      (blanked h).owedRelease 1 (some 11) 4 ∧ ¬ (blanked h).owedRelease 1 (some 11) 5) ∧
    (blanked true).defers 4 ∧ ¬ (blanked false).defers 4 ∧ ((blanked false).strip 1).shown = some 11 ∧
    (blanked false).ringHasRoom ∧ ((blanked false).chan 11).image ≠ none ∧
    layered.inReset = false ∧ layered.ctl.busy = none ∧ layered.layersSafe ∧
      ((0x0101#16).extractLsb' 0 8).toNat = (1 : StripId).val ∧ (0x0101#16).getLsbD 8 = true ∧
      ((0x0001#16).extractLsb' 0 8).toNat = (1 : StripId).val ∧ (0x0001#16).getLsbD 8 = false ∧
      (layered.strip 1).isolated = true ∧ (layered.strip 2).isolated = false ∧
      (layered.strip 1).touched = false ∧ (layered.strip 1).line = false :=
  ⟨by
    have k : ∀ h, (blanked h).inReset = false ∧ (blanked h).ctl.busy = none ∧
        after (.isolateOff 0#8 0x0001#16) (blanked h) (fun t => (blanked h).gaveUp t 1) = some (some 11) ∧
        (blanked h).owedRelease 1 (some 11) 4 ∧ ¬ (blanked h).owedRelease 1 (some 11) 5 := by
      unfold State.owedRelease
      decide +kernel
    exact fun h => ⟨by cases h <;> simp [blanked_safe], k h⟩,
    by unfold State.defers; decide +kernel, by unfold State.defers; decide +kernel, by decide +kernel,
    by unfold State.ringHasRoom; decide +kernel, by decide +kernel, rfl, rfl, layered_safe, by decide, by decide,
    by decide, by decide, by decide +kernel, by decide +kernel, by decide +kernel, by decide +kernel⟩

/-- A QUEUED strip with its MOVE, an IDLE one and a touched one. -/
theorem witness_RecalibrateQueuesRuns :
    let s := (showing (showing (showing up 0 0 .read .queued) 1 1 .read .idle) 2 2 .read .touched).modDrive fun d =>
      { d with queue := [⟨0, .move⟩] }
    s.inReset = false ∧ s.ctl.busy = none ∧ s.startsMatch ∧ (0x8000#16).getLsbD 15 = true ∧
      ((0x001F#16).extractLsb' 0 8).toNat < 32 ∧ (s.strip 0).motion = .queued ∧
      (s.strip 0).mode.motorised = true ∧ (s.strip 1).motion = .idle ∧ (s.strip 2).touched = true := by
  unfold State.startsMatch
  decide +kernel

/-- STALLED strips: PARKED, touched, in WRITE mode, owing a run, far from the target, and near it. -/
theorem witness_ClearFaultLeavesStalled :
    let s : Mode → Bool → Bool → Nat → State := fun mode touched owed travel =>
      (showing up 31 5 mode .stalled).modStrip 31 fun p =>
        { p with touched := touched, recalPending := owed, target := some ⟨0#16, travel, 5⟩ }
    up.inReset = false ∧ up.ctl.busy = none ∧ (0x8000#16).getLsbD 15 = true ∧
      ((0x001F#16).extractLsb' 0 8).toNat < 32 ∧ (up.strip 31).motion ≠ .stalled ∧
      ((s .parked false false 0).strip 31).mode = .parked ∧
      ((s .latch true false 0).strip 31).touched = true ∧ ((s .latch true false 0).strip 31).mode ≠ .parked ∧
      ((s .write false false 0).strip 31).mode = .write ∧
      ((s .read false true 0).strip 31).recalPending = true ∧
      (s .read false false 4).param .deadband < Machine.dist 4 ((s .read false false 4).strip 31).m ∧
      Machine.dist 3 ((s .read false false 3).strip 31).m ≤ (s .read false false 3).param .deadband := by
  decide +kernel

theorem witness_ClearErrorsZeroesCounts : up.inReset = false ∧ up.ctl.busy = none ∧
    (0x8000#16).getLsbD 15 = true ∧ ((0x001F#16).extractLsb' 0 8).toNat < 32 ∧
    0 < (up.modCtl fun c => { c with lostCount := 1 }).ctl.lostCount := by
  decide +kernel

/-- The staged copy after reset has no window in use; a FADER window of size 0 offends as descriptor 15. -/
theorem witness_LoadWindowsJudgesStagedSet :
    let s := { mapped with windows := { mapped.windows with staged := (mapped.windows.staged.set 60 1#32) } }
    let shown := showing mapped 5 8 .read .idle
    (mapped.inReset = false ∧ mapped.ctl.busy = none ∧
      ∀ n, (rawWindow mapped.windows.staged n).kind = 0) ∧
    ((rawWindow s.windows.staged 15).kind = 1 ∧ (rawWindow s.windows.staged 15).size = 0 ∧
      ∀ k : Fin 16, k < 15 → (rawWindow s.windows.staged k).kind = 0) ∧
    ((∀ e ∈ shown.port.queue, e.isFetch = false) ∧ (shown.strip 5).shown = some 8 ∧ shown.home 8 ≠ none) := by
  decide +kernel

/-- A load that leaves C8 without a home: S5, which shows it, in each state a hold acts on, with a ring and a waiting conversion. -/
theorem witness_LoadWindowsJudgesStagedSet_holds :
    let s : Motion → Bool → State := fun motion owed =>
      let u := ringed (showing mapped 5 8 .read motion) 0x310000 16 0 0
      (((u.modStrip 5 fun p => { p with recalPending := owed }).modDrive fun d =>
        { d with queue := if motion = .queued then [⟨5, .move⟩] else [] }).modTaper fun v => { v with waiters := [.level 8 true false] })
    (∀ m ∈ [Motion.queued, .moving, .settling, .idle], ∀ owed,
      (s m owed).inReset = false ∧ (s m owed).ctl.busy = none ∧ ((s m owed).strip 5).motion = m ∧
        ((s m owed).strip 5).shown = some 8 ∧ after (.loadWindows 0#8 0#16) (s m owed) (fun t => t.home 8) = some none) ∧
    (∀ owed, (s .queued owed).purposeOf 5 = some .move) ∧ (s .moving true).ringHasRoomFor 1 ∧
    (s .moving true).taper.waiters = [.level 8 true false] ∧ (s .moving true).home 8 ≠ none := by
  unfold State.ringHasRoomFor
  decide +kernel

/-- The staged table after reset is in order; one with breakpoint 16 at 4094 offends there. -/
theorem witness_LoadTaperJudgesStagedTable :
    let tr : State → Fin 17 → Nat := fun s k => (s.taper.staged[k.val].extractLsb' 0 16).toNat
    let lv : State → Fin 17 → Int := fun s k => (s.taper.staged[k.val].extractLsb' 16 16).toInt
    let offends : State → Fin 17 → Prop := fun s k =>
      4095 < tr s k ∨ lv s k < -1440 ∨ 192 < lv s k ∨ k.val = 0 ∧ tr s k ≠ 0 ∨ k.val = 16 ∧ tr s k ≠ 4095 ∨
      ∃ j : Fin 17, j.val + 1 = k.val ∧ (tr s k ≤ tr s j ∨ lv s k ≤ lv s j)
    let bad := up.modTaper fun u => { u with staged := (u.staged.set 16 (ofHalves (level 192) 4094#16)) }
    let shown := seen (showing up 5 8 .read .idle) 8 (-256) (-256) 1#8
    let busy := up.modCtl fun c => { c with busy := some (.loadTaper 1#8 0) }
    let owing := busy.modTaper fun u => { u with queue := [⟨.threshold 0 true 0#16, true⟩] }
    (up.inReset = false ∧ up.ctl.busy = none ∧ ∀ k, ¬ offends up k) ∧
    (offends bad 16 ∧ ∀ k : Fin 17, k < 16 → ¬ offends bad k) ∧
    ((shown.strip 5).shown = some 8 ∧ (shown.chan 8).image = some (level (-256))) ∧
    (busy.ctl.busy = some (.loadTaper 1#8 0) ∧ busy.taper.hasOwned = false ∧ owing.taper.hasOwned = true) := by
  dsimp only
  refine ⟨?_, ?_, ?_, ?_⟩ <;> decide +kernel

/-- The staged copy after reset is in range; its first and last words out of range offend at their offsets. -/
theorem witness_LoadMeterSetupJudgesStagedCopy :
    let range : Nat → Int × Int := fun f =>
      [(1, 256), (0, 4096), (0, 1000), (-1920, 0), (1, 16), (1, 1000)].getD f (0, 0)
    (up.inReset = false ∧ up.ctl.busy = none ∧
      (∀ k : Fin 24, ¬ (up.meter.stagedProfiles[k.val].toInt < (range (k.val % 6)).1 ∨
        (range (k.val % 6)).2 < up.meter.stagedProfiles[k.val].toInt)) ∧
      ∀ k : Fin 48, ¬ (up.meter.stagedScale[k.val].toInt < -1919 ∨ 0 < up.meter.stagedScale[k.val].toInt ∨
        ∃ j : Fin 48, j.val + 1 = k.val ∧ up.meter.stagedScale[k.val].toInt ≤ up.meter.stagedScale[j.val].toInt)) ∧
    (257#32).toInt > (range 0).2 ∧ (1#32).toInt > 0 := by
  dsimp only
  refine ⟨⟨?_, ?_, ?_, ?_⟩, ?_, ?_⟩ <;> decide +kernel

theorem powerOn_wellFormed : Taper.powerOn.wellFormed := by
  unfold Taper.wellFormed
  decide +kernel

theorem witness_TaperLawInterpolates : Taper.powerOn.wellFormed ∧ (level (-1440)).toInt ≤ Taper.powerOn[0].level ∧
    Taper.powerOn[16].level ≤ (level 192).toInt ∧
    (Taper.powerOn[15].level ≤ (level 191).toInt ∧ (level 191).toInt < Taper.powerOn[16].level) ∧
    (Taper.powerOn[15].travel < 4095 ∧ 4095 ≤ Taper.powerOn[16].travel) :=
  ⟨powerOn_wellFormed, by decide +kernel, by decide +kernel, by decide +kernel, by decide +kernel⟩

/-- S5 shows C8; the running conversion is C8's. -/
def converting (motion : Motion) (m r : Nat) : State :=
  ((seen (showing up 5 8 .read motion) 8 (-256) (-256) 3#8).modTaper fun u =>
    { u with
      queue := [⟨.levelToTravel 8 (level (-256)) 3#8, false⟩], running := some ⟨Taper.powerOn, 4⟩ }).modStrip 5 fun p =>
    { p with m := m, r := r }

theorem witness_DeliveredTravelIsATargetArrival :
    let s := converting .idle 0 0
    let q := (converting .queued 2045 0).modDrive fun d => { d with queue := [⟨5, .move⟩] }
    (s.inReset = false ∧ s.taper.running = some ⟨Taper.powerOn, 4⟩ ∧
      s.taper.queue = ⟨.levelToTravel 8 (level (-256)) 3#8, false⟩ :: [] ∧ (s.chan 8).image ≠ none ∧
      (s.chan 8).seq = 3#8 ∧ s.shownBy 8 = some 5) ∧
    ((s.strip 5).motion = .idle ∧ (s.strip 5).mode.motorised = true ∧
      ¬ Machine.dist (levelToTravel Taper.powerOn (level (-256))) (s.strip 5).m ≤ s.param .deadband) ∧
    ((q.strip 5).motion = .queued ∧ q.purposeOf 5 = some .move ∧
      Machine.dist (levelToTravel Taper.powerOn (level (-256))) (q.strip 5).m ≤ q.param .deadband) ∧
    (((converting .moving 0 2048).strip 5).motion = .moving ∧
      levelToTravel Taper.powerOn (level (-256)) = ((converting .moving 0 2048).strip 5).r) ∧
    (((converting .settling 0 2047).strip 5).motion = .settling ∧
      levelToTravel Taper.powerOn (level (-256)) ≠ ((converting .settling 0 2047).strip 5).r) ∧
    ((converting .touched 0 0).strip 5).motion = .touched ∧
    s.rail (groupOf 5) = .off ∧ (s.setRail 0 (.waking 9)).rail (groupOf 5) = .waking 9 ∧
    (s.setRail 0 (.on (some 3))).rail (groupOf 5) = .on (some 3) := by
  decide +kernel

/-- A readback, a threshold, and a full queue whose freed slot goes to the oldest waiter: a threshold and a channel's conversion that take it, one of a
channel that is not shown, one that coalesces, and a held beat; with LOAD_TAPER's last owned request running, and with one left. -/
theorem witness_OtherConversionsAreDelivered :
    let run : ConvRun := ⟨Taper.powerOn, 4⟩
    let s := (showing mapped 5 8 .touch .touched).modTaper fun u =>
      { u with queue := [⟨.travelToLevel 5 2101 8, false⟩], running := some run }
    let t := mapped.modTaper fun u => { u with queue := [⟨.threshold 31 true 0#16, false⟩], running := some run }
    let stopped := t.modTaper fun u => { u with running := none }
    let rest : List ConvReq := List.replicate 14 ⟨.threshold 0 true 0#16, false⟩ ++ [⟨.threshold 1 false 0#16, false⟩]
    let full : List Waiter → Bool → State := fun w owned =>
      ((writing (seen (showing mapped 5 8 .read .idle) 8 (-256) (-256) 3#8) 0x10008#24 0#2).modTaper fun u =>
        { u with queue := ⟨.threshold 31 true 0#16, owned⟩ :: rest, running := some run, waiters := w }).modPort fun p =>
        { p with heldBeat := some (5#32, 0xF#4) }
    let loading := (full [.threshold 3 true true] true).modCtl fun c => { c with busy := some (.loadTaper 4#8 2) }
    let emptied := (t.modTaper fun u => { u with queue := [⟨.threshold 31 true 0#16, true⟩] }).modCtl fun c =>
      { c with busy := some (.loadTaper 4#8 2) }
    (s.inReset = false ∧ s.taper.running = some run ∧ s.taper.queue = ⟨.travelToLevel 5 2101 8, false⟩ :: [] ∧
      s.port.heldBeat = none ∧ (s.strip 5).shown = some 8 ∧ (s.strip 5).operatorOwned = true ∧
      s.home 8 ≠ none ∧ (s.chan 8).image ≠ some (travelToLevel run.table 2101) ∧
      s.port.queue.countP InjEntry.isPosition < 32) ∧
    (t.taper.running = some run ∧ t.taper.queue = ⟨.threshold 31 true 0#16, false⟩ :: [] ∧
      t.taper.waiters = []) ∧
    (∀ w ∈ [Waiter.threshold 3 true false, .level 8 true false, .level 9 false true, .threshold 1 false true, .beat],
      (full [w] false).inReset = false ∧ (full [w] false).taper.running = some run ∧
      (full [w] false).taper.queue = ⟨.threshold 31 true 0#16, false⟩ :: rest ∧ rest.length = 15 ∧
      (full [w] false).taper.waiters = w :: []) ∧
    ((∀ x ∈ rest.drop 1, x.work.key ≠ .threshold 3 true) ∧ (∀ x ∈ rest.drop 1, x.work.key ≠ .level 8) ∧
      ¬ (∀ x ∈ rest.drop 1, x.work.key ≠ .threshold 1 false)) ∧
    (((full [] false).chan 8).image = some (level (-256)) ∧ (full [] false).shownBy 8 = some 5 ∧
      ((full [] false).chan 9).image = none) ∧
    ((full [.beat] false).port.req = some (theWrite 0x10008#24 0#2) ∧
      (full [.beat] false).port.heldBeat = some (5#32, 0xF#4) ∧
      (full [.beat] false).decodeBeat (theWrite 0x10008#24 0#2).beatAddr = .fader 8 .native ∧
      coversCode .native 0xF#4 = true ∧ ((full [.beat] false).strip 5).converts) ∧
    (loading.ctl.busy = some (.loadTaper 4#8 2) ∧
      after .thresholdComplete loading (fun t => t.taper.hasOwned) = some true ∧
      after .thresholdComplete emptied (fun t => t.taper.hasOwned) = some false) ∧
    (stopped.taper.running = none ∧ stopped.taper.queue ≠ []) ∧ up.taper.queue = [] := by
  unfold Strip.converts
  decide +kernel

theorem witness_SlotWaitersAreServed :
    let s : List Waiter → State := fun w =>
      (seen (showing mapped 5 8 .read .idle) 8 (-256) (-256) 3#8).modTaper fun u => { u with waiters := w }
    let beat := (writing (s [.beat]) 0x10008#24 0#2).modPort fun p => { p with heldBeat := some (5#32, 0xF#4) }
    let full := (s [.beat]).modTaper fun u => { u with queue := List.replicate 16 ⟨.threshold 0 true 0#16, false⟩ }
    (up.inReset = false ∧ up.ctl.busy = none ∧ up.taper.waiters = [] ∧ 16 ≤ full.taper.queue.length) ∧
    ((s [.threshold 31 true false]).taper.waiters = [.threshold 31 true false] ∧
      (s [.threshold 31 true false]).taper.queue.length < 16) ∧
    ((s [.level 8 true false]).taper.waiters = [.level 8 true false] ∧
      ((s [.level 8 true false]).chan 8).image = some (level (-256)) ∧
      (s [.level 8 true false]).shownBy 8 ≠ none) ∧
    (beat.taper.waiters = [.beat] ∧ beat.port.req = some (theWrite 0x10008#24 0#2) ∧
      beat.port.heldBeat = some (5#32, 0xF#4) ∧
      beat.decodeBeat (theWrite 0x10008#24 0#2).beatAddr = .fader 8 .native ∧ coversCode .native 0xF#4 = true) := by
  decide +kernel

/-! ### Servo, touch, drive, meters -/

/-- Strips whose quantities pass a test are in range. -/
theorem stripsInRange_of (s : State)
    (h : ∀ i : StripId, (s.strip i).drive.natAbs ≤ 1023 ∧ (s.strip i).m ≤ 4095 ∧ (s.strip i).r ≤ 4095 ∧
      ((s.strip i).target.all fun t => t.travel ≤ 4095) = true ∧ (s.strip i).v ≤ 255 ∧
      (s.strip i).onTravel ≤ 4095 ∧ (s.strip i).offTravel ≤ 4095) : s.stripsInRange := by
  intro i
  obtain ⟨h1, h2, h3, h4, h5⟩ := h i
  refine ⟨h1, h2, h3, fun t e => ?_, h5⟩
  simpa [e] using h4

theorem witness_RestSamplesOnlyMeasure :
    let s := sampled (showing up 31 5 .read .idle) 2046#12
    let noSchedule : State :=
      { s with strips := s.strips.map fun (p : Strip) => { p with sampleDue := none, readbackDue := none } }
    ((∃ j, (up.strip j).reading = none) ∧ up.inReset = false) ∧
    (s.sampling 31 2046#12 4000 ∧ (s.strip 31).motion.driven = false ∧
      (s.strip 31).calibration = some ⟨112, 3980⟩ ∧ (s.strip 0).calibration = none) ∧
    (noSchedule.allRead = true ∧ (noSchedule.strip 0).waiting = none ∧
      (∀ j : StripId, (noSchedule.strip j).sampleDue = none) ∧ (noSchedule.strip 0).readbackDue = none ∧
      (noSchedule.strip 0).motion.driven = false) := by
  unfold State.sampling
  decide +kernel

/-- A line that a sample takes ON, and one that a sample takes OFF. -/
theorem witness_RestSamplesOnlyMeasure_line :
    let s : Bool → BitVec 12 → State := fun line raw => (sampled (showing up 31 5 .read .idle) raw).modStrip 31 fun p =>
      { p with line := line, fsEnable := true, onTravel := 300, offTravel := 100 }
    after (.servoSample 31) (s false 2046#12) (fun t => (t.strip 31).line) = some true ∧
      after (.servoSample 31) (s true 112#12) (fun t => (t.strip 31).line) = some false := by
  decide +kernel

/-- A MOVING strip one step short of its target, and one far from it with a lag above the tolerance. -/
theorem witness_MovingSamplesStepTheReference :
    let s : Nat → State := fun r => (sampled (showing up 31 5 .read .moving) 2046#12).modStrip 31 fun p =>
      { p with r := r, target := some ⟨0#16, 4095, 5⟩ }
    (s 4094).sampling 31 2046#12 4000 ∧ (s 4094).paramsInRange ∧ (s 4094).stripsInRange ∧
      ((s 4094).strip 31).motion = .moving ∧ ((s 4094).strip 31).target = some ⟨0#16, 4095, 5⟩ ∧
      0 < Machine.dist 4095 ((s 4094).strip 31).r ∧
      (s 0).sampling 31 2046#12 4000 ∧ (s 0).paramsInRange ∧ ((s 0).strip 31).moveMarked = false ∧
      (let u := (s 0).modStrip 31 fun p => { p with policy := .errorThreshold, slices := [0, 3, 0, 0, 0, 0, 0, 0] }
      after (.servoSample 31) u (fun t => ((t.strip 31).slices, (t.strip 31).recalPending)) =
        some ([1, 3, 0, 0, 0, 0, 0, 0], true)) := by
  refine ⟨?_, ?_, stripsInRange_of _ (by decide +kernel), ?_⟩
  · unfold State.sampling
    decide +kernel
  · unfold State.paramsInRange
    decide +kernel
  · unfold State.sampling State.paramsInRange
    decide +kernel

/-- A SETTLING strip that settles, one that goes on, and one that times out. -/
theorem witness_SettlingSamplesSettleOrStall :
    let s : Nat → Nat → BitVec 16 → State := fun r n t =>
      ((sampled (showing up 31 5 .read .settling) 2046#12).modStrip 31 fun p =>
        { p with r := r, settled := n }).modCtl fun c => { c with time := t }
    let lag : State → Nat := fun u =>
      Machine.dist (u.strip 31).r (measured (u.strip 31).calibration (2046#12).toNat)
    ((s 2051 7 0#16).sampling 31 2046#12 4000 ∧ ((s 2051 7 0#16).strip 31).motion = .settling ∧
      lag (s 2051 7 0#16) ≤ (s 2051 7 0#16).param .deadband ∧
      (s 2051 7 0#16).param .settleCount ≤ ((s 2051 7 0#16).strip 31).settled + 1) ∧
    ((s 2052 7 249#16).param .deadband < lag (s 2052 7 249#16) ∧
      ((s 2052 7 249#16).ctl.time - ((s 2052 7 249#16).strip 31).settleStart).toNat <
        (s 2052 7 249#16).param .settleTimeout) ∧
    ((s 2052 7 250#16).param .deadband < lag (s 2052 7 250#16) ∧
      (s 2052 7 250#16).param .settleTimeout ≤
        ((s 2052 7 250#16).ctl.time - ((s 2052 7 250#16).strip 31).settleStart).toNat) ∧
    ((s 4095 7 250#16).param .trackTolerance < lag (s 4095 7 250#16) ∧
      ((s 4095 7 250#16).strip 31).moveMarked = false ∧
      after (.settleTimeout 31) (s 4095 7 250#16) (fun t => (t.strip 31).slices) = some [2, 0, 0, 0, 0, 0, 0, 0]) := by
  unfold State.sampling
  decide +kernel

/-- A phase that finds its stop at its 20th still sample, one that goes on, and one that times out. -/
theorem witness_CalibrationSamplesRunThePhases :
    let s : CalRun → BitVec 16 → State := fun c t =>
      ((sampled (showing up 31 5 .read .calibrating) 3980#12).modStrip 31 fun p =>
        { p with cal := some c }).modCtl fun c => { c with time := t }
    let low : CalRun := ⟨.lowSeek, 0#16, some 3979, 19⟩
    let high : CalRun := ⟨.highSeek 780, 0#16, some 3981, 19⟩
    let short : CalRun := ⟨.highSeek 781, 0#16, some 3980, 19⟩
    let slow : CalRun := ⟨.lowSeek, 0#16, some 3978, 19⟩
    (∀ c ∈ [low, high, short, slow], (s c 0#16).sampling 31 3980#12 4000 ∧
      ((s c 0#16).strip 31).motion = .calibrating ∧ ((s c 0#16).strip 31).cal = some c) ∧
    (Machine.dist 3980 3979 ≤ 1 ∧ (s low 0#16).param .calStill ≤ 19 + 1) ∧
    (780 + (s high 0#16).param .minSpan ≤ 3980 ∧ ¬ 781 + (s short 0#16).param .minSpan ≤ 3980) ∧
    (¬ Machine.dist 3980 3978 ≤ 1 ∧
      (s slow 800#16).param .calTimeout ≤ ((s slow 800#16).ctl.time - slow.start).toNat ∧
      ¬ (s slow 799#16).param .calTimeout ≤ ((s slow 799#16).ctl.time - slow.start).toNat) ∧
    ((s short 0#16).strip 31).attempts + 1 < (s short 0#16).param .bailout := by
  unfold State.sampling
  decide +kernel

theorem witness_PressesAreDebouncedAndTaken :
    let s := (ringed (showing up 31 5 .latch .queued) 0x310000 16 14 0).modStrip 31 fun p =>
      { p with debounce := some ⟨true, 0⟩ }
    (up.inReset = false ∧ false = (up.strip 31).rawTouch ∧ true ≠ (up.strip 31).rawTouch) ∧
    (s.inReset = false ∧ (s.strip 31).debounce = some ⟨true, 0⟩ ∧ (s.strip 31).motion = .queued ∧
      s.ringHasRoom) ∧
    (up.strip 31).motion = .parked := by
  unfold State.ringHasRoom
  decide +kernel

/-- Releases of a touched strip: in WRITE, in LATCH with the latch engaged, in TOUCH near and far from a target that pairs with the
processor code, and with one that does not. -/
theorem witness_ReleasesGiveTheStripBack :
    let s : Mode → Bool → Target → State := fun mode latch g =>
      (seen (showing mapped 5 8 mode .touched) 8 (-300) (-256) 1#8).modStrip 5 fun p =>
        { p with debounce := some ⟨false, 0⟩, latch := latch, target := some g }
    let far : Target := ⟨level (-256), 4, 8⟩
    let near : Target := ⟨level (-256), 3, 8⟩
    let other : Target := ⟨level (-300), 4, 8⟩
    (∀ u ∈ [s .write false far, s .latch true far, s .touch false near, s .touch false far, s .touch false other],
      u.inReset = false ∧ (u.strip 5).debounce = some ⟨false, 0⟩ ∧ (u.strip 5).waiting = none ∧
        (u.strip 5).motion ≠ .stalled ∧ u.processorCode 5 = some (8, level (-256))) ∧
    ((s .latch true far).strip 5).latch = true ∧
    (Machine.dist near.travel ((s .touch false near).strip 5).m ≤ (s .touch false near).param .deadband ∧
      (s .touch false far).param .deadband < Machine.dist far.travel ((s .touch false far).strip 5).m ∧
      other.code ≠ level (-256)) ∧
    ((s .touch false far).home 8 ≠ none ∧ ((s .touch false far).chan 8).image ≠ some (level (-256)) ∧
      (s .touch false far).port.queue.countP InjEntry.isPosition < 32) ∧
    ((up.modStrip 5 fun p => { p with debounce := (some ⟨false, 0⟩) }).strip 5).mode = .parked := by
  decide +kernel

/-- S0 waits for a channel that S1 shows, for a free one, or for none: touched, held by open-line protection, free to adopt, in each motion. -/
theorem witness_PendingChannelsAreAdopted :
    let s : Option ChanId → Mode → Motion → Bool → Nat → State := fun x mode motion line protect =>
      let u := ringed (sampled (showing layered 0 10 mode motion) 2046#12) 0x310000 16 0 0
      (u.modStrip 0 fun p =>
        { p with waiting := some x, line := line, fsEnable := line, debounce := some ⟨false, 8000⟩, recalPending := motion == .touched }).modCtl
        fun c => { c with params := c.params.set (Param.index .openProtect).val protect }
    (s none .touch .touched false 0).layersSafe ∧ (s (some 11) .touch .idle true 1).layersSafe ∧
    (s (some 11) .touch .idle false 0).layersSafe ∧ (s (some 23) .touch .idle false 0).layersSafe ∧
    (s none .parked .parked true 1).layersSafe ∧ (s none .write .touched false 0).layersSafe ∧
    (∀ m ∈ [Motion.touched, .idle, .stalled, .parked],
      let u := s none (if m = .parked then .parked else .touch) m true 1
      u.inReset = false ∧ u.allRead = true ∧ (u.strip 0).reading = some 2046#12 ∧ (u.strip 0).sampleDue = some 4000 ∧
        (u.strip 0).readbackDue.isSome = true ∧ (u.strip 0).waiting = some none ∧ u.param .openProtect ≠ 0 ∧
        (u.strip 0).debounce = some ⟨false, 8000⟩ ∧ (u.strip 0).motion = m ∧ (u.strip 0).line = true) ∧
    (after (.servoSample 0) (s none .touch .idle false 1) fun t => (t.strip 0).line) = some false ∧
    (after (.servoSample 0) (s (some 11) .touch .idle true 1) fun t => (t.strip 0).line) = some true ∧
    ((s none .touch .touched false 0).strip 0).touched = true ∧ ((s none .touch .idle false 0).strip 0).touched = false ∧
    ((s (some 11) .touch .idle false 0).strip 1).shown = some 11 ∧
    (∀ j, j ≠ 0 → ((s (some 23) .touch .idle false 0).strip j).shown ≠ some 23) ∧
    (s none .touch .idle false 0).ringHasRoom ∧ (s none .write .touched false 0).ringHasRoom ∧
    ((s none .write .touched false 0).strip 0).mode = .write ∧ Mode.touch.motorised = true := by
  refine ⟨?_, ?_, ?_, ?_, ?_, ?_, ?_⟩
  iterate 6 exact layersSafe_of _ (by decide +kernel) (by decide +kernel) (by decide +kernel) (by decide +kernel)
  unfold State.ringHasRoom
  decide +kernel

/-- S0 is to show nothing and gives up C10, which S4 is conflict-blank on, touched or not. -/
def givingUp (touched : Bool) : State :=
  let s := seen (ringed (sampled (showing layered 0 10 .touch .idle) 2046#12) 0x310000 16 0 0) 10 (-256) (-256) 1#8
  (s.modStrip 0 fun p => { p with waiting := some none }).modStrip 4 fun p => { p with conflict := some 10, touched := touched }

theorem witness_PendingChannelsAreAdopted_release :
    ((givingUp true).layersSafe ∧ (givingUp false).layersSafe) ∧
    (∀ h, after (.servoSample 0) (givingUp h) (fun t => (givingUp h).gaveUp t 0) = some (some 10) ∧
      (givingUp h).owedRelease 0 (some 10) 4 ∧ ((givingUp h).defers 4 ↔ h = true)) ∧
    ((givingUp false).strip 0).shown = some 10 ∧ ((givingUp false).chan 10).image ≠ none ∧
    (givingUp false).ringHasRoomFor 2 := by
  refine ⟨⟨?_, ?_⟩, ?_, ?_⟩
  iterate 2 exact layersSafe_of _ (by decide +kernel) (by decide +kernel) (by decide +kernel) (by decide +kernel)
  · unfold State.owedRelease State.defers
    decide +kernel
  · unfold State.ringHasRoomFor
    decide +kernel

theorem witness_ReadbacksReportTheHand :
    let s : Nat → State := fun m => (seen (showing mapped 5 8 .touch .touched) 8 (-300) (-256) 1#8).modStrip 5 fun p =>
      { p with m := m, target := some ⟨level (-256), 2048, 8⟩, readbackDue := some 16000, lastReadback := some 2000 }
    let waits := (List.range 32).map fun n => (n, InjBody.position (Fin.ofNat 256 (n + 100)) 0#16 .native)
    let u := ringed (queued (s 2051) waits) 0x310000 16 0 0
    (∀ m ∈ [2001, 2051, 2052], (s m).inReset = false ∧ ((s m).strip 5).readbackDue = some 16000 ∧
      ((s m).strip 5).mode = .touch ∧ ((s m).strip 5).touched = true ∧ ((s m).strip 5).shown = some 8 ∧
      (s m).home 8 ≠ none) ∧
    (Machine.dist 2001 2000 < (s 2001).param .readbackDeadband ∧
      (s 2051).param .readbackDeadband ≤ Machine.dist 2051 2000 ∧
      Machine.dist 2051 2048 ≤ (s 2051).param .deadband ∧ (s 2052).param .deadband < Machine.dist 2052 2048) ∧
    ((s 2051).chan 8).image ≠ some (level (-256)) ∧ (s 2052).taper.queue.length < 16 ∧
    (32 ≤ u.port.queue.countP InjEntry.isPosition ∧ u.port.queue.any (InjEntry.isPositionOf 8) = false ∧
      u.ringHasRoom) := by
  unfold State.ringHasRoom
  decide +kernel

theorem witness_GrantsGoToTheOldestEligible :
    let s := ((showing up 0 0 .read .queued).setRail 0 (.on none)).modDrive fun d => { d with queue := [⟨0, .move⟩] }
    (up.inReset = false ∧ up.drive.queue = []) ∧
    (s.inReset = false ∧ s.startsMatch ∧ ∃ n e, s.nowUs ≤ n ∧ e ∈ s.drive.queue ∧ s.mayGrant n e) := by
  refine ⟨⟨rfl, rfl⟩, rfl, ?_, 0, ⟨0, .move⟩, ?_, ?_, ⟨none, rfl⟩, ?_, ?_, ?_⟩
  · unfold State.startsMatch
    decide +kernel
  · decide +kernel
  · decide +kernel
  · decide +kernel
  · intro g h
    exact absurd h nofun
  · intro g h
    exact absurd h nofun

theorem witness_RailsWakeIdleAndSlicesTurn :
    let s := ((showing up 31 5 .read .idle).modStrip 31 fun p => { p with policy := .onWake }).setRail 3 (.waking 20000)
    let idle := up.setRail 3 (.on (some 0))
    let never := idle.modCtl fun c => { c with params := c.params.set 14 0 }
    (s.inReset = false ∧ s.rail 3 = .waking 20000 ∧ (s.strip 31).policy = .onWake ∧ s.startsMatch) ∧
    (idle.rail 3 = .on (some 0) ∧ idle.param .idleOff ≠ 0) ∧ never.param .idleOff = 0 ∧
    (∀ w, up.rail 3 ≠ .waking w) ∧ ∀ w, up.rail 3 ≠ .on (some w) := by
  refine ⟨?_, by decide +kernel, by decide +kernel, nofun, nofun⟩
  unfold State.startsMatch
  decide +kernel

theorem witness_InputLevelIsNearestLogarithm : 0 < 1 ∧ 0 < 8388609 ∧ -1920 < inputLevel 9 := by
  decide +kernel

/-- M3 and M9 light their lamps in one frame, with room for both events. -/
theorem witness_FramesProcessEveryChannel_over :
    let hot : MeterRec := ⟨some 8388608, -320, -320, 0, 15, 0, 0, false, ⟨0, 0, false⟩⟩
    let s := (ringed up 0x310000 16 0 0).modMeter fun e => { e with recs := (e.recs.set 3 hot).set 9 hot }
    (∀ k ∈ [(3 : MeterId), 9], (s.meterRec k).stale = false ∧ (s.meterRec k).overLatch = 0 ∧
      (s.meter.active.profiles[(s.meter.active.map[k.val]).val]).overLevel ≤ inputLevel 8388608 ∧
      (s.meter.active.profiles[(s.meter.active.map[k.val]).val]).overCount ≤ min (15 + 1) 16) ∧
    s.meter.waiting = none ∧ s.ringHasRoomFor 2 := by
  unfold State.ringHasRoomFor
  decide +kernel

/-- M7 live with its peak held out and its lamp at its last frame, M8 at the last frame before STALE. -/
theorem witness_FramesProcessEveryChannel :
    let s := up.modMeter fun e =>
      { e with
        recs := (e.recs.set 7 ⟨none, -320, -320, 0, 0, 1, 0, false, ⟨0, 0, false⟩⟩).set 8
          ⟨none, -320, -320, 5, 0, 0, 29, false, ⟨0, 0, false⟩⟩
        shift := some ⟨[true], 0⟩ }
    s.inReset = false ∧ (s.meterRec 7).capture = none ∧ (s.meterRec 7).hold = 0 ∧
      max (-30720) ((s.meterRec 7).level - (s.meter.active.profiles[0].decay : Int)) < (s.meterRec 7).peak ∧
      (s.meterRec 7).overLatch = 1 ∧ (s.meterRec 8).stale = false ∧
      s.param .staleLimit ≤ min ((s.meterRec 8).staleCount + 1) 255 ∧ s.meter.shift = some ⟨[true], 0⟩ ∧
      up.meter.shift = none := by
  decide +kernel

/-! ### The laws that every step keeps: the state after reset has them, and goes on -/

theorem witness_QuantitiesStayInRange :
    up.paramsInRange ∧ up.ctl.ringSafe ∧ up.tapersWellFormed ∧ up.stripsInRange ∧ step up = .next up.idle := by
  refine ⟨?_, .inl ⟨rfl, rfl, rfl⟩, ⟨powerOn_wellFormed, nofun⟩, ?_, rfl⟩
  · unfold State.paramsInRange
    decide +kernel
  · exact stripsInRange_of _ (by decide +kernel)

theorem witness_MotionStaysSafe : up.motionSafe ∧ step up = .next up.idle := by
  refine ⟨⟨?_, ?_, ?_, ?_, ?_⟩, rfl⟩
  · unfold Strip.coherent
    decide +kernel
  · unfold State.startsMatch
    decide +kernel
  · decide +kernel
  · decide +kernel
  · intro g idle h
    have k : ∀ g : GroupId, up.rail g = .off := by decide +kernel
    exact absurd ((k g).symm.trans h) nofun

theorem witness_ShownChannelsStayDistinct : layered.layersSafe ∧ step layered = .next layered.idle :=
  ⟨layered_safe, rfl⟩

theorem witness_QueuesKeepTheirLimits :
    let s := queued up [(1, .status .result 0#32), (0x310000, .event 0#32 0#32)]
    (s.port.limitsKept ∧ step s = .next s.idle) ∧ up.conversionsSafe ∧ step up = .next up.idle := by
  refine ⟨⟨?_, rfl⟩, ?_, rfl⟩
  · unfold ImagePort.limitsKept
    decide +kernel
  · unfold State.conversionsSafe TaperUnit.limitsKept
    decide +kernel

theorem witness_MeterLevelsStayInRange : up.meter.levelsSafe ∧ step up = .next up.idle := by
  refine ⟨⟨?_, ?_, nofun⟩, rfl⟩
  · decide +kernel
  · unfold MeterSetup.attacksInRange
    decide +kernel

end Sys2Proof.Tests
end

section
/-!
The queues as an invariant of the whole machine. A property of the image port and the taper unit that the shared operations of the queues keep is kept
by every command: `QueueLaw` says what the shared operations are, and the lemmas under its name carry the property through each operation of the model.
-/

namespace Sys2Proof.Machine

open Sys2Proof

/-- A property of the image port and the taper unit holds of a state. -/
abbrev State.meets (s : State) (P : ImagePort → TaperUnit → Prop) : Prop := P s.port s.taper

/-- The port with an entry appended at the tail (R11). -/
def ImagePort.push (p : ImagePort) (addr : Nat) (body : InjBody) : ImagePort :=
  { p with queue := p.queue ++ [⟨p.nextStamp, addr, body⟩], nextStamp := p.nextStamp + 1 }

/-- The port with only some of its entries kept; the guard count returns to 0 when that empties the queue (R19). -/
def ImagePort.keep (p : ImagePort) (f : InjEntry → Bool) : ImagePort :=
  { p with
    queue := p.queue.filter f
    guardCount := if !p.queue.isEmpty && (p.queue.filter f).isEmpty then 0 else p.guardCount }

/-- A property of the image port and the taper unit that every shared operation on the two queues keeps: the entries' creation and removal (R11 to R20), the
requests and waiters (R49 to R53), and the held beat (R52). -/
structure QueueLaw (P : ImagePort → TaperUnit → Prop) : Prop where
  reset (p : ImagePort) : P { ImagePort.powerOn with toProcessor := p.toProcessor, toMemory := p.toMemory }
    TaperUnit.powerOn
  port {p p' : ImagePort} {u : TaperUnit} : P p u → p'.queue = p.queue → p'.nextStamp = p.nextStamp →
    p'.guardCount = p.guardCount → p'.heldBeat = p.heldBeat → P p' u
  status {p : ImagePort} {u : TaperUnit} : P p u → ∀ w a v,
    P (ImagePort.push { p with queue := p.queue.filter fun e => !e.isStatusOf w } a (.status w v)) u
  event {p : ImagePort} {u : TaperUnit} : P p u → p.queue.countP InjEntry.isEvent < 12 → ∀ a v w,
    P (p.push a (.event v w)) u
  position {p : ImagePort} {u : TaperUnit} {c : ChanId} : P p u → p.queue.any (InjEntry.isPositionOf c) = false →
    p.queue.countP InjEntry.isPosition < 32 → ∀ a code order, P (p.push a (.position c code order)) u
  recode {p : ImagePort} {u : TaperUnit} : P p u → ∀ c code a order,
    P { p with queue := p.queue.map (InjEntry.replaceCode c code a order) } u
  fetch {p : ImagePort} {u : TaperUnit} {c : ChanId} : P p u → p.queue.any (InjEntry.isFetchOf c) = false →
    p.queue.countP InjEntry.isFetch < 32 → ∀ a seq order, P (p.push a (.fetch c seq order)) u
  keep {p : ImagePort} {u : TaperUnit} : P p u → ∀ f, P (p.keep f) u
  grant {p : ImagePort} {u : TaperUnit} : P p u → p.grantsPassing = true → ∀ q, P (p.grant q) u
  issue {p : ImagePort} {u : TaperUnit} {e : InjEntry} {rest : List InjEntry} : P p u → p.queue = e :: rest →
    P (p.issue e rest) u
  tables {p : ImagePort} {u u' : TaperUnit} : P p u → u'.queue = u.queue → u'.running = u.running →
    u'.waiters = u.waiters → P p u'
  convert {s t : State} {q : ConvReq} : s.meets P → s.convert q = some t → P s.port t.taper
  wait {s : State} {q : ConvReq} {w : Waiter} : s.meets P → s.convert q = none → w.key = some q.work.key →
    P s.port (s.wait w).taper
  startHead {s : State} : s.meets P → P s.port s.startHead.taper
  dropWaiters {p : ImagePort} {u : TaperUnit} : P p u → ∀ f, P p { u with waiters := u.waiters.filter f }
  clear {p : ImagePort} {u : TaperUnit} : P p u → P p { u with queue := [], running := none, waiters := [] }
  hold {p : ImagePort} {u : TaperUnit} : P p u → p.heldBeat = none → 16 ≤ u.queue.length → ∀ b,
    P { p with heldBeat := some b } { u with waiters := u.waiters ++ [.beat] }
  pop {p : ImagePort} {u : TaperUnit} {w : Waiter} {rest : List Waiter} : P p u → u.waiters = w :: rest →
    u.queue.length < 16 → P p { u with waiters := rest }
  popBeat {p : ImagePort} {u : TaperUnit} {rest : List Waiter} : P p u → u.waiters = .beat :: rest →
    u.queue.length < 16 → P { p with heldBeat := none } { u with waiters := rest }

variable {P : ImagePort → TaperUnit → Prop} {s t : State}

/-- What leaves the image port and the taper unit alone keeps every property of them. -/
theorem State.meets.frame (h : s.meets P) (hp : t.port = s.port := by simp)
    (hu : t.taper = s.taper := by simp) : t.meets P := by
  rw [State.meets, hp, hu]; exact h

/-- The control unit is not part of the queues. -/
theorem State.meets.modCtl (h : s.meets P) (f : Control → Control) : (s.modCtl f).meets P := h

/-- A capture is not part of the queues. -/
theorem State.meets.captureMeter (h : s.meets P) (k : MeterId) (order : WordOrder) (data : Word) (e : Enables) :
    (s.captureMeter k order data e).meets P := by
  unfold State.captureMeter
  split <;> exact h

/-- A work on each of some strips keeps what the work on one strip keeps. -/
theorem State.meets.forStrips {f : StripId → State → State}
    (hf : ∀ i (t : State), t.meets P → (f i t).meets P) (l : List StripId) (h : s.meets P) :
    (s.forStrips l f).meets P := by
  unfold State.forStrips
  induction l generalizing s with
  | nil => exact h
  | cons i l ih => exact ih (hf i s h)

namespace QueueLaw

variable (L : QueueLaw P) (h : s.meets P)
include L h

/-! ## Status words, results and events -/

theorem pushStatus (w : StatusWord) : (s.pushStatus w).meets P := L.status h ..

theorem putResult (tag : BitVec 8) (code : ResultCode) (v : BitVec 16) : (s.putResult tag code v).meets P := by
  have r := L.pushStatus (h.modCtl fun c => { c with result := resultWord tag code.number v }) .result
  unfold State.putResult
  dsimp only
  split
  · exact r
  · exact L.pushStatus (r.modCtl _) .summary

theorem syncCheck : s.syncCheck.meets P := by
  unfold State.syncCheck
  split
  · split
    · exact h
    · exact L.putResult (h.modCtl _) ..
  · exact h

theorem requestStatus (w : StatusWord) : (s.requestStatus w).meets P := L.syncCheck (L.pushStatus h w)

theorem writeResult (tag : BitVec 8) (code : ResultCode) (v : BitVec 16) : (s.writeResult tag code v).meets P :=
  L.syncCheck (L.putResult h tag code v)

theorem noteCauses (before : Word) : (s.noteCauses before).meets P := by
  unfold State.noteCauses
  split
  · exact h
  · exact L.requestStatus h _

theorem modCauses (f : Control → Control) : (s.modCauses f).meets P := L.noteCauses (h.modCtl f) _

theorem setFault : s.setFault.meets P := L.modCauses h _

theorem keepEntries (f : InjEntry → Bool) : (s.keepEntries f).meets P :=
  L.syncCheck (s := s.modPort fun p => p.keep f) (L.keep h f)

theorem loseEvent : s.loseEvent.meets P := by
  unfold State.loseEvent
  dsimp only
  split
  · exact L.modCauses (L.requestStatus (h.modCtl _) _) _
  · exact L.modCauses h _

theorem deliverEvent (room : s.port.queue.countP InjEntry.isEvent < 12) (kind : EventKind) (index : BitVec 8)
    (v n : BitVec 16) : (s.deliverEvent kind index v n).meets P := by
  have e := L.event h room (s.ctl.slotAddr s.ctl.producer) (eventWord0 kind index n) (eventWord1 v s.ctl.time)
  have r := L.requestStatus (s := (s.pushEntry _ _).modCtl fun c => { c with producer := c.nextProducer }) e .producer
  unfold State.deliverEvent
  dsimp only
  split
  · exact r
  · exact L.requestStatus r _

theorem createEvent (kind : EventKind) (index : BitVec 8) (v : BitVec 16) : (s.createEvent kind index v).meets P := by
  unfold State.createEvent
  dsimp only
  split
  · exact h
  · split
    · exact L.loseEvent (h.modCtl _)
    · next room =>
      simp only [State.eventWouldBeLost, Bool.or_eq_true, decide_eq_true_eq, not_or, not_le] at room
      exact L.deliverEvent (h.modCtl _) room.2 ..

theorem stripEvent (kind : EventKind) (i : StripId) (v : BitVec 16) : (s.stripEvent kind i v).meets P :=
  L.createEvent h ..

/-! ## Requests for entries and conversions -/

theorem requestPosition (c : ChanId) (code : Code) : (s.requestPosition c code).meets P := by
  unfold State.requestPosition
  split
  · exact h
  · split
    · exact L.recode h ..
    · next absent =>
      split
      · next room => exact L.position h (by simpa using absent) room ..
      · exact L.createEvent h ..

theorem fetchFailed (c : ChanId) (v : BitVec 16) : (s.fetchFailed c v).meets P := by
  have e := L.createEvent h .fetchError (BitVec.ofNat 8 c.val) v
  unfold State.fetchFailed
  dsimp only
  split
  · exact e.frame
  · exact e

theorem requestFetch (c : ChanId) : (s.requestFetch c).meets P := by
  unfold State.requestFetch
  split
  · exact h
  · split
    · exact h
    · next absent =>
      split
      · next room => exact L.fetch h (by simpa using absent) room ..
      · exact L.fetchFailed h ..

theorem writeBack (c : ChanId) (code : Code) : (s.writeBack c code).meets P := by
  unfold State.writeBack
  split
  · exact L.requestPosition h ..
  · exact h

theorem converted {q : ConvReq} (e : s.convert q = some t) : t.meets P := by
  have port : t.port = s.port := by rw [State.convert_some e]
  rw [State.meets, port]; exact L.convert h e

theorem started : s.startHead.meets P := by
  rw [State.meets, State.startHead_port]; exact L.startHead h

theorem convertOrWait (q : ConvReq) (w : Waiter) (key : w.key = some q.work.key) : (s.convertOrWait q w).meets P := by
  unfold State.convertOrWait
  split
  · next e => exact L.converted h e
  · next e => exact L.wait h e key

theorem convertChannel (c : ChanId) (o : Bool) : (s.convertChannel c o).meets P := by
  unfold State.convertChannel
  split
  · exact L.convertOrWait h _ _ rfl
  · exact h

theorem convertThreshold (i : StripId) (on o : Bool) : (s.convertThreshold i on o).meets P :=
  L.convertOrWait h _ _ rfl

theorem convertShown (i : StripId) (o : Bool) : (s.convertShown i o).meets P := by
  unfold State.convertShown
  split
  · exact L.convertChannel h ..
  · exact h

theorem unmapped (i : StripId) (c : ChanId) : (s.unmapped i c).meets P := by
  unfold State.unmapped
  exact (L.stripEvent h .unmapped i (field16 c.val)).frame

theorem handOff (c : ChanId) (code : Code) : (s.handOff c code).meets P := by
  unfold State.handOff
  split
  · exact h
  · split
    · exact h
    · split
      · next e => exact L.converted h e
      · exact h
    · split
      · exact L.requestPosition h ..
      · exact h

theorem writeCode (c : ChanId) (code : Code) : (s.writeCode c code).meets P :=
  L.handOff (s := s.setChan c _) h ..

/-! ## Beats and the slot wait list -/

theorem portWork (addr : Nat) (e : Enables) : (s.portWork addr e).meets P :=
  L.keepEntries (s := s.modPort _) (L.port h rfl rfl rfl rfl) _

theorem faderBeat (c : ChanId) (order : WordOrder) (data : Word) (e : Enables) :
    (s.faderBeat c order data e).meets P := by
  unfold State.faderBeat
  split
  · exact L.writeCode h ..
  · exact h

theorem dataBeat (addr : Nat) (data : Word) (e : Enables) : (s.dataBeat addr data e).meets P := by
  have w := L.portWork h addr e
  unfold State.dataBeat
  dsimp only
  split
  · exact L.faderBeat w ..
  · exact w.captureMeter ..
  · exact w
  · exact w

theorem serveHead {w : Waiter} {rest : List Waiter} (e : s.taper.waiters = w :: rest) (room : s.taper.queue.length < 16) :
    ((s.modTaper fun u => { u with waiters := rest }).serveOne w).meets P := by
  have popped : (s.modTaper fun u => { u with waiters := rest }).meets P := L.pop h e room
  cases w with
  | beat =>
    simp only [State.serveOne, State.serveBeat]
    split
    · next held =>
      refine L.dataBeat (s := State.modPort _ _) ?_ ..
      refine L.port (L.popBeat h e room) ?_ ?_ ?_ ?_ <;> simp [ImagePort.passBeat] <;> split <;> rfl
    · exact popped
  | level c fromFetch owned =>
    simp only [State.serveOne]
    split
    · split
      · next c => exact L.converted popped c
      · exact popped
    · exact popped
  | threshold i on owned =>
    simp only [State.serveOne]
    split
    · next c => exact L.converted popped c
    · exact popped

theorem serveWaiters (n : Nat) : (s.serveWaiters n).meets P := by
  induction n generalizing s with
  | zero => exact h
  | succ n ih =>
    unfold State.serveWaiters
    split
    · exact h
    · next e =>
      split
      · next room => exact ih (L.serveHead h e room)
      · exact h

theorem serveSlots : s.serveSlots.meets P := L.serveWaiters h _

theorem taperCheck : s.taperCheck.meets P := by
  unfold State.taperCheck
  split
  · split
    · exact h
    · exact L.writeResult (h.modCtl _) ..
  · exact h

end QueueLaw

end Sys2Proof.Machine
end

section
namespace Sys2Proof.Machine

open Sys2Proof

variable {P : ImagePort → TaperUnit → Prop} {s t : State}

/-! ## Works on strips that leave the queues alone -/

namespace State.meets

variable (h : s.meets P)
include h

theorem modStrip (i : StripId) (f : Strip → Strip) : (s.modStrip i f).meets P := h

theorem modDrive (f : DriveSup → DriveSup) : (s.modDrive f).meets P := h

theorem modMeter (f : MeterEngine → MeterEngine) : (s.modMeter f).meets P := h

theorem setChan (c : ChanId) (k : ChanRec) : (s.setChan c k).meets P := h

theorem setRail (g : GroupId) (r : Rail) : (s.setRail g r).meets P := h

theorem reach (n : Nat) : (s.reach n).meets P := h

theorem setLayers (l : LayerCtl) : State.meets { s with layers := l } P := h

theorem enter (i : StripId) (d : Motion) : (s.enter i d).meets P := h.frame

theorem joinStart (i : StripId) (u : Purpose) : (s.joinStart i u).meets P := h.frame

theorem recalAtRest (i : StripId) : (s.recalAtRest i).meets P := h.frame

theorem actOnRecal (i : StripId) : (s.actOnRecal i).meets P := h.frame

theorem setRecal (i : StripId) : (s.setRecal i).meets P := h.frame

theorem rest (i : StripId) : (s.rest i).meets P := h.frame

theorem queueMove (i : StripId) : (s.queueMove i).meets P := h.frame

theorem arrive (i : StripId) (code : Code) (travel : Nat) (c : ChanId) : (s.arrive i code travel c).meets P := h.frame

theorem hold (i : StripId) : (s.hold i).meets P := h.frame

theorem countError (i : StripId) : (s.countError i).meets P := by
  unfold State.countError
  dsimp only
  split
  · exact (h.modStrip i _).setRecal i
  · exact h

theorem trackTest (i : StripId) : (s.trackTest i).meets P := by
  unfold State.trackTest
  dsimp only
  split
  · exact (h.modStrip i _).countError i
  · exact h

theorem profileStep (i : StripId) : (s.profileStep i).meets P := by
  unfold State.profileStep
  dsimp only
  repeat' split
  all_goals exact h.frame

theorem moveSample (i : StripId) : (s.moveSample i).meets P :=
  ((h.profileStep i).modStrip i _).trackTest i

theorem settleDrive (i : StripId) : (s.settleDrive i).meets P := by
  unfold State.settleDrive
  split <;> exact h

theorem takeTouch (i : StripId) : (s.takeTouch i).meets P := by
  unfold State.takeTouch
  dsimp only
  split <;> exact h.frame

theorem enterAtHand (i : StripId) : (s.enterAtHand i).meets P := by
  unfold State.enterAtHand
  split <;> exact h.frame

theorem toWrite (i : StripId) : (s.toWrite i).meets P := by
  unfold State.toWrite
  split
  case h_6 => exact h.enterAtHand i
  all_goals exact h.frame

theorem clearFaultOf (i : StripId) : (s.clearFaultOf i).meets P := by
  have t : (s.modStrip i fun p => { p with attempts := 0 }).meets P := h.modStrip i _
  unfold State.clearFaultOf
  split
  · exact h
  · extract_lets t' p u w q
    have hu : u.meets P := by
      simp only [u]
      split
      · exact t.enter ..
      · split
        · exact (t.enter ..).takeTouch i
        · exact t.enter ..
    have hw : w.meets P := by
      simp only [w]
      split
      · exact hu
      · exact hu.modStrip ..
    split
    · split
      · exact hw.joinStart ..
      · split
        · split
          · exact hw
          · exact hw.joinStart ..
        · exact hw
    · exact hw

theorem comeDue (i : StripId) : (s.comeDue i).meets P := by
  have st : (s.startSamples i).meets P := by
    unfold State.startSamples
    split
    · exact h
    · exact h.forStrips (fun j _ ht => ht.modStrip j _) allStrips
  exact st

theorem armOnWake (i : StripId) : (s.armOnWake i).meets P := by
  unfold State.armOnWake
  dsimp only
  repeat' split
  all_goals exact h.frame

theorem grantEntry (n : Nat) (e : StartEntry) : (s.grantEntry n e).meets P := by
  unfold State.grantEntry
  dsimp only
  split
  · exact (((h.reach _).modDrive _).enter ..).modStrip ..
  · exact (((h.reach _).modDrive _).enter ..).modStrip ..

theorem grantOldest : s.grantOldest.meets P := by
  unfold State.grantOldest
  split
  · exact h
  · split
    · exact h.grantEntry ..
    · exact h

theorem endWake (g : GroupId) (n : Nat) : (s.endWake g n).meets P := by
  exact ((h.reach n).setRail g _).forStrips (fun i _ hv => hv.armOnWake i) _

theorem idleOff (g : GroupId) : (s.idleOff g).meets P := by
  unfold State.idleOff
  repeat' split
  all_goals exact h

theorem finishShift : s.finishShift.meets P := by
  unfold State.finishShift
  split <;> exact h

theorem startDebounce (i : StripId) (b : Bool) : (s.startDebounce i b).meets P := h

theorem touchInput (i : StripId) (b : Bool) : (s.touchInput i b).meets P := by
  unfold State.touchInput State.rawChange
  repeat' split
  all_goals exact h

theorem classify (n : LayerId) (i : StripId) : (s.classify n i).meets P := by
  unfold State.classify
  dsimp only
  repeat' split
  all_goals exact h

theorem openSlice (n m : Nat) : State.meets { s.reach n with sliceDue := m } P := h

theorem pressAtRelease (i : StripId) : (s.pressAtRelease i).meets P := by
  unfold State.pressAtRelease
  split <;> exact h

theorem riseReset : s.riseReset.meets P := by
  have started : ((State.modMeter { s with inReset := false, sliceDue := s.clock + 125 * Config.ms }
      fun e => { e with frameDue := s.clock + s.param .framePeriod * Config.ms }).modCtl
      fun c => { c with nextTick := s.clock + 1 * Config.ms }).meets P := h
  exact started.forStrips (fun i _ ht => ht.pressAtRelease i) allStrips

theorem adoptedRelease (i : StripId) : (s.adoptedRelease i).meets P := by
  unfold State.adoptedRelease
  dsimp only
  split
  · exact h.modStrip ..
  · split
    · exact h.enter ..
    · exact (h.enter ..).modStrip ..

theorem releaseRecal (i : StripId) : (s.releaseRecal i).meets P := by
  unfold State.releaseRecal
  split
  · exact h.actOnRecal i
  · exact h

end State.meets

namespace QueueLaw

variable (L : QueueLaw P) (h : s.meets P)
include L h

/-! ## Layers and fader start -/

theorem setLine (i : StripId) (on : Bool) : (s.setLine i on).meets P := by
  unfold State.setLine
  split
  · exact h
  · exact L.stripEvent (h.modStrip i _) ..

theorem forceLine (i : StripId) : (s.forceLine i).meets P := by
  unfold State.forceLine
  split
  · exact L.setLine h ..
  · exact h

theorem evalLine (i : StripId) : (s.evalLine i).meets P := L.setLine h ..

theorem takeChannel (i : StripId) (x : Option ChanId) : (s.takeChannel i x).meets P := by
  unfold State.takeChannel
  dsimp only
  split
  · exact (h.modStrip ..).hold i
  · split
    · exact L.convertChannel (h.modStrip ..) ..
    · split
      · exact (L.requestFetch (h.modStrip ..) _).hold i
      · exact L.unmapped (h.modStrip ..) ..

theorem adopt (i : StripId) (x : Option ChanId) : (s.adopt i x).meets P := by
  unfold State.adopt
  split
  · split
    · exact (L.takeChannel h i none).modStrip i _
    · exact L.takeChannel h ..
  · exact L.takeChannel h ..

theorem layerApplied (i : StripId) : (s.layerApplied i).meets P := L.stripEvent h ..

theorem releaseConflict (x : ChanId) : (s.releaseConflict x).meets P := by
  unfold State.releaseConflict
  split
  · exact h
  · next k _ =>
    split
    · exact h
    · exact L.layerApplied (L.adopt (h.modStrip k _) ..) _

theorem giveUp (i : StripId) (old : Option ChanId) : (s.giveUp i old).meets P := by
  unfold State.giveUp
  split
  · split
    · exact h
    · exact L.releaseConflict h _
  · exact h

theorem adoptPending (i : StripId) (x : Option ChanId) : (s.adoptPending i x).meets P :=
  L.giveUp (L.layerApplied (L.adopt h i x) i) ..

theorem deferredAdoption (i : StripId) : (s.deferredAdoption i).meets P := by
  unfold State.deferredAdoption
  split
  · split
    · exact h
    · exact L.adoptPending h ..
  · exact h

theorem takeEntry (n : LayerId) (keeping : List StripId) (i : StripId) : (s.takeEntry n keeping i).meets P := by
  unfold State.takeEntry
  split
  · exact L.takeChannel h ..
  · split
    · exact (L.takeChannel h i none).modStrip i _
    · exact L.takeChannel h ..

theorem chooseLayer (tag : BitVec 8) (n : LayerId) : (s.chooseLayer tag n).meets P := by
  have classified := (h.setLayers { s.layers with active := n }).forStrips (fun i _ ht => ht.classify n i) allStrips
  exact L.writeResult (L.createEvent (classified.forStrips (fun i _ ht => L.takeEntry ht n _ i) _) ..) ..

theorem selectLayer (tag : BitVec 8) (arg : BitVec 16) : (s.selectLayer tag arg).meets P := by
  unfold State.selectLayer
  split
  · exact L.writeResult h ..
  · exact L.chooseLayer h ..

theorem loadLayerMap (tag : BitVec 8) (arg : BitVec 16) : (s.loadLayerMap tag arg).meets P := by
  unfold State.loadLayerMap
  split
  · exact L.writeResult h ..
  · split
    · exact L.writeResult h ..
    · dsimp only
      split
      · exact L.chooseLayer (h.setLayers _) ..
      · exact L.writeResult (h.setLayers _) ..

theorem isolateOn (tag : BitVec 8) (arg : BitVec 16) : (s.isolateOn tag arg).meets P := by
  unfold State.isolateOn
  split
  · exact L.writeResult h ..
  · dsimp only
    split
    · exact L.writeResult h ..
    · exact L.writeResult (h.modStrip ..) ..

theorem rejoin (i : StripId) : (s.rejoin i).meets P := by
  unfold State.rejoin
  dsimp only
  split
  · exact L.adopt (h.modStrip i _) ..
  · split
    · exact h
    · exact L.giveUp (L.adopt (h.modStrip i _) ..) ..

theorem isolateOff (tag : BitVec 8) (arg : BitVec 16) : (s.isolateOff tag arg).meets P := by
  unfold State.isolateOff
  split
  · exact L.writeResult h ..
  · dsimp only
    split
    · exact L.writeResult (L.rejoin h _) ..
    · exact L.writeResult h ..

theorem isolate (tag : BitVec 8) (arg : BitVec 16) : (s.isolate tag arg).meets P := by
  unfold State.isolate
  split
  · exact L.isolateOn h ..
  · exact L.isolateOff h ..

theorem convertIfChanged (i : StripId) (on : Bool) (old : Code) : (s.convertIfChanged i on old).meets P := by
  unfold State.convertIfChanged
  split
  · exact h
  · exact L.convertThreshold h ..

theorem writeCodes (i : StripId) (w : Word) : (s.writeCodes i w).meets P :=
  L.forceLine (L.convertIfChanged (L.convertIfChanged (h.modStrip i _) ..) ..) _

theorem writeSettings (i : StripId) (second : Bool) (w : Word) : (s.writeSettings i second w).meets P := by
  unfold State.writeSettings
  split
  · exact L.forceLine (h.modStrip i _) _
  · exact L.writeCodes h ..

/-! ## Delivery -/

theorem deliver (table : Taper) (w : ConvWork) : (s.deliver table w).meets P := by
  cases w with
  | levelToTravel c code seq =>
    simp only [State.deliver, State.deliverTravel]
    repeat' split
    all_goals exact h.frame
  | travelToLevel i travel c =>
    simp only [State.deliver, State.deliverLevel]
    split
    · split
      · exact L.writeBack (h.modStrip i _) ..
      · exact h
    · exact h
  | threshold i on code => exact L.forceLine (h.modStrip i _) _

/-! ## Samples and calibration -/

theorem runSucceeds (i : StripId) (low high : Nat) : (s.runSucceeds i low high).meets P :=
  ((L.stripEvent (h.modStrip ..) ..).modStrip ..).enter ..

theorem runFails (i : StripId) : (s.runFails i).meets P := by
  unfold State.runFails
  dsimp only
  split
  · exact (h.modStrip ..).modStrip ..
  · exact L.setFault (L.stripEvent (((h.modStrip ..).enter ..).modStrip ..) ..)

theorem calSample (i : StripId) (raw : Nat) : (s.calSample i raw).meets P := by
  unfold State.calSample State.phaseEnds
  split
  · exact h
  · split
    · split
      · exact h
      · split
        · exact L.runSucceeds h ..
        · exact L.runFails h _
    · split
      · exact L.runFails h _
      · exact h

theorem stall (i : StripId) : (s.stall i).meets P :=
  L.setFault (L.stripEvent ((h.enter ..).countError i) ..)

theorem settleSample (i : StripId) : (s.settleSample i).meets P := by
  have tracked := (h.settleDrive i).trackTest i
  unfold State.settleSample
  dsimp only
  split
  · exact tracked.frame
  · split
    · exact L.stall tracked i
    · exact tracked

theorem sampleWork (i : StripId) (raw : Nat) : (s.sampleWork i raw).meets P := by
  unfold State.sampleWork
  split
  · exact h.moveSample i
  · exact L.settleSample h i
  · exact L.calSample h i raw
  all_goals exact h

theorem sample (i : StripId) : (s.sample i).meets P :=
  L.deferredAdoption (L.evalLine (L.sampleWork ((h.comeDue i).modStrip i _) i _) i) i

end QueueLaw
end Sys2Proof.Machine
end

section
namespace Sys2Proof.Machine

open Sys2Proof

variable {P : ImagePort → TaperUnit → Prop} {s t : State}

namespace QueueLaw

variable (L : QueueLaw P) (h : s.meets P)
include L h

/-! ## Touch, release and readback -/

theorem releaseRestore (i : StripId) : (s.releaseRestore i).meets P := by
  unfold State.releaseRestore
  split
  · split
    · exact L.writeBack h ..
    · exact h
  · exact h

theorem returnToChannel (i : StripId) : (s.returnToChannel i).meets P := by
  unfold State.returnToChannel
  split
  · exact h.modStrip ..
  · split
    · split
      · exact h.modStrip ..
      · exact (h.modStrip i fun p => { p with speed := .ret }).queueMove i
    · exact L.convertChannel (h.modStrip ..) ..

theorem stalledRelease (i : StripId) : (s.stalledRelease i).meets P := by
  have restored := L.releaseRestore h i
  unfold State.stalledRelease
  dsimp only
  split
  · split
    · split
      · exact restored
      · exact L.convertChannel restored ..
    · exact restored
  · exact h

theorem ordinaryRelease (i : StripId) : (s.ordinaryRelease i).meets P := by
  have idle := h.enter i .idle
  unfold State.ordinaryRelease
  dsimp only
  split
  · exact L.stalledRelease h i
  · split
    · exact h
    · exact idle
    · exact L.returnToChannel idle i
    · exact L.returnToChannel (L.releaseRestore idle i) i
    · split
      · exact h.enter ..
      · exact L.returnToChannel (L.releaseRestore idle i) i

theorem takeRelease (i : StripId) : (s.takeRelease i).meets P := by
  unfold State.takeRelease
  dsimp only
  split
  · split
    · exact (L.ordinaryRelease h i).releaseRecal i
    · exact ((L.adoptPending h i _).adoptedRelease i).releaseRecal i
  · exact (L.ordinaryRelease h i).releaseRecal i

theorem debounced (i : StripId) (d : Debounce) : (s.debounced i d).meets P := by
  unfold State.debounced
  dsimp only
  split
  · exact L.stripEvent (((h.reach _).modStrip ..).takeTouch i) ..
  · exact L.stripEvent (L.takeRelease ((h.reach _).modStrip ..) i) ..

theorem readback (i : StripId) (c : ChanId) : (s.readback i c).meets P := by
  unfold State.readback
  dsimp only
  split
  · exact L.writeBack (h.modStrip ..) ..
  · split
    · next e => exact L.converted h e
    · exact h

theorem readbackExpires (i : StripId) : (s.readbackExpires i).meets P := by
  unfold State.readbackExpires
  dsimp only
  split
  · exact h
  · split
    · split
      · exact L.readback ((h.reach _).modStrip ..) ..
      · exact (h.reach _).modStrip ..
    · exact (h.reach _).modStrip ..

/-! ## Modes -/

theorem toMotorised (i : StripId) : (s.toMotorised i).meets P := by
  have t := (h.enterAtHand i).modStrip i fun p => { p with speed := .normal }
  unfold State.toMotorised
  dsimp only
  split
  · exact L.convertShown (t.recalAtRest i) ..
  · exact L.convertShown ((t.modStrip ..).recalAtRest i) ..

theorem leaveLatched (i : StripId) : (s.leaveLatched i).meets P :=
  L.convertShown (((h.modStrip ..).modStrip ..).rest i) ..

theorem betweenMotorised (i : StripId) (was : Strip) : (s.betweenMotorised i was).meets P := by
  unfold State.betweenMotorised
  split
  · exact L.leaveLatched h i
  · exact h

theorem setModeOf (mode : Mode) (i : StripId) : (s.setModeOf mode i).meets P := by
  have t := h.modStrip i fun p => p.takeMode mode
  have motorised : ∀ was : Strip, State.meets
      (if was.mode.motorised then (s.modStrip i fun p => p.takeMode mode).betweenMotorised i was
        else (s.modStrip i fun p => p.takeMode mode).toMotorised i) P := by
    intro was
    split
    · exact L.betweenMotorised t i was
    · exact L.toMotorised t i
  unfold State.setModeOf
  dsimp only
  split
  · exact h
  · refine L.forceLine ?_ i
    split
    · exact t
    · split
      · exact t.enter ..
      · exact t.toWrite i
      all_goals exact motorised _

theorem unlatchOf (i : StripId) : (s.unlatchOf i).meets P := by
  unfold State.unlatchOf
  split
  · exact L.leaveLatched h i
  · exact h.modStrip ..

theorem setMode (tag : BitVec 8) (arg : BitVec 16) : (s.setMode tag arg).meets P := by
  unfold State.setMode
  split
  · exact L.writeResult (h.forStrips (fun i _ ht => L.setModeOf ht _ i) _) ..
  · exact L.writeResult h ..

/-! ## Commands over named strips -/

theorem forNamed (tag : BitVec 8) (arg : BitVec 16) (f : List StripId → State) (hf : ∀ l, (f l).meets P) :
    (s.forNamed tag arg f).meets P := by
  unfold State.forNamed
  split
  · exact L.writeResult h ..
  · exact hf _

theorem unlatch (tag : BitVec 8) (arg : BitVec 16) : (s.unlatch tag arg).meets P :=
  L.forNamed h tag arg _ fun l => L.writeResult (h.forStrips (fun i _ ht => L.unlatchOf ht i) l) ..

theorem clearFault (tag : BitVec 8) (arg : BitVec 16) : (s.clearFault tag arg).meets P :=
  L.forNamed h tag arg _ fun l => L.writeResult (h.forStrips (fun i _ ht => ht.clearFaultOf i) l) ..

theorem clearErrors (tag : BitVec 8) (arg : BitVec 16) : (s.clearErrors tag arg).meets P :=
  L.forNamed h tag arg _ fun l => by
    have cleared := h.forStrips (fun i _ ht => ht.modStrip i Strip.clearErrors) l
    dsimp only
    split
    · exact L.writeResult (L.requestStatus (cleared.modCtl _) _) ..
    · exact L.writeResult cleared ..

theorem recalibrate (tag : BitVec 8) (arg : BitVec 16) : (s.recalibrate tag arg).meets P :=
  L.forNamed h tag arg _ fun l => L.writeResult (h.forStrips (fun i _ ht => ht.setRecal i) l) ..

/-! ## Loads -/

theorem applyWindows (ws : Vector Window 16) : (s.applyWindows ws).meets P := by
  unfold State.applyWindows
  dsimp only
  refine L.keepEntries ?_ _
  exact L.dropWaiters h _

theorem examineStrip (old : Vector Window 16) (i : StripId) : (s.examineStrip old i).meets P := by
  unfold State.examineStrip
  split
  · exact h
  · split
    · split
      · exact L.requestFetch h _
      · exact h
    · exact L.unmapped h ..

theorem loadWindows (tag : BitVec 8) : (s.loadWindows tag).meets P := by
  unfold State.loadWindows
  split
  · exact L.writeResult h ..
  · exact L.writeResult ((L.applyWindows h _).forStrips (fun i _ ht => L.examineStrip ht _ i) _) ..

theorem reseat (i : StripId) : (s.reseat i).meets P :=
  L.convertThreshold (L.convertThreshold (L.convertShown h i _) ..) ..

theorem loadTaper (tag : BitVec 8) : (s.loadTaper tag).meets P := by
  unfold State.loadTaper
  split
  · exact L.writeResult h ..
  · have tabled : (s.modTaper fun u => { u with active := u.stagedTable }).meets P := L.tables h rfl rfl rfl
    exact (tabled.forStrips (fun i _ ht => L.reseat ht i) _).modCtl _

theorem loadMeterSetup (tag : BitVec 8) : (s.loadMeterSetup tag).meets P := by
  unfold State.loadMeterSetup
  split
  · exact L.writeResult h ..
  · exact L.writeResult (h.modMeter _) ..

/-! ## SURFACE_RESET -/

theorem resetTaper : s.resetTaper.meets P := by
  have refill : ∀ (l : List (StripId × Bool)) (t : State), t.meets P →
      State.meets (l.foldl (fun t k => t.convertThreshold k.1 k.2 false) t) P := by
    intro l
    induction l with
    | nil => exact fun t ht => ht
    | cons k l ih => exact fun t ht => ih _ (L.convertThreshold ht ..)
  exact refill _ _ (L.clear h)

theorem resetChannels : s.resetChannels.meets P := by
  unfold State.resetChannels
  dsimp only
  refine L.keepEntries ?_ _
  exact L.port h rfl rfl rfl rfl

theorem parkStrip (i : StripId) : (s.parkStrip i).meets P := L.forceLine ((h.enter ..).modStrip ..) i

theorem refetch (i : StripId) : (s.refetch i).meets P := by
  unfold State.refetch
  split
  · exact L.requestFetch h _
  · exact h

theorem surfaceReset (tag : BitVec 8) : (s.surfaceReset tag).meets P := by
  have emptied := (L.resetTaper (L.resetChannels h)).modMeter MeterEngine.surfaceReset
  have parked := (emptied.forStrips (fun i _ ht => L.parkStrip ht i) allStrips).modDrive fun d => { d with queue := [] }
  exact L.writeResult (parked.forStrips (fun i _ ht => L.refetch ht i) allStrips) ..

/-! ## The control area -/

theorem reconfigureRing (f : Control → Control) : (s.reconfigureRing f).meets P := by
  have emptied := L.requestStatus (L.keepEntries (h.modCtl fun c => { f c with producer := 0, consumer := 0 })
    fun e => !e.isEvent) .producer
  unfold State.reconfigureRing
  dsimp only
  split
  · exact L.requestStatus emptied _
  · exact emptied

theorem setConsumer (w : Word) : (s.setConsumer w).meets P := by
  unfold State.setConsumer
  split
  · exact L.modCauses h _
  · exact h

theorem queryStrip (tag : BitVec 8) (arg : BitVec 16) : (s.queryStrip tag arg).meets P := by
  unfold State.queryStrip
  split
  · exact L.writeResult h ..
  · split <;> exact L.writeResult h ..

theorem runCommand (code tag : BitVec 8) (arg : BitVec 16) : (s.runCommand code tag arg).meets P := by
  unfold State.runCommand
  split
  · exact L.selectLayer h ..
  · exact L.setMode h ..
  · exact L.unlatch h ..
  · exact L.isolate h ..
  · exact L.recalibrate h ..
  · exact L.clearFault h ..
  · exact L.clearErrors h ..
  · exact L.loadWindows h _
  · exact L.loadLayerMap h ..
  · exact L.loadTaper h _
  · exact L.loadMeterSetup h _
  · exact L.queryStrip h ..
  · exact L.syncCheck (h.modCtl _)
  · exact L.surfaceReset h _
  · exact L.writeResult h ..

theorem takeCommand (code tag : BitVec 8) (arg : BitVec 16) : (s.takeCommand code tag arg).meets P := by
  unfold State.takeCommand
  split
  · exact L.writeResult h ..
  · exact L.runCommand h ..

theorem stage (o : Nat) (w : Word) : (s.stage o w).meets P := by
  unfold State.stage
  repeat' split
  case isTrue => exact h
  case isTrue => exact h
  case isTrue => exact L.tables h rfl rfl rfl
  all_goals exact h

theorem controlWrite (o : Nat) (w : Word) : (s.controlWrite o w).meets P := by
  unfold State.controlWrite
  repeat' split
  · exact L.takeCommand h ..
  · exact L.modCauses h _
  · exact h.modCtl _
  · exact L.reconfigureRing h _
  · exact L.reconfigureRing h _
  · exact L.setConsumer h _
  · exact h.modCtl _
  · exact L.writeSettings h ..
  · exact L.stage h ..

end QueueLaw
end Sys2Proof.Machine
end

section
namespace Sys2Proof.Machine

open Sys2Proof

variable {P : ImagePort → TaperUnit → Prop} {s t : State}

/-- Every command but the three of the reset line and the touch input is a step of the running part (R3, R87, R103). -/
theorem exec_eq_live (c : Instr) (hp : c ≠ .powerOnReset) (hr : c ≠ .poresetRelease)
    (ht : ∀ i b, c ≠ .touchInputChange i b) : ∃ f : State → State, ∀ s, exec c s = live f s := by
  cases c
  case powerOnReset => exact absurd rfl hp
  case poresetRelease => exact absurd rfl hr
  case touchInputChange i b => exact absurd rfl (ht i b)
  all_goals exact ⟨_, fun _ => rfl⟩

namespace QueueLaw

variable (L : QueueLaw P) (h : s.meets P)
include L h

/-- A change of the image port that leaves its queue, its guard count and its held beat alone. -/
theorem modPort (f : ImagePort → ImagePort) (hq : (f s.port).queue = s.port.queue)
    (hn : (f s.port).nextStamp = s.port.nextStamp) (hg : (f s.port).guardCount = s.port.guardCount)
    (hh : (f s.port).heldBeat = s.port.heldBeat) : (s.modPort f).meets P := L.port h hq hn hg hh

/-! ## The image port's commands -/

theorem reportParity (addr : BitVec 24) : (s.reportParity addr).meets P := by
  have e := L.createEvent h .parityError (addr.extractLsb' 16 8) (addr.extractLsb' 0 16)
  rw [State.reportParity_eq]
  split
  · exact L.modCauses (L.requestStatus (e.modCtl _) _) _
  · exact L.modCauses e _

theorem arriveRequest (kind : ReqKind) (addr : BitVec 24) (len : BitVec 2) (par : Bool) :
    (s.arriveRequest kind addr len par).meets P := by
  unfold State.arriveRequest
  split
  · exact h
  · split
    · exact L.modPort h _ rfl rfl rfl rfl
    · exact L.reportParity (L.modPort (L.modPort h _ rfl rfl rfl rfl) _ rfl rfl rfl rfl) _

theorem endAlert : s.endAlert.meets P := by
  unfold State.endAlert
  split
  · exact L.modPort (h.reach _) _ rfl rfl rfl rfl
  · exact h

theorem grantPassing : s.grantPassing.meets P := by
  unfold State.grantPassing
  split
  · split
    · next g => exact L.grant h g _
    · exact h
  · exact h

theorem issueHead : s.issueHead.meets P := by
  unfold State.issueHead
  split
  · next e =>
    split
    · exact L.syncCheck (s := s.modPort _) (L.issue h e)
    · exact h
  · exact h

theorem passBeat (free : s.port.heldBeat = none) (q : PortRequest) (data : Word) (e : Enables) :
    (s.modPort fun p => p.passBeat q data e).meets P := by
  have none : (s.port.passBeat q data e).heldBeat = s.port.heldBeat := by
    rw [free]
    unfold ImagePort.passBeat
    split <;> rfl
  refine L.modPort h _ ?_ ?_ ?_ none <;> unfold ImagePort.passBeat <;> split <;> rfl

theorem acceptBeat (free : s.port.heldBeat = none) (q : PortRequest) (data : Word) (e : Enables) :
    (s.acceptBeat q data e).meets P := by
  have passed := L.dataBeat (L.passBeat h free q data e) q.beatAddr data e
  unfold State.acceptBeat
  dsimp only
  split
  · split
    · exact L.controlWrite passed ..
    · exact passed
  all_goals exact passed

theorem presentBeat (data : Word) (e : Enables) : (s.presentBeat data e).meets P := by
  unfold State.presentBeat
  split
  · next q hq =>
    have free : s.port.heldBeat = none := by
      unfold ImagePort.openWrite at hq
      split at hq
      · split at hq
        · next c => simp_all
        · cases hq
      · cases hq
    split
    · next held =>
      have full : 16 ≤ s.taper.queue.length := by
        unfold State.mustHold at held
        split at held
        · split at held
          · simp only [State.canConvert, Bool.and_eq_true, Bool.not_eq_true', Bool.or_eq_false_iff,
              decide_eq_false_iff_not, not_lt] at held
            exact held.2.1.2
          · cases held
        · cases held
      exact L.hold h free full _
    · exact L.acceptBeat h free ..
  · exact h

theorem readReturns (data : Word) (st : RespStatus) : (s.readReturns data st).meets P := by
  unfold State.readReturns
  split
  · split
    · exact h
    · refine L.modPort h _ ?_ ?_ ?_ ?_ <;> unfold ImagePort.returnBeat <;> dsimp only <;> split <;> rfl
  · exact h

theorem writeAnswered (st : RespStatus) : (s.writeAnswered st).meets P := by
  unfold State.writeAnswered
  split
  · exact L.modPort h _ rfl rfl rfl rfl
  · exact h

theorem positionAnswered (st : RespStatus) : (s.positionAnswered st).meets P := by
  have dropped := L.modPort h ImagePort.dropMember rfl rfl rfl rfl
  unfold State.positionAnswered
  split
  · dsimp only
    split
    · unfold State.positionLands
      split
      · exact dropped.setChan ..
      · exact dropped
    · exact L.createEvent dropped ..
  · exact h

theorem applyFetch (c : ChanId) (seq : BitVec 8) (code : Code) : (s.applyFetch c seq code).meets P := by
  unfold State.applyFetch
  split
  · dsimp only
    split
    · exact L.convertOrWait (h.setChan ..) _ _ rfl
    · exact h.setChan ..
  · exact h

theorem fetchAnswered (data : Word) (st : RespStatus) : (s.fetchAnswered data st).meets P := by
  have dropped := L.modPort h (fun p => { p.dropMember with holder := .nobody }) rfl rfl rfl rfl
  unfold State.fetchAnswered
  split
  · dsimp only
    split
    · split
      · exact L.applyFetch dropped ..
      · exact dropped
    · exact L.fetchFailed dropped ..
  · exact h

theorem statusAnswered : s.statusAnswered.meets P := by
  unfold State.statusAnswered
  split
  · exact L.modPort h _ rfl rfl rfl rfl
  · exact L.modPort h _ rfl rfl rfl rfl
  · exact h

theorem dropBeat : (s.modPort ImagePort.dropBeat).meets P := by
  refine L.modPort h _ ?_ ?_ ?_ ?_ <;>
    unfold ImagePort.dropBeat ImagePort.dropWriteBeat ImagePort.dropReadBeat <;> (repeat' split) <;> rfl

/-! ## Frames -/

theorem frameChannel (k : MeterId) : (s.frameChannel k).meets P := by
  unfold State.frameChannel
  dsimp only
  split
  · exact L.createEvent (h.modMeter _) ..
  · exact h.modMeter _

theorem frame : s.frame.meets P := by
  have process : ∀ (l : List MeterId) (t : State), t.meets P → State.meets (l.foldl State.frameChannel t) P := by
    intro l
    induction l with
    | nil => exact fun t ht => ht
    | cons k l ih => exact fun t ht => ih _ (L.frameChannel ht k)
  have opened : s.openFrame.meets P := (h.finishShift.reach _).modMeter _
  unfold State.frame
  exact (process allMeters _ opened).modMeter _

/-! ## Every command -/

omit h in
/-- A command keeps the property if the completion of a conversion does. -/
theorem exec (finish : ∀ s : State, s.meets P → s.finishConversion.meets P) (c : Instr) (h : s.meets P)
    (e : Machine.exec c s = .next t) : t.meets P := by
  have running : ∀ {f : State → State}, live f s = .next t → (f s).meets P → t.meets P := by
    intro f e hf
    cases e
    split
    · exact h
    · exact hf
  have onlyIf : ∀ (b : Prop) [Decidable b] (v : State), v.meets P → State.meets (if b then v else s) P := by
    intro b _ v hv
    split
    · exact hv
    · exact h
  cases c <;> simp only [Machine.exec] at e
  case powerOnReset => cases e; exact L.reset _
  case poresetRelease =>
    cases e
    split
    · exact h.riseReset
    · exact h
  case surfaceTimeTick => exact running e ((h.reach _).modCtl _)
  case sensorReading i raw => exact running e (h.modStrip ..)
  case pportRequest kind addr len par => exact running e (L.arriveRequest h ..)
  case alertTimeout => exact running e (L.endAlert h)
  case passingGrant => exact running e (L.grantPassing h)
  case injectionIssue => exact running e (L.issueHead h)
  case writeBeatAccept data en => exact running e (L.presentBeat h data en)
  case readBeatReturn data st => exact running e (L.readReturns h data st)
  case memoryWriteResponse st => exact running e (L.writeAnswered h st)
  case positionResponse st => exact running e (L.positionAnswered h st)
  case fetchResponse data st => exact running e (L.fetchAnswered h data st)
  case statusEventResponse st => exact running e (L.statusAnswered h)
  case controlAreaWrite o data => exact running e (L.controlWrite h ..)
  case liveParameterWrite p data => exact running e (h.modCtl _)
  case stripSettingsWrite i second data => exact running e (L.writeSettings h ..)
  case ackWrite data => exact running e (L.modCauses h _)
  case quietWrite data => exact running e (h.modCtl _)
  case ringBaseWrite data => exact running e (L.reconfigureRing h _)
  case ringCapacityWrite data => exact running e (L.reconfigureRing h _)
  case consumerWrite data => exact running e (L.setConsumer h _)
  case unknownCommand code tag arg => exact running e (L.takeCommand h ..)
  case selectLayer tag arg => exact running e (L.takeCommand h ..)
  case setMode tag arg => exact running e (L.takeCommand h ..)
  case unlatch tag arg => exact running e (L.takeCommand h ..)
  case isolateOn tag arg => exact running e (L.takeCommand h ..)
  case isolateOff tag arg => exact running e (L.takeCommand h ..)
  case recalibrate tag arg => exact running e (L.takeCommand h ..)
  case clearFault tag arg => exact running e (L.takeCommand h ..)
  case clearErrors tag arg => exact running e (L.takeCommand h ..)
  case loadWindows tag arg => exact running e (L.takeCommand h ..)
  case loadLayerMap tag arg => exact running e (L.takeCommand h ..)
  case loadTaper tag arg => exact running e (L.takeCommand h ..)
  case loadTaperComplete => exact running e (L.taperCheck h)
  case loadMeterSetup tag arg => exact running e (L.takeCommand h ..)
  case queryStrip tag arg => exact running e (L.takeCommand h ..)
  case sync tag arg => exact running e (L.takeCommand h ..)
  case syncComplete => exact running e (L.syncCheck h)
  case surfaceReset tag arg => exact running e (L.takeCommand h ..)
  case conversionStart => exact running e (L.started h)
  case levelToTravelComplete => exact running e (onlyIf _ _ (finish s h))
  case travelToLevelComplete => exact running e (onlyIf _ _ (finish s h))
  case thresholdComplete => exact running e (onlyIf _ _ (finish s h))
  case slotWaiterServe => exact running e (L.taperCheck (L.serveSlots h))
  case servoSample i => exact running e (onlyIf _ _ (L.sample h i))
  case settled i => exact running e (onlyIf _ _ (L.sample h i))
  case settleTimeout i => exact running e (onlyIf _ _ (L.sample h i))
  case calStopFound i => exact running e (onlyIf _ _ (L.sample h i))
  case calPhaseTimeout i => exact running e (onlyIf _ _ (L.sample h i))
  case touchInputChange i b => cases e; exact h.touchInput i b
  case debounceExpiry i => exact running e (by split; exacts [L.debounced h .., h])
  case readbackExpiry i => exact running e (L.readbackExpires h i)
  case grant => exact running e h.grantOldest
  case railWakeEnd g => exact running e (by split; exacts [h.endWake .., h, h])
  case railIdleOff g => exact running e (h.idleOff g)
  case sliceTimerExpiry =>
    exact running e (State.meets.forStrips (fun i _ ht => ht.modStrip i _) allStrips (h.openSlice ..))
  case frameExpiry => exact running e (L.frame h)
  case peakHoldEnd k => exact running e (onlyIf _ _ (L.frame h))
  case overLatchEnd k => exact running e (onlyIf _ _ (L.frame h))
  case staleEntry k => exact running e (onlyIf _ _ (L.frame h))
  case droppedRequestBeat => exact running e (L.dropBeat h)
  case meterShiftEnd => exact running e h.finishShift

omit h in
/-- A step keeps the property if the completion of a conversion does. -/
theorem step (finish : ∀ s : State, s.meets P → s.finishConversion.meets P) (h : s.meets P)
    (e : Machine.step s = .next t) : t.meets P := by
  unfold Machine.step at e
  split at e
  · cases e; exact h
  · next rest _ => exact L.exec finish _ (s := { s with pending := rest }) h e

end QueueLaw
end Sys2Proof.Machine
end

section
namespace Sys2Proof.Machine

open Sys2Proof

/-! ## The injection queue's limits (R11, R19) -/

theorem InjEntry.isPositionOf_iff {c : ChanId} {e : InjEntry} :
    e.isPositionOf c = true ↔ e.key = some (.position c) := by
  obtain ⟨stamp, addr, body⟩ := e
  cases body <;> simp [InjEntry.isPositionOf, InjEntry.key]

theorem InjEntry.isFetchOf_iff {c : ChanId} {e : InjEntry} : e.isFetchOf c = true ↔ e.key = some (.fetch c) := by
  obtain ⟨stamp, addr, body⟩ := e
  cases body <;> simp [InjEntry.isFetchOf, InjEntry.key]

theorem InjEntry.isStatusOf_iff {w : StatusWord} {e : InjEntry} : e.isStatusOf w = true ↔ e.key = some (.status w) := by
  obtain ⟨stamp, addr, body⟩ := e
  cases body <;> simp [InjEntry.isStatusOf, InjEntry.key]

/-- The limits of the entries alone, without the guard count (R11). -/
def ImagePort.entriesKept (p : ImagePort) : Prop :=
  p.queue.countP InjEntry.isPosition ≤ 32 ∧ p.queue.countP InjEntry.isFetch ≤ 32 ∧
  p.queue.countP InjEntry.isEvent ≤ 12 ∧ (p.queue.filterMap InjEntry.key).Nodup ∧
  p.queue.Pairwise (fun a b => a.stamp < b.stamp) ∧ ∀ e ∈ p.queue, e.stamp < p.nextStamp

theorem ImagePort.limitsKept_iff (p : ImagePort) :
    p.limitsKept ↔ p.entriesKept ∧ p.guardCount ≤ 4 ∧ (p.queue = [] → p.guardCount = 0) := by
  simp only [ImagePort.limitsKept, ImagePort.entriesKept, and_assoc]

section entries

variable {p p' : ImagePort}

/-- Entries that leave, the others keeping their order, break no limit. -/
theorem ImagePort.entriesKept.sublist (h : p.entriesKept) (sub : p'.queue.Sublist p.queue)
    (stamp : p'.nextStamp = p.nextStamp) : p'.entriesKept := by
  obtain ⟨positions, fetches, events, keys, order, stamps⟩ := h
  exact ⟨sub.countP_le.trans positions, sub.countP_le.trans fetches, sub.countP_le.trans events,
    keys.sublist (sub.filterMap _), order.sublist sub, fun e he => stamp ▸ stamps e (sub.subset he)⟩

/-- An entry appended within its kind's limit, under a key that does not stand, breaks no limit. -/
theorem ImagePort.entriesKept.push (h : p.entriesKept) (a : Nat) (body : InjBody)
    (position : (InjEntry.mk p.nextStamp a body).isPosition = true → p.queue.countP InjEntry.isPosition < 32)
    (fetch : (InjEntry.mk p.nextStamp a body).isFetch = true → p.queue.countP InjEntry.isFetch < 32)
    (event : (InjEntry.mk p.nextStamp a body).isEvent = true → p.queue.countP InjEntry.isEvent < 12)
    (key : ∀ k, (InjEntry.mk p.nextStamp a body).key = some k → ∀ e ∈ p.queue, e.key ≠ some k) :
    (p.push a body).entriesKept := by
  obtain ⟨positions, fetches, events, keys, order, stamps⟩ := h
  have count : ∀ (f : InjEntry → Bool) (n : Nat), p.queue.countP f ≤ n →
      (f ⟨p.nextStamp, a, body⟩ = true → p.queue.countP f < n) → (p.push a body).queue.countP f ≤ n := by
    intro f n le lt
    simp only [ImagePort.push, List.countP_append, List.countP_singleton]
    split
    · next hf => exact lt hf
    · exact le
  refine ⟨count _ _ positions position, count _ _ fetches fetch, count _ _ events event, ?_, ?_, ?_⟩
  · simp only [ImagePort.push, List.filterMap_append]
    cases fresh : (InjEntry.mk p.nextStamp a body).key with
    | none => simpa [fresh] using keys
    | some k =>
      simpa [fresh, List.nodup_append] using ⟨keys, fun x e he hk same => key k fresh e he (hk.trans (congrArg some same))⟩
  · simp only [ImagePort.push, List.pairwise_append, List.pairwise_singleton, List.mem_singleton, true_and]
    refine ⟨order, ?_⟩
    rintro e he _ rfl
    exact stamps e he
  · simp only [ImagePort.push, List.mem_append, List.mem_singleton]
    rintro e (he | rfl)
    · exact Nat.lt_succ_of_lt (stamps e he)
    · exact Nat.lt_succ_self _

/-- A POSITION replaced in place keeps its kind, its key and its place (R12). -/
theorem InjEntry.replaceCode_keeps (c : ChanId) (code : Code) (a : Nat) (order : WordOrder) (e : InjEntry) :
    (e.replaceCode c code a order).isPosition = e.isPosition ∧ (e.replaceCode c code a order).isFetch = e.isFetch ∧
    (e.replaceCode c code a order).isEvent = e.isEvent ∧ (e.replaceCode c code a order).key = e.key ∧
    (e.replaceCode c code a order).stamp = e.stamp := by
  unfold InjEntry.replaceCode
  split
  · next is =>
    have key := InjEntry.isPositionOf_iff.mp is
    obtain ⟨stamp, addr, body⟩ := e
    cases body <;> simp_all [InjEntry.key, InjEntry.isPosition, InjEntry.isFetch, InjEntry.isEvent]
  · exact ⟨rfl, rfl, rfl, rfl, rfl⟩

/-- A POSITION replaced in place breaks no limit (R12). -/
theorem ImagePort.entriesKept.recode (h : p.entriesKept) (c : ChanId) (code : Code) (a : Nat) (order : WordOrder) :
    ImagePort.entriesKept { p with queue := p.queue.map (InjEntry.replaceCode c code a order) } := by
  have same := InjEntry.replaceCode_keeps c code a order
  simp only [forall_and] at same
  obtain ⟨position, fetch, event, key, stamp⟩ := same
  have count : ∀ f : InjEntry → Bool, (∀ e, f (e.replaceCode c code a order) = f e) →
      (p.queue.map (InjEntry.replaceCode c code a order)).countP f = p.queue.countP f := by
    intro f hf
    rw [List.countP_map]
    exact List.countP_congr fun e _ => by simp [hf]
  obtain ⟨positions, fetches, events, keys, ordered, stamps⟩ := h
  refine ⟨?_, ?_, ?_, ?_, ?_, ?_⟩
  · rwa [count _ position]
  · rwa [count _ fetch]
  · rwa [count _ event]
  · rw [List.filterMap_map, show InjEntry.key ∘ InjEntry.replaceCode c code a order = InjEntry.key from funext key]
    exact keys
  · exact List.pairwise_map.mpr (ordered.imp fun {x y} lt => by rwa [stamp, stamp])
  · simp only [List.mem_map, forall_exists_index, and_imp, forall_apply_eq_imp_iff₂]
    exact fun e he => stamp e ▸ stamps e he

end entries

/-- The shared operations keep the limits of the injection queue. -/
theorem limitsKept_law : QueueLaw fun p _ => p.limitsKept where
  reset p := by simp [ImagePort.limitsKept, ImagePort.powerOn]
  port := by
    intro p p' u h hq hn hg _
    simpa only [ImagePort.limitsKept, hq, hn, hg] using h
  status := by
    intro p u h w a v
    obtain ⟨entries, guard, -⟩ := p.limitsKept_iff.mp h
    have kept : ImagePort.entriesKept { p with queue := p.queue.filter fun e => !e.isStatusOf w } :=
      entries.sublist List.filter_sublist rfl
    refine (ImagePort.limitsKept_iff _).mpr ⟨kept.push a _ ?_ ?_ ?_ ?_, guard, by simp [ImagePort.push]⟩
    · rintro ⟨⟩
    · rintro ⟨⟩
    · rintro ⟨⟩
    · rintro k ⟨⟩ e he hk
      have gone := (List.mem_filter.mp he).2
      simp [InjEntry.isStatusOf_iff.mpr hk] at gone
  event := by
    intro p u h room a v w
    obtain ⟨entries, guard, -⟩ := p.limitsKept_iff.mp h
    refine (ImagePort.limitsKept_iff _).mpr ⟨entries.push a _ ?_ ?_ (fun _ => room) ?_, guard, by simp [ImagePort.push]⟩
    · rintro ⟨⟩
    · rintro ⟨⟩
    · rintro k ⟨⟩
  position := by
    intro p u c h absent room a code order
    obtain ⟨entries, guard, -⟩ := p.limitsKept_iff.mp h
    refine (ImagePort.limitsKept_iff _).mpr ⟨entries.push a _ (fun _ => room) ?_ ?_ ?_, guard, by simp [ImagePort.push]⟩
    · rintro ⟨⟩
    · rintro ⟨⟩
    · rintro k ⟨⟩ e he hk
      exact List.any_eq_false.mp absent e he (InjEntry.isPositionOf_iff.mpr hk)
  recode := by
    intro p u h c code a order
    obtain ⟨entries, guard, empty⟩ := p.limitsKept_iff.mp h
    exact (ImagePort.limitsKept_iff _).mpr ⟨entries.recode c code a order, guard, fun e => empty (List.map_eq_nil_iff.mp e)⟩
  fetch := by
    intro p u c h absent room a seq order
    obtain ⟨entries, guard, -⟩ := p.limitsKept_iff.mp h
    refine (ImagePort.limitsKept_iff _).mpr ⟨entries.push a _ ?_ (fun _ => room) ?_ ?_, guard, by simp [ImagePort.push]⟩
    · rintro ⟨⟩
    · rintro ⟨⟩
    · rintro k ⟨⟩ e he hk
      exact List.any_eq_false.mp absent e he (InjEntry.isFetchOf_iff.mpr hk)
  keep := by
    intro p u h f
    obtain ⟨entries, guard, empty⟩ := p.limitsKept_iff.mp h
    refine (ImagePort.limitsKept_iff _).mpr ⟨entries.sublist List.filter_sublist rfl, ?_, ?_⟩
    · simp only [ImagePort.keep]
      split
      · exact Nat.zero_le _
      · exact guard
    · intro none
      cases hq : p.queue with
      | nil => simp [ImagePort.keep, hq, empty hq]
      | cons e rest => simp_all [ImagePort.keep]
  grant := by
    intro p u h granted q
    obtain ⟨entries, guard, empty⟩ := p.limitsKept_iff.mp h
    simp only [ImagePort.grantsPassing, Config.guardLimit, Bool.and_eq_true, Bool.or_eq_true, List.isEmpty_iff] at granted
    refine (ImagePort.limitsKept_iff _).mpr ⟨entries, ?_, ?_⟩
    · simp only [ImagePort.grant, List.isEmpty_iff]
      split
      · exact guard
      · next busy => exact of_decide_eq_true (granted.2.resolve_left busy)
    · intro none
      simpa [ImagePort.grant, show p.queue = [] from none] using empty none
  issue := by
    intro p u e rest h head
    obtain ⟨entries, -, -⟩ := p.limitsKept_iff.mp h
    exact (ImagePort.limitsKept_iff _).mpr
      ⟨entries.sublist (by simp [ImagePort.issue, head]) rfl, Nat.zero_le _, fun _ => rfl⟩
  tables h _ _ _ := h
  convert h _ := h
  wait h _ _ := h
  startHead h := h
  dropWaiters h _ := h
  clear h := h
  hold h _ _ _ := h
  pop h _ _ := h
  popBeat h _ _ := h

/-- The completion of a conversion keeps the limits of the injection queue. -/
theorem finishConversion_limitsKept {s : State} (h : s.port.limitsKept) : s.finishConversion.port.limitsKept := by
  have L := limitsKept_law
  unfold State.finishConversion
  split
  · next run q rest _ _ =>
    have popped : ((s.reach run.due).modTaper fun u => { u with running := none, queue := rest }).meets
      fun p _ => p.limitsKept := h
    exact L.taperCheck (L.serveSlots (L.started (L.deliver popped ..)))
  · exact h

end Sys2Proof.Machine
end

section
namespace Sys2Proof.Machine

open Sys2Proof

/-! ## The conversion queue and the wait list (R49, R50, R52, R53) -/

/-- The waiters alone: one for a key, and at most one held beat, one that the P-port holds (R52). -/
def waitersKept (p : ImagePort) (l : List Waiter) : Prop :=
  (l.filterMap Waiter.key).Nodup ∧ l.count .beat ≤ (if p.heldBeat.isSome then 1 else 0)

/-- The limits of the conversion queue and the wait list while waiters are being served: as `State.conversionsSafe`, but a waiter may stand before a slot that
is free (R53). -/
def slotsKept (p : ImagePort) (u : TaperUnit) : Prop :=
  u.queue.length ≤ 16 ∧ (u.unstarted.map fun q => q.work.key).Nodup ∧ (u.queue = [] ↔ u.running = none) ∧
  waitersKept p u.waiters

/-- Waiters stand only before a full queue (R52). -/
def TaperUnit.waitersAtFull (u : TaperUnit) : Prop := u.waiters ≠ [] → u.queue.length = 16

theorem State.conversionsSafe_iff (s : State) :
    s.conversionsSafe ↔ slotsKept s.port s.taper ∧ s.taper.waitersAtFull := by
  constructor
  · rintro ⟨⟨length, keys, waiters, both, full⟩, beats⟩
    exact ⟨⟨length, keys, both, waiters, beats⟩, full⟩
  · rintro ⟨⟨length, keys, both, waiters, beats⟩, full⟩
    exact ⟨⟨length, keys, waiters, both, full⟩, beats⟩

section slots

variable {p p' : ImagePort} {u : TaperUnit}

/-- An idle unit has an empty queue. -/
theorem slotsKept_idle (hq : u.queue = []) (hr : u.running = none) : slotsKept p u ↔ waitersKept p u.waiters :=
  ⟨fun ⟨_, _, _, waiters⟩ => waiters, fun h => ⟨by simp [hq], by simp [TaperUnit.unstarted, hq, hr], by simp [hq, hr], h⟩⟩

/-- A running unit has its started request at the head. -/
theorem slotsKept_busy {run : ConvRun} {q : ConvReq} {rest : List ConvReq} (hq : u.queue = q :: rest)
    (hr : u.running = some run) : slotsKept p u ↔
      rest.length < 16 ∧ (rest.map fun q => q.work.key).Nodup ∧ waitersKept p u.waiters := by
  simp [slotsKept, TaperUnit.unstarted, hq, hr, Order.add_one_le_iff]

/-- A unit within its limits is idle with an empty queue, or runs its head. -/
theorem slotsKept.idle_or_busy (h : slotsKept p u) :
    (u.queue = [] ∧ u.running = none) ∨ ∃ run q rest, u.queue = q :: rest ∧ u.running = some run := by
  obtain ⟨-, -, both, -⟩ := h
  cases hq : u.queue with
  | nil => exact .inl ⟨rfl, both.mp hq⟩
  | cons q rest =>
    cases hr : u.running with
    | none => rw [both.mpr hr] at hq; cases hq
    | some run => exact .inr ⟨run, q, rest, rfl, rfl⟩

/-- The waiters are the only part of the unit that the port's held beat bears on. -/
theorem slotsKept.setWaiters (h : slotsKept p u) {l : List Waiter} (hl : waitersKept p' l) :
    slotsKept p' { u with waiters := l } := by
  obtain ⟨length, keys, both, -⟩ := h
  exact ⟨length, keys, both, hl⟩

theorem slotsKept.waiters (h : slotsKept p u) : waitersKept p u.waiters := by
  obtain ⟨-, -, -, waiters⟩ := h
  exact waiters

/-- Waiters that leave, the others keeping their order, break no limit. -/
theorem waitersKept.sublist {l l' : List Waiter} (h : waitersKept p l) (sub : l'.Sublist l) : waitersKept p l' :=
  ⟨h.1.sublist (sub.filterMap _), (sub.count_le _).trans h.2⟩

end slots

/-- The unit starts nothing when its limits hold: an idle one has no request. -/
theorem startHead_of_slotsKept {s : State} (h : slotsKept s.port s.taper) : s.startHead = s := by
  unfold State.startHead
  obtain ⟨hq, hr⟩ | ⟨run, q, rest, hq, hr⟩ := h.idle_or_busy <;> simp [hq, hr]

/-- What a conversion request can do: take the place of an unstarted request of its key, or join a queue that has a slot (R49). -/
theorem State.convert_cases {s t : State} {q : ConvReq} (e : s.convert q = some t) :
    (s.taper.hasUnstarted q.work.key = true ∧ t.taper =
      { s.taper with queue := s.taper.started ++ s.taper.unstarted.map (ConvReq.coalesce q) }) ∨
    (s.taper.hasUnstarted q.work.key = false ∧ s.taper.queue.length < 16 ∧
      t = (s.modTaper fun u => { u with queue := u.queue ++ [q] }).startHead) := by
  unfold State.convert at e
  split at e
  · next has => cases e; exact .inl ⟨has, rfl⟩
  · next lacks =>
    split at e
    · next room => cases e; exact .inr ⟨by simpa using lacks, room, rfl⟩
    · cases e

/-- A conversion request that cannot be made finds a full queue (R49). -/
theorem State.convert_none {s : State} {q : ConvReq} (e : s.convert q = none) :
    s.taper.hasUnstarted q.work.key = false ∧ 16 ≤ s.taper.queue.length := by
  unfold State.convert at e
  split at e
  · cases e
  · next lacks =>
    split at e
    · cases e
    · next full => exact ⟨by simpa using lacks, by simpa [Config.conversionLimit] using full⟩

/-- The queue is its started request and its unstarted ones (R49). -/
theorem TaperUnit.started_append_unstarted (u : TaperUnit) : u.started ++ u.unstarted = u.queue := by
  unfold TaperUnit.started TaperUnit.unstarted
  split
  · exact List.take_append_drop 1 _
  · rfl

@[simp] theorem State.startHead_taper_waiters (s : State) : s.startHead.taper.waiters = s.taper.waiters := by
  unfold State.startHead
  split <;> rfl

@[simp] theorem State.startHead_taper_queue (s : State) : s.startHead.taper.queue = s.taper.queue := by
  unfold State.startHead
  split <;> rfl

/-- Coalescing keeps every request's key (R49). -/
theorem ConvReq.coalesce_key (new old : ConvReq) : (new.coalesce old).work.key = old.work.key := by
  unfold ConvReq.coalesce
  split
  · next e => exact e.symm
  · rfl

/-- The owner mark is no part of a waiter's key. -/
theorem Waiter.own_key (o : Bool) (w : Waiter) : (w.own o).key = w.key := by
  cases w <;> rfl

theorem Waiter.key_eq_none {w : Waiter} : w.key = none ↔ w = .beat := by
  cases w <;> simp [Waiter.key]

/-- A conversion request that is made keeps the limits. -/
theorem slotsKept.convert {s t : State} {q : ConvReq} (h : slotsKept s.port s.taper) (e : s.convert q = some t) :
    slotsKept s.port t.taper := by
  obtain ⟨has, eq⟩ | ⟨lacks, room, rfl⟩ := State.convert_cases e
  · obtain ⟨hq, hr⟩ | ⟨run, head, rest, hq, hr⟩ := h.idle_or_busy
    · simp [TaperUnit.hasUnstarted, TaperUnit.unstarted, hq, hr] at has
    · obtain ⟨len, keys, waiters⟩ := (slotsKept_busy hq hr).mp h
      rw [eq]
      refine (slotsKept_busy (run := run) (q := head) (rest := rest.map (ConvReq.coalesce q)) ?_ ?_).mpr
        ⟨by simpa using len, ?_, waiters⟩
      · simp [TaperUnit.started, TaperUnit.unstarted, hq, hr]
      · exact hr
      · simpa [Function.comp_def, ConvReq.coalesce_key] using keys
  · obtain ⟨hq, hr⟩ | ⟨run, head, rest, hq, hr⟩ := h.idle_or_busy
    · have waiters := (slotsKept_idle hq hr).mp h
      simpa [State.startHead, State.modTaper, hq, hr, slotsKept, TaperUnit.unstarted] using waiters
    · obtain ⟨len, keys, waiters⟩ := (slotsKept_busy hq hr).mp h
      have still : (s.modTaper fun u => { u with queue := u.queue ++ [q] }).startHead =
          s.modTaper fun u => { u with queue := u.queue ++ [q] } := by
        simp [State.startHead, hr]
      rw [still]
      refine (slotsKept_busy (run := run) (q := head) (rest := rest ++ [q]) ?_ ?_).mpr
        ⟨by simpa [hq] using room, ?_, waiters⟩
      · simp [hq]
      · exact hr
      simp only [TaperUnit.hasUnstarted, TaperUnit.unstarted, hr, hq, List.drop_one, List.tail_cons, List.any_eq_false,
        beq_iff_eq] at lacks
      simpa [List.nodup_append] using ⟨keys, lacks⟩

/-- A waiter of a key keeps the limits of the wait list (R52). -/
theorem waitersKept.wait {s : State} {w : Waiter} {k : ConvKey} (h : waitersKept s.port s.taper.waiters)
    (key : w.key = some k) : waitersKept s.port (s.wait w).taper.waiters := by
  obtain ⟨keys, beats⟩ := h
  simp only [State.wait, key, State.modTaper_taper]
  split
  · have same : ∀ x : Waiter, (if x.key = some k then x.own w.isOwned else x).key = x.key := by
      intro x
      split
      · exact x.own_key _
      · rfl
    have beat : ∀ x : Waiter, (if x.key = some k then x.own w.isOwned else x) = .beat ↔ x = .beat := by
      intro x
      rw [← Waiter.key_eq_none, same, Waiter.key_eq_none]
    refine ⟨?_, ?_⟩
    · rw [List.filterMap_map]
      simpa [Function.comp_def, same] using keys
    · refine le_trans (le_of_eq ?_) beats
      rw [List.count_eq_countP, List.count_eq_countP, List.countP_map]
      exact List.countP_congr fun x _ => by simpa using beat x
  · next lacks =>
    have ne : w ≠ .beat := fun e => by simp [e, Waiter.key] at key
    simp only [TaperUnit.hasWaiter, List.any_eq_true, beq_iff_eq, not_exists, not_and] at lacks
    refine ⟨?_, by simpa [List.count_append, List.count_singleton, ne] using beats⟩
    simpa [List.nodup_append, key] using
      ⟨keys, fun x y hy hx same => lacks y hy (hx.trans (congrArg some same))⟩

/-- What `wait` leaves of the unit. -/
theorem State.wait_taper_eq (s : State) (w : Waiter) :
    (s.wait w).taper = { s.taper with waiters := (s.wait w).taper.waiters } := by
  simp only [State.wait, State.modTaper_taper]
  repeat' split
  all_goals rfl

/-- The shared operations keep the limits of the conversion queue and the wait list. -/
theorem slotsKept_law : QueueLaw slotsKept where
  reset p := by simp [slotsKept, waitersKept, TaperUnit.powerOn, TaperUnit.unstarted]
  port h _ _ _ hh := by simpa only [slotsKept, waitersKept, hh] using h
  status h _ _ _ := h
  event h _ _ _ _ := h
  position h _ _ _ _ _ := h
  recode h _ _ _ _ := h
  fetch h _ _ _ _ _ := h
  keep h _ := h
  grant h _ _ := h
  issue h _ := h
  tables h hq hr hw := by simpa only [slotsKept, TaperUnit.unstarted, hq, hr, hw] using h
  convert h e := h.convert e
  wait {s q w} h _ key := by
    rw [State.wait_taper_eq]
    exact h.setWaiters (h.waiters.wait key)
  startHead h := by rw [startHead_of_slotsKept h]; exact h
  dropWaiters h f := h.setWaiters (h.waiters.sublist List.filter_sublist)
  clear h := (slotsKept_idle rfl rfl).mpr ⟨List.nodup_nil, Nat.zero_le _⟩
  hold := by
    intro p u h free _ b
    obtain ⟨keys, beats⟩ := h.waiters
    refine h.setWaiters ⟨by simpa [List.filterMap_cons, Waiter.key] using keys, ?_⟩
    simpa [List.count_append, free] using beats
  pop := by
    intro p u w rest h head _
    exact h.setWaiters (h.waiters.sublist (by simp [head]))
  popBeat := by
    intro p u rest h head _
    obtain ⟨keys, beats⟩ := h.waiters
    refine h.setWaiters ⟨(head ▸ keys).sublist (by simp [List.filterMap_cons, Waiter.key]), ?_⟩
    have one : rest.count .beat + 1 ≤ 1 := by
      rw [head, List.count_cons_self] at beats
      split at beats <;> omega
    simpa using one

/-- The shared operations keep the waiters at a full queue. -/
theorem conversions_law : QueueLaw fun p u => slotsKept p u ∧ u.waitersAtFull := by
  have L := slotsKept_law
  have noWaiter : ∀ {u : TaperUnit} {w rest}, u.waitersAtFull → u.waiters = w :: rest → u.queue.length < 16 → False := by
    intro u w rest full head room
    have := full (by simp [head])
    omega
  exact {
    reset := fun p => ⟨L.reset p, fun w => absurd rfl w⟩
    port := fun h hq hn hg hh => ⟨L.port h.1 hq hn hg hh, h.2⟩
    status := fun h w a v => ⟨L.status h.1 w a v, h.2⟩
    event := fun h room a v w => ⟨L.event h.1 room a v w, h.2⟩
    position := fun h absent room a code order => ⟨L.position h.1 absent room a code order, h.2⟩
    recode := fun h c code a order => ⟨L.recode h.1 c code a order, h.2⟩
    fetch := fun h absent room a seq order => ⟨L.fetch h.1 absent room a seq order, h.2⟩
    keep := fun h f => ⟨L.keep h.1 f, h.2⟩
    grant := fun h g q => ⟨L.grant h.1 g q, h.2⟩
    issue := fun h head => ⟨L.issue h.1 head, h.2⟩
    tables := fun h hq hr hw => ⟨L.tables h.1 hq hr hw, by simpa only [TaperUnit.waitersAtFull, hq, hw] using h.2⟩
    convert := by
      rintro s t q ⟨h, full⟩ e
      refine ⟨h.convert e, ?_⟩
      obtain ⟨-, eq⟩ | ⟨-, room, rfl⟩ := State.convert_cases e
      · intro waiting
        rw [eq] at waiting ⊢
        have same := congrArg List.length s.taper.started_append_unstarted
        simpa using (by simpa using same : _ = _).trans (full waiting)
      · intro waiting
        have stand : s.taper.waiters ≠ [] := by simpa using waiting
        have := full stand
        omega
    wait := by
      rintro s q w ⟨h, -⟩ e key
      refine ⟨L.wait h e key, fun _ => ?_⟩
      rw [State.wait_taper_eq]
      exact Nat.le_antisymm h.1 (State.convert_none e).2
    startHead := by
      rintro s ⟨h, full⟩
      exact ⟨L.startHead h, by rw [startHead_of_slotsKept h]; exact full⟩
    dropWaiters := fun h f => ⟨L.dropWaiters h.1 f, fun some => h.2 fun none => some (by simp [none])⟩
    clear := fun h => ⟨L.clear h.1, fun w => absurd rfl w⟩
    hold := fun h free full b => ⟨L.hold h.1 free full b, fun _ => Nat.le_antisymm h.1.1 full⟩
    pop := fun h head room => (noWaiter h.2 head room).elim
    popBeat := fun h head room => (noWaiter h.2 head room).elim }

/-! ## The completion of a conversion (R50, R53) -/

/-- Delivering a result makes no conversion request (R54 to R56). -/
@[simp] theorem State.deliver_taper (s : State) (table : Taper) (w : ConvWork) : (s.deliver table w).taper = s.taper := by
  cases w with
  | levelToTravel c code seq =>
    simp only [State.deliver, State.deliverTravel]
    (repeat' split) <;> simp
  | travelToLevel i travel c =>
    simp only [State.deliver, State.deliverLevel]
    (repeat' split) <;> simp
  | threshold i on code => simp [State.deliver, State.deliverThreshold]

/-- Delivering a result leaves the held beat alone. -/
@[simp] theorem State.deliver_port_heldBeat (s : State) (table : Taper) (w : ConvWork) :
    (s.deliver table w).port.heldBeat = s.port.heldBeat := by
  cases w with
  | levelToTravel c code seq =>
    simp only [State.deliver, State.deliverTravel]
    (repeat' split) <;> simp
  | travelToLevel i travel c =>
    simp only [State.deliver, State.deliverLevel]
    (repeat' split) <;> simp
  | threshold i on code => simp [State.deliver, State.deliverThreshold]

/-- The request that completed leaves; the next head is started, and the limits hold, but that a waiter may stand before the free slot (R50). -/
theorem slotsKept.completed {s : State} {p : ImagePort} {u : TaperUnit} {run : ConvRun} {q : ConvReq}
    {rest : List ConvReq} (h : slotsKept p u) (hr : u.running = some run) (hq : u.queue = q :: rest)
    (taper : s.taper = { u with running := none, queue := rest }) (held : s.port.heldBeat = p.heldBeat) :
    slotsKept s.port s.startHead.taper := by
  obtain ⟨len, keys, waiters⟩ := (slotsKept_busy hq hr).mp h
  have same : waitersKept s.port u.waiters := by simpa only [waitersKept, held] using waiters
  cases rest with
  | nil => exact (slotsKept_idle (by simp [taper]) (by simp [State.startHead, taper])).mpr (by simpa [taper] using same)
  | cons next rest =>
    refine (slotsKept_busy (q := next) (rest := rest) (run := ⟨u.active, s.clock + 1 * Config.us⟩) ?_ ?_).mpr
      ⟨?_, (List.nodup_cons.mp keys).2, ?_⟩
    · simp [taper]
    · simp [State.startHead, taper]
    · simp at len
      omega
    · simpa [taper] using same

/-- A conversion request is no waiter. -/
theorem State.convert_waiters {s t : State} {q : ConvReq} (e : s.convert q = some t) :
    t.taper.waiters = s.taper.waiters := by
  obtain ⟨-, eq⟩ | ⟨-, -, rfl⟩ := State.convert_cases e
  · rw [eq]
  · simp

/-- A passing beat joins no waiter (R34, R52). -/
theorem State.dataBeat_waiters (s : State) (addr : Nat) (data : Word) (e : Enables) :
    (s.dataBeat addr data e).taper.waiters = s.taper.waiters := by
  have handed : ∀ (t : State) (c : ChanId) (code : Code), (t.handOff c code).taper.waiters = t.taper.waiters := by
    intro t c code
    unfold State.handOff
    split
    · rfl
    · split
      · rfl
      · split
        · next e => exact State.convert_waiters e
        · rfl
      · split
        · simp
        · rfl
  unfold State.dataBeat State.faderBeat State.captureMeter
  dsimp only
  repeat' split
  all_goals simp [State.portWork, State.writeCode, handed]

/-- Serving a waiter joins no other (R53). -/
theorem State.serveOne_waiters (s : State) (w : Waiter) : (s.serveOne w).taper.waiters = s.taper.waiters := by
  cases w with
  | beat =>
    simp only [State.serveOne, State.serveBeat]
    split
    · rw [State.dataBeat_waiters]; rfl
    · rfl
  | level c fromFetch owned =>
    simp only [State.serveOne]
    split
    · split
      · next e => exact State.convert_waiters e
      · rfl
    · rfl
  | threshold i on owned =>
    simp only [State.serveOne]
    split
    · next e => exact State.convert_waiters e
    · rfl

/-- No waiter is left when serving ends, or the queue is full (R53). -/
theorem State.serveWaiters_atFull (n : Nat) (s : State) (h : slotsKept s.port s.taper)
    (bound : s.taper.waiters.length ≤ n) : (s.serveWaiters n).taper.waitersAtFull := by
  induction n generalizing s with
  | zero =>
    intro waiting
    exact absurd (List.length_eq_zero_iff.mp (Nat.le_zero.mp bound)) waiting
  | succ n ih =>
    unfold State.serveWaiters
    split
    · next none => exact fun waiting => absurd none waiting
    · next w rest head =>
      split
      · next room =>
        refine ih _ (slotsKept_law.serveHead h head room) ?_
        rw [State.serveOne_waiters]
        rw [head] at bound
        exact Nat.le_of_succ_le_succ bound
      · next full => exact fun _ => Nat.le_antisymm h.1 (Nat.not_lt.mp full)

/-- The end of LOAD_TAPER leaves the taper unit alone. -/
@[simp] theorem State.taperCheck_taper (s : State) : s.taperCheck.taper = s.taper := by
  unfold State.taperCheck
  (repeat' split) <;> simp

/-- The completion of a conversion keeps the limits of the conversion queue and the wait list. -/
theorem finishConversion_conversionsSafe {s : State} (h : slotsKept s.port s.taper ∧ s.taper.waitersAtFull) :
    slotsKept s.finishConversion.port s.finishConversion.taper ∧ s.finishConversion.taper.waitersAtFull := by
  have L := slotsKept_law
  unfold State.finishConversion
  split
  · next run q rest hr hq =>
    dsimp only
    have started := h.1.completed (s := State.deliver ((s.reach run.due).modTaper fun u =>
      { u with running := none, queue := rest }) run.table q.work) hr hq (by simp) (by simp)
    rw [← State.startHead_port] at started
    refine ⟨L.taperCheck (L.serveSlots started), ?_⟩
    rw [State.taperCheck_taper]
    exact State.serveWaiters_atFull _ _ started le_rfl
  · exact h

/-- Settles O58: each of the two queues' limits is a property that the shared operations keep, and the completion of a conversion too. -/
theorem queuesKeepTheirLimits : Obligations.QueuesKeepTheirLimits := by
  refine ⟨fun s t h e => ?_, fun s t h e => ?_⟩
  · exact limitsKept_law.step (fun _ => finishConversion_limitsKept) h e
  · rw [State.conversionsSafe_iff] at h ⊢
    exact conversions_law.step (fun _ => finishConversion_conversionsSafe) h e

end Sys2Proof.Machine
end

section
namespace Sys2Proof.Machine

open Sys2Proof

/-- Settles O3: every other command is a step of the running part, which does nothing in reset, and a touch input is followed. -/
theorem partStandsStillInReset : Obligations.PartStandsStillInReset := by
  refine ⟨fun c s reset hp hr ht => ?_, fun i b s reset => ?_⟩
  · obtain ⟨f, hf⟩ := exec_eq_live c hp hr ht
    rw [hf, live_inReset reset]
  · refine ⟨s.touchInput i b, rfl, ?_⟩
    unfold State.touchInput
    split
    · next same => exact ⟨by rw [same], fun _ _ => rfl, rfl⟩
    · exact ⟨State.strip_modStrip_self .., fun j other => State.strip_modStrip_ne _ other _, rfl⟩

/-! ## The image port's commands on the running part -/

section commands

variable {s : State} (run : s.inReset = false)
include run

theorem exec_pportRequest (kind : ReqKind) (addr : BitVec 24) (len : BitVec 2) (par : Bool) :
    exec (.pportRequest kind addr len par) s = .next (s.arriveRequest kind addr len par) :=
  live_running (f := fun s => s.arriveRequest kind addr len par) run

theorem exec_alertTimeout : exec .alertTimeout s = .next s.endAlert := live_running run

theorem exec_passingGrant : exec .passingGrant s = .next s.grantPassing := live_running run

theorem exec_injectionIssue : exec .injectionIssue s = .next s.issueHead := live_running run

theorem exec_writeBeatAccept (data : Word) (e : Enables) :
    exec (.writeBeatAccept data e) s = .next (s.presentBeat data e) :=
  live_running (f := fun s => s.presentBeat data e) run

theorem exec_readBeatReturn (data : Word) (st : RespStatus) :
    exec (.readBeatReturn data st) s = .next (s.readReturns data st) :=
  live_running (f := fun s => s.readReturns data st) run

theorem exec_memoryWriteResponse (st : RespStatus) :
    exec (.memoryWriteResponse st) s = .next (s.writeAnswered st) :=
  live_running (f := fun s => s.writeAnswered st) run

theorem exec_positionResponse (st : RespStatus) : exec (.positionResponse st) s = .next (s.positionAnswered st) :=
  live_running (f := fun s => s.positionAnswered st) run

theorem exec_fetchResponse (data : Word) (st : RespStatus) :
    exec (.fetchResponse data st) s = .next (s.fetchAnswered data st) :=
  live_running (f := fun s => s.fetchAnswered data st) run

theorem exec_statusEventResponse (st : RespStatus) : exec (.statusEventResponse st) s = .next s.statusAnswered :=
  live_running run

theorem exec_controlAreaWrite (o : BitVec 9) (data : Word) :
    exec (.controlAreaWrite o data) s = .next (s.controlWrite o.toNat data) :=
  live_running (f := fun s => s.controlWrite o.toNat data) run

theorem exec_droppedRequestBeat : exec .droppedRequestBeat s = .next (s.modPort ImagePort.dropBeat) :=
  live_running (f := fun s => s.modPort ImagePort.dropBeat) run

end commands

/-! ## Requests at the P-port (R2, R4, R7, R18) -/

section request

variable {s : State} {kind : ReqKind} {addr : BitVec 24} {len : BitVec 2} {par : Bool}

/-- A request with good parity stands at the free P-port, to be passed (R4). -/
theorem State.arriveRequest_good (free : s.port.req = none) (even : (fieldOnes kind addr len + par.toNat) % 2 = 0) :
    s.arriveRequest kind addr len par = s.modPort fun p => p.hold kind addr len par false := by
  simp [State.arriveRequest, free, parityGood, even]

/-- A request with bad parity stands at the free P-port, to be dropped, and is reported (R7, R8). -/
theorem State.arriveRequest_bad (free : s.port.req = none) (odd : (fieldOnes kind addr len + par.toNat) % 2 = 1) :
    s.arriveRequest kind addr len par =
      ((s.modPort fun p => p.hold kind addr len par true).alert).reportParity addr := by
  simp [State.arriveRequest, free, parityGood, odd]

end request

/-- The arbiter grants a claimant at a free port below guard count 4, or with no entry waiting (R18). -/
theorem ImagePort.grantsPassing_iff (p : ImagePort) :
    p.grantsPassing = true ↔ p.holder = .nobody ∧ (p.queue = [] ∨ p.guardCount < 4) := by
  simp only [ImagePort.grantsPassing, Bool.and_eq_true, Bool.or_eq_true, beq_iff_eq, List.isEmpty_iff, decide_eq_true_eq]
  rfl

/-- Settles O7: a good request becomes the claimant, and the arbiter's condition decides its grant. -/
theorem passingRequestsClaimAndAreGranted : Obligations.PassingRequestsClaimAndAreGranted := by
  refine ⟨fun kind addr len par s run free even => ?_, fun q s run claim => ⟨fun port guard => ?_, fun held => ?_⟩⟩
  · rw [exec_pportRequest run, State.arriveRequest_good free even]
    exact ⟨_, rfl, rfl, rfl⟩
  · have granted := s.port.grantsPassing_iff.mpr ⟨port, guard⟩
    simp [exec_passingGrant run, State.grantPassing, claim, granted, State.modPort, ImagePort.grant]
  · have waits : s.port.grantsPassing = false := by
      rw [← Bool.not_eq_true, ImagePort.grantsPassing_iff]
      rintro ⟨port, guard⟩
      obtain busy | ⟨entries, four⟩ := held
      · exact busy port
      · exact guard.elim entries (Nat.not_lt.mpr four)
    simp [exec_passingGrant run, State.grantPassing, claim, waits]

/-! ## Memory's answers (R5, R22 to R24) -/

/-- The ERRORs of dropped writes that stand first are returned, and no other (R3, R7). -/
theorem ImagePort.flushDropped_replicate (p : ImagePort) (n : Nat) (rest : List Owed)
    (owed : p.owed = List.replicate n .droppedWrite ++ rest) (stop : rest.head? ≠ some .droppedWrite) :
    p.flushDropped = { p with
      owed := rest, toProcessor := p.toProcessor ++ List.replicate n (POut.response .error) } := by
  have restStops : rest.dropWhile (· == .droppedWrite) = rest ∧ rest.takeWhile (· == .droppedWrite) = [] := by
    cases rest with
    | nil => exact ⟨rfl, rfl⟩
    | cons o rest => cases o <;> simp_all
  have drop : p.owed.dropWhile (· == .droppedWrite) = rest := by
    rw [owed, List.dropWhile_append_of_pos (by simp), restStops.1]
  have take : p.owed.takeWhile (· == .droppedWrite) = List.replicate n .droppedWrite := by
    rw [owed, List.takeWhile_append_of_pos (by simp), restStops.2, List.append_nil]
  simp [ImagePort.flushDropped, drop, take]

/-- Settles O15: a passing write's answer is returned with the ERRORs behind it, and a STATUS's or EVENT's drops its member. -/
theorem writeAnswersAreReturned : Obligations.WriteAnswersAreReturned := by
  refine ⟨fun st ms n rest s run members owed stop => ?_, fun st m ms s run members kind => ?_⟩
  · rw [exec_memoryWriteResponse run]
    simp only [State.writeAnswered, members, owed, State.modPort, ImagePort.answerWrite]
    rw [ImagePort.flushDropped_replicate _ n rest (by simp) stop]
    simp [ImagePort.dropMember, members]
  · rw [exec_statusEventResponse run]
    obtain ⟨w, a, rfl⟩ | ⟨a, rfl⟩ := kind <;>
      simp [State.statusAnswered, members, State.modPort, ImagePort.dropMember]

/-- Settles O16: the oldest member is the POSITION, and its mark and its home decide whether its code lands. -/
theorem positionAnswerSetsImageCode : Obligations.PositionAnswerSetsImageCode := by
  intro c code addr order mark ms s run members
  have answered : ∀ st, exec (.positionResponse st) s = .next (s.positionAnswered st) :=
    fun st => exec_positionResponse run st
  have dropped : s.modPort ImagePort.dropMember = { s with port := { s.port with members := ms } } := by
    simp [State.modPort, ImagePort.dropMember, members]
  have home : State.home { s with port := { s.port with members := ms } } c = s.home c := rfl
  refine ⟨fun unmarked own => ?_, fun lost => ?_, ?_⟩
  · simp [answered, State.positionAnswered, members, dropped, State.positionLands, unmarked, home, own, State.setChan,
      State.chan]
  · have stays : (!mark && s.home c == some (addr, order)) = false := by
      obtain marked | moved := lost
      · simp [marked]
      · simp [moved]
    simp [answered, State.positionAnswered, members, dropped, State.positionLands, home, stays]
  · simp [answered, State.positionAnswered, members, dropped]

end Sys2Proof.Machine
end

section
namespace Sys2Proof.Machine

open Sys2Proof

/-! ## Frames of whole states -/

/-- Two states that agree outside the image port and the control unit. -/
theorem State.eq_of_port_ctl {s t : State} (pending : t.pending = s.pending := by simp)
    (clock : t.clock = s.clock := by simp) (inReset : t.inReset = s.inReset := by simp)
    (strap : t.strap = s.strap := by simp) (windows : t.windows = s.windows := by simp)
    (chans : t.chans = s.chans := by simp) (taper : t.taper = s.taper := by simp)
    (strips : t.strips = s.strips := by simp) (layers : t.layers = s.layers := by simp)
    (drive : t.drive = s.drive := by simp) (sliceDue : t.sliceDue = s.sliceDue := by simp)
    (meter : t.meter = s.meter := by simp) : t = { s with port := t.port, ctl := t.ctl } := by
  cases t
  simp_all

/-- Which strip shows a channel depends on the strips alone. -/
theorem State.shownBy_congr {s t : State} (h : t.strips = s.strips) (c : ChanId) : t.shownBy c = s.shownBy c := by
  simp [State.shownBy, State.strip, h]

/-! ## The answer to a FETCH (R20, R23, R37 to R39) -/

/-- A conversion request that is made stands in the queue with its input (R49). -/
theorem State.convert_carries {s t : State} {q : ConvReq} (e : s.convert q = some t) :
    ∃ r ∈ t.taper.queue, r.work = q.work := by
  obtain ⟨has, eq⟩ | ⟨-, -, rfl⟩ := State.convert_cases e
  · obtain ⟨old, mem, key⟩ := List.any_eq_true.mp has
    refine ⟨q.coalesce old, ?_, ?_⟩
    · rw [eq]
      exact List.mem_append_right _ (List.mem_map_of_mem mem)
    · simp [ConvReq.coalesce, beq_iff_eq.mp key]
  · exact ⟨q, by simp, rfl⟩

/-- A waiter that joins stands, or one of its key does (R52). -/
theorem State.wait_hasWaiter {s : State} {w : Waiter} {k : ConvKey} (key : w.key = some k) :
    (s.wait w).taper.hasWaiter k = true := by
  simp only [State.wait, key, State.modTaper_taper]
  split
  · next has =>
    obtain ⟨x, mem, hx⟩ := List.any_eq_true.mp has
    have own := x.own_key w.isOwned
    refine List.any_eq_true.mpr ⟨_, List.mem_map_of_mem mem, ?_⟩
    simp_all
  · simp [TaperUnit.hasWaiter, key]

/-- A channel's conversion that is asked for is carried (R49, R52). -/
theorem State.convertOrWait_carries (s : State) (c : ChanId) (code : Code) (seq : BitVec 8) (f o o' : Bool) :
    (s.convertOrWait ⟨.levelToTravel c code seq, o⟩ (.level c f o')).taper.carries c code seq := by
  unfold State.convertOrWait
  split
  · next e => exact .inl (State.convert_carries e)
  · exact .inr (State.wait_hasWaiter rfl)

/-- A conversion that is asked for changes the taper unit alone. -/
theorem State.convertOrWait_eq (s : State) (q : ConvReq) (w : Waiter) :
    s.convertOrWait q w = { s with taper := (s.convertOrWait q w).taper } := by
  unfold State.convertOrWait
  split
  · next e => exact State.convert_some e
  · rfl

/-- The state in which a FETCH's answer is judged: its member has gone and the M-port is free (R20). -/
def State.fetchDone (s : State) (ms : List Member) : State :=
  { s with port := { s.port with members := ms, holder := .nobody } }

/-- A fetched word of the channel's sequence number sets its record, and asks for its conversion when it is shown (R37, R38). -/
theorem State.applyFetch_current {s : State} {c : ChanId} {seq : BitVec 8} (same : (s.chan c).seq = seq) (code : Code) :
    let t := s.applyFetch c seq code
    t.chan c = ⟨some code, some code, seq⟩ ∧ (∀ d, d ≠ c → t.chan d = s.chan d) ∧
    (s.shownBy c = none → t.taper = s.taper) ∧ (s.shownBy c ≠ none → t.taper.carries c code seq) ∧
    t = { s with chans := t.chans, taper := t.taper } := by
  have shown : (s.setChan c ⟨some code, some code, seq⟩).shownBy c = s.shownBy c := rfl
  simp only [State.applyFetch, same, if_pos, shown]
  split
  · next i hi =>
    refine ⟨by simp, fun d other => by simp [other], by simp [hi], fun _ => State.convertOrWait_carries .., ?_⟩
    rw [State.convertOrWait_eq]
    rfl
  · next hi => exact ⟨by simp, fun d other => by simp [other], fun _ => rfl, fun shows => absurd hi shows, rfl⟩

/-- Settles O17: the answer frees the M-port, and the home and the sequence number decide what its word does. -/
theorem fetchAnswerSetsRecord : Obligations.FetchAnswerSetsRecord := by
  intro c seq addr order ms data s run members
  have answered : ∀ st, exec (.fetchResponse data st) s = .next
      (if st = .error then (s.fetchDone ms).fetchFailed c 1#16
        else if s.home c = some (addr, order) then (s.fetchDone ms).applyFetch c seq (codeHalf order data)
        else s.fetchDone ms) := by
    intro st
    rw [exec_fetchResponse run, State.fetchAnswered_eq members]
    simp [State.fetchDone, State.modPort, ImagePort.dropMember, members]
  refine ⟨fun discarded => ?_, fun same own => ?_, ?_⟩
  · rw [answered]
    obtain stale | moved := discarded
    · have unapplied : (s.fetchDone ms).applyFetch c seq (codeHalf order data) = s.fetchDone ms :=
        if_neg stale
      simp only [unapplied, ite_self, reduceCtorEq, if_false]
      rfl
    · simp [moved, State.fetchDone]
  · rw [answered]
    refine ⟨(s.fetchDone ms).applyFetch c seq (codeHalf order data), by simp [own], ?_⟩
    exact State.applyFetch_current (s := s.fetchDone ms) same _
  · rw [answered]
    simp only [if_pos, State.fetchFailed]
    have shown : ((s.fetchDone ms).createEvent .fetchError (BitVec.ofNat 8 c.val) 1#16).shownBy c = s.shownBy c :=
      State.shownBy_congr (by simp [State.fetchDone]) c
    rw [shown]
    rfl

end Sys2Proof.Machine
end

section
namespace Sys2Proof.Machine

open Sys2Proof

/-! ## Read forwarding (R25) -/

/-- The bytes of a word written as four bytes. -/
theorem extractLsb'_four_bytes (x₃ x₂ x₁ x₀ : BitVec 8) :
    (x₃ ++ x₂ ++ x₁ ++ x₀).extractLsb' 0 8 = x₀ ∧ (x₃ ++ x₂ ++ x₁ ++ x₀).extractLsb' 8 8 = x₁ ∧
    (x₃ ++ x₂ ++ x₁ ++ x₀).extractLsb' 16 8 = x₂ ∧ (x₃ ++ x₂ ++ x₁ ++ x₀).extractLsb' 24 8 = x₃ := by
  have above : ∀ {v w : Nat} (x : BitVec v) (y : BitVec w) (k : Nat),
      (x ++ y).extractLsb' (w + k) 8 = x.extractLsb' k 8 := fun x y k => by
    rw [BitVec.extractLsb'_append_eq_of_le (Nat.le_add_right ..), Nat.add_sub_cancel_left]
  refine ⟨BitVec.extractLsb'_append_eq_right, (above _ _ 0).trans BitVec.extractLsb'_append_eq_right,
    (above _ _ 8).trans ((above _ _ 0).trans BitVec.extractLsb'_append_eq_right),
    (above _ _ 16).trans ((above _ _ 8).trans BitVec.extractLsb'_append_eq_left)⟩

/-- A byte of a merged word is the new word's where its enable is set, and the old word's elsewhere. -/
theorem mergeBytes_byte (e : Enables) (old new : Word) (b : Fin 4) :
    (mergeBytes e old new).extractLsb' (8 * b.val) 8 =
      (if e.getLsbD b.val then new else old).extractLsb' (8 * b.val) 8 := by
  obtain ⟨h₀, h₁, h₂, h₃⟩ := extractLsb'_four_bytes
    (if e.getLsbD 3 then new.extractLsb' 24 8 else old.extractLsb' 24 8)
    (if e.getLsbD 2 then new.extractLsb' 16 8 else old.extractLsb' 16 8)
    (if e.getLsbD 1 then new.extractLsb' 8 8 else old.extractLsb' 8 8)
    (if e.getLsbD 0 then new.extractLsb' 0 8 else old.extractLsb' 0 8)
  match b with
  | 0 => exact h₀.trans (apply_ite (fun w : Word => w.extractLsb' 0 8) ..).symm
  | 1 => exact h₁.trans (apply_ite (fun w : Word => w.extractLsb' 8 8) ..).symm
  | 2 => exact h₂.trans (apply_ite (fun w : Word => w.extractLsb' 16 8) ..).symm
  | 3 => exact h₃.trans (apply_ite (fun w : Word => w.extractLsb' 24 8) ..).symm

/-- The two words of a code, by order (R27). -/
theorem codeWord_native (code : Code) : codeWord .native code = 0#16 ++ code := rfl

theorem codeWord_swapped (code : Code) : codeWord .swapped code = code ++ 0#16 := by
  have low : lowHalf (ofHalves 0#16 code) = code := BitVec.extractLsb'_append_eq_right
  have high : highHalf (ofHalves 0#16 code) = 0#16 := BitVec.extractLsb'_append_eq_left
  simp only [codeWord, orderWord, low, high]
  rfl

/-- Where each entry gives a word or leaves the data, a byte of forwarded data is the last given word's, or memory's (R25). -/
theorem forward_byte {addr lo : Nat} {covers : InjEntry → Option Word}
    (merges : ∀ x d, (x.mergeInto addr d).extractLsb' lo 8 = ((covers x).getD d).extractLsb' lo 8) :
    ∀ (l : List InjEntry) (d : Word),
      (forward l addr d).extractLsb' lo 8 = ((l.filterMap covers).getLast?.getD d).extractLsb' lo 8
  | [], _ => rfl
  | x :: l, d => by
    have rest := forward_byte merges l (x.mergeInto addr d)
    have step : forward (x :: l) addr d = forward l addr (x.mergeInto addr d) := rfl
    rw [step, rest, List.filterMap_cons]
    have head := merges x d
    cases hx : covers x <;> cases hl : (l.filterMap covers).getLast? <;>
      simp_all [List.getLast?_cons]

/-- An open read is at the P-port (R6). -/
theorem ImagePort.openRead_eq {p : ImagePort} {q : PortRequest} (reads : p.reads q) : p.openRead = some q := by
  obtain ⟨req, granted, passing, kind⟩ := reads
  simp [openRead, req, granted, passing, kind]

/-- Settles O14: the entries are merged in queue order, so a byte of the beat is the last covering entry's. -/
theorem readBeatsAreForwarded : Obligations.ReadBeatsAreForwarded := by
  intro q data st s run reads head
  have returns : exec (.readBeatReturn data st) s = .next (s.modPort fun p => p.returnBeat q data st) := by
    rw [exec_readBeatReturn run]
    by_cases last : q.done + 1 = lengthOf q.lenCode <;>
      simp [State.readReturns, ImagePort.openRead_eq reads, PortRequest.atLast, last, head]
  refine ⟨_, forward s.port.queue q.beatAddr data, returns, fun b => ?_, fun more => ?_, fun last => ?_⟩
  · refine forward_byte (fun x d => ?_) _ _
    obtain ⟨stamp, addr, body⟩ := x
    match body with
    | .position c code .native =>
      by_cases here : addr = q.beatAddr
      · simp only [InjEntry.mergeInto, here, if_true, true_and, mergeBytes_byte, codeWord_native]
        match b with
        | 0 => rfl
        | 1 => rfl
        | 2 => rfl
        | 3 => rfl
      · simp [InjEntry.mergeInto, here]
    | .position c code .swapped =>
      by_cases here : addr = q.beatAddr
      · simp only [InjEntry.mergeInto, here, if_true, true_and, mergeBytes_byte, codeWord_swapped]
        match b with
        | 0 => rfl
        | 1 => rfl
        | 2 => rfl
        | 3 => rfl
      · simp [InjEntry.mergeInto, here]
    | .fetch _ _ _ => rfl
    | .status _ v => by_cases here : addr = q.beatAddr <;> simp [InjEntry.mergeInto, here]
    | .event v u =>
      by_cases here : addr = q.beatAddr
      · simp [InjEntry.mergeInto, here]
      · by_cases next : (addr + 1) % 16777216 = q.beatAddr <;>
          simp [InjEntry.mergeInto, here, next, Config.addressSpace]
  · simp [State.modPort, ImagePort.returnBeat, PortRequest.atLast, more]
  · simp [State.modPort, ImagePort.returnBeat, PortRequest.atLast, last]

end Sys2Proof.Machine
end

section
namespace Sys2Proof.Machine

open Sys2Proof

/-! ## SYNC's completion (R199) -/

section sync

variable {s : State}

/-- With no SYNC in progress there is none to complete. -/
theorem State.syncCheck_of_no_sync (idle : ∀ tag point count, s.ctl.busy ≠ some (.sync tag point count)) :
    s.syncCheck = s := by
  unfold State.syncCheck
  split
  · next busy => exact absurd busy (idle _ _ _)
  · rfl

/-- A SYNC goes on while an entry made before its point stands. -/
theorem State.syncCheck_of_awaited {tag : BitVec 8} {point count : Nat} (busy : s.ctl.busy = some (.sync tag point count))
    (stands : ∃ e ∈ s.port.queue, e.stamp < point) : s.syncCheck = s := by
  have awaits : s.awaits point = true := by simpa [State.awaits] using stands
  simp [State.syncCheck, busy, awaits]

/-- RESULT leaves the command in progress as it is. -/
theorem State.putResult_busy (s : State) (tag : BitVec 8) (code : ResultCode) (v : BitVec 16) :
    (s.putResult tag code v).ctl.busy = s.ctl.busy := by
  unfold State.putResult
  split <;> simp

/-- A SYNC with no entry left to wait for answers DONE with its count. -/
theorem State.syncCheck_of_none_awaited {tag : BitVec 8} {point count : Nat}
    (busy : s.ctl.busy = some (.sync tag point count)) (gone : ∀ e ∈ s.port.queue, point ≤ e.stamp) :
    s.syncCheck = (s.modCtl fun c => { c with busy := none }).writeResult tag .done (BitVec.ofNat 16 count) := by
  have awaits : s.awaits point = false := by simpa [State.awaits] using gone
  have answered : ((s.modCtl fun c => { c with busy := none }).putResult tag .done (BitVec.ofNat 16 count)).syncCheck =
      (s.modCtl fun c => { c with busy := none }).putResult tag .done (BitVec.ofNat 16 count) :=
    State.syncCheck_of_no_sync (by simp [State.putResult_busy])
  simp only [State.syncCheck, busy, awaits, State.writeResult] at answered ⊢
  exact answered.symm

/-- Of the image port a RESULT changes the entries and the creation count alone. -/
theorem State.putResult_port (s : State) (tag : BitVec 8) (code : ResultCode) (v : BitVec 16) :
    ∃ queue next, (s.putResult tag code v).port = { s.port with queue := queue, nextStamp := next } := by
  unfold State.putResult
  split <;> exact ⟨_, _, rfl⟩

/-- Of the image port SYNC's completion changes the entries and the creation count alone. -/
theorem State.syncCheck_port (s : State) :
    ∃ queue next, s.syncCheck.port = { s.port with queue := queue, nextStamp := next } := by
  unfold State.syncCheck
  split
  · split
    · exact ⟨_, _, rfl⟩
    · exact State.putResult_port ..
  · exact ⟨_, _, rfl⟩

end sync

/-! ## Issue (R18 to R20) -/

/-- The arbiter grants the injection head at a free port when no passing request waits or the guard count is 4 (R18). -/
theorem ImagePort.grantsInjection_iff (p : ImagePort) :
    p.grantsInjection = true ↔ p.holder = .nobody ∧ (p.claimant = none ∨ 4 ≤ p.guardCount) := by
  simp only [ImagePort.grantsInjection, Bool.and_eq_true, Bool.or_eq_true, beq_iff_eq, Option.isNone_iff_eq_none,
    decide_eq_true_eq]
  rfl

/-- What each kind of entry puts out at its issue (Table 1.3). -/
theorem InjEntry.out_eq (e : InjEntry) :
    e.out =
      (let own : BitVec 2 → ReqKind → MOut := fun len kind =>
        .request kind (BitVec.ofNat 24 e.addr) len (fieldOnes kind (BitVec.ofNat 24 e.addr) len % 2 == 1)
      match e.body with
      | .position _ code .native => [own 0#2 .write, .writeBeat (0#16 ++ code) 0b0011#4]
      | .position _ code .swapped => [own 0#2 .write, .writeBeat (code ++ 0#16) 0b1100#4]
      | .fetch _ _ _ => [own 0#2 .read]
      | .status _ v => [own 0#2 .write, .writeBeat v 0b1111#4]
      | .event a b => [own 1#2 .write, .writeBeat a 0b1111#4, .writeBeat b 0b1111#4]) := by
  obtain ⟨stamp, addr, body⟩ := e
  cases body with
  | position c code order =>
    cases order with
    | native => rfl
    | swapped => simp only [InjEntry.out, codeWord_swapped]; rfl
  | fetch c seq order => rfl
  | status w v => rfl
  | event a b => rfl

/-- Settles O8: the arbiter's condition decides the issue, and SYNC is judged on what is left. -/
theorem injectionHeadIsIssued : Obligations.InjectionHeadIsIssued := by
  intro e rest s run queue
  refine ⟨fun port claim => ?_, fun held => ?_⟩
  · have granted := s.port.grantsInjection_iff.mpr ⟨port, claim⟩
    have issued : exec .injectionIssue s = .next (s.modPort fun p => p.issue e rest).syncCheck := by
      simp [exec_injectionIssue run, State.issueHead, queue, granted]
    obtain ⟨left, next, ports⟩ := State.syncCheck_port (s.modPort fun p => p.issue e rest)
    refine ⟨_, issued, by simp [ImagePort.issue], by rw [ports]; rfl, by simp [ImagePort.issue], ?_, fun idle => ?_,
      fun tag point count busy => ⟨fun stands => ?_, fun gone => ?_⟩, State.eq_of_port_ctl⟩
    · exact (State.syncCheck_port_toMemory _).trans (congrArg (s.port.toMemory ++ ·) e.out_eq)
    · rw [State.syncCheck_of_no_sync (s := s.modPort fun p => p.issue e rest) idle]
      exact ⟨rfl, rfl⟩
    · rw [State.syncCheck_of_awaited (s := s.modPort fun p => p.issue e rest) busy stands]
      rfl
    · rw [ports, State.syncCheck_of_none_awaited (s := s.modPort fun p => p.issue e rest) busy gone]
      rfl
  · have waits : s.port.grantsInjection = false := by
      rw [← Bool.not_eq_true, ImagePort.grantsInjection_iff]
      rintro ⟨port, claim⟩
      obtain taken | ⟨claimant, below⟩ := held
      · exact taken port
      · exact claim.elim claimant (Nat.not_le.mpr below)
    simp [exec_injectionIssue run, State.issueHead, queue, waits]

end Sys2Proof.Machine
end

section
namespace Sys2Proof.Machine

open Sys2Proof

/-! ## Write beats (R5, R10) -/

section beats

variable {s : State} {q : PortRequest}

/-- An open write is at the P-port (R5). -/
theorem ImagePort.openWrite_eq {p : ImagePort} (writes : p.writes q) : p.openWrite = some q := by
  obtain ⟨req, granted, passing, kind, free⟩ := writes
  simp [openWrite, req, granted, passing, kind, free]

/-- A beat that need not wait is accepted (R5). -/
theorem exec_writeBeatAccept_free (run : s.inReset = false) (writes : s.port.writes q) {data : Word} {e : Enables}
    (free : s.mustHold q.beatAddr data e = false) :
    exec (.writeBeatAccept data e) s = .next (s.acceptBeat q data e) := by
  simp [exec_writeBeatAccept run, State.presentBeat, ImagePort.openWrite_eq writes, free]

/-- A beat that must wait is held (R5). -/
theorem exec_writeBeatAccept_held (run : s.inReset = false) (writes : s.port.writes q) {data : Word} {e : Enables}
    (full : s.mustHold q.beatAddr data e = true) :
    exec (.writeBeatAccept data e) s = .next (s.holdBeat data e) := by
  simp [exec_writeBeatAccept run, State.presentBeat, ImagePort.openWrite_eq writes, full]

/-- A beat that passes, field by field (R5, R18). -/
theorem ImagePort.passBeat_eq (p : ImagePort) (q : PortRequest) (data : Word) (e : Enables) :
    p.passBeat q data e = { p with
      toMemory := p.toMemory ++ [MOut.writeBeat data e], heldBeat := none
      req := if q.done + 1 = lengthOf q.lenCode then none else some { q with done := q.done + 1 }
      holder := if q.done + 1 = lengthOf q.lenCode then .nobody else p.holder
      owed := if q.done + 1 = lengthOf q.lenCode then p.owed ++ [.memory] else p.owed } := by
  by_cases last : q.done + 1 = lengthOf q.lenCode <;> simp [ImagePort.passBeat, PortRequest.atLast, last]

/-- A strip that takes processor codes by conversion treats them so (R68). -/
theorem Strip.treatment_of_converts {p : Strip} (converts : p.converts) : p.treatment = .conversion := by
  obtain ⟨motorised, untouched, unlatched⟩ := converts
  unfold Strip.treatment
  cases mode : p.mode <;> simp_all [Mode.motorised]

/-- A beat that covers the code half gives that code (R33). -/
theorem beatCode_of_covers {order : WordOrder} {e : Enables} (covers : coversCode order e = true) (image : Option Code)
    (w : Word) : beatCode order image w e = some (codeHalf order w) := by
  simp only [coversCode, Bool.and_eq_true] at covers
  simp only [beatCode, covers]

end beats

/-- Settles O13: a control beat never waits, and a fader beat that converts waits for a slot. -/
theorem controlBeatsActWholeAndFullQueuesHold : Obligations.ControlBeatsActWholeAndFullQueuesHold := by
  refine ⟨fun q o data e s run writes control => ?_, fun q c order i data e s run writes fader covers shown converts full
    fresh alone => ?_⟩
  · have free : s.mustHold q.beatAddr data e = false := by simp [State.mustHold, control]
    have accepted := exec_writeBeatAccept_free run writes free
    have passed : (s.modPort fun p => p.passBeat q data e).dataBeat q.beatAddr data e =
        (s.modPort fun p => p.passBeat q data e).portWork q.beatAddr e := by
      have here : (s.modPort fun p => p.passBeat q data e).decodeBeat q.beatAddr = .control o.toNat := control
      simp only [State.dataBeat, here]
    have runs : ((s.modPort fun p => p.passBeat q data e).portWork q.beatAddr e).inReset = false := by
      simp [State.portWork, run]
    simp only [State.acceptBeat, control, passed] at accepted
    have fields : s.modPort (fun p => p.passBeat q data e) = { s with port := _ } :=
      congrArg (fun p => { s with port := p }) (s.port.passBeat_eq q data e)
    rw [fields] at accepted runs
    rw [accepted]
    refine ⟨fun whole => ?_, fun part => congrArg _ (if_neg part)⟩
    exact (congrArg _ (if_pos whole)).trans (exec_controlAreaWrite runs o data).symm
  · have holds : s.mustHold q.beatAddr data e = true := by
      have noSlot : ¬ s.taper.queue.length < Config.conversionLimit := Nat.not_lt.mpr full
      simp [State.mustHold, fader, beatCode_of_covers covers, shown, Strip.treatment_of_converts converts,
        State.canConvert, fresh, alone, noSlot]
    rw [exec_writeBeatAccept_held run writes holds]
    rfl

end Sys2Proof.Machine
end

section
namespace Sys2Proof.Machine

open Sys2Proof

/-! ## What requests for entries leave of the entries that stand (R11 to R15) -/

/-- An entry lives on as another: a POSITION with its place, perhaps with another code; a STATUS perhaps with another value and place; a FETCH or EVENT as
it is. -/
def InjEntry.continuedBy (x y : InjEntry) : Prop :=
  y.key = x.key ∧
    match x.body with
    | .position _ _ _ => y.stamp = x.stamp
    | .status _ _ => True
    | .fetch _ _ _ => y = x
    | .event _ _ => y = x

/-- Entries are only added or replaced from one port to another: each one lives on, and none takes a place given out before. -/
structure ImagePort.Grows (p p' : ImagePort) : Prop where
  stays : ∀ x ∈ p.queue, ∃ y ∈ p'.queue, x.continuedBy y
  next : p.nextStamp ≤ p'.nextStamp
  new : ∀ y ∈ p'.queue, p.nextStamp ≤ y.stamp ∨ ∃ x ∈ p.queue, x.stamp = y.stamp

theorem InjEntry.continuedBy_refl (x : InjEntry) : x.continuedBy x := by
  obtain ⟨stamp, addr, body⟩ := x
  cases body <;> simp [InjEntry.continuedBy]

theorem InjEntry.continuedBy.trans {x y z : InjEntry} (h : x.continuedBy y) (h' : y.continuedBy z) : x.continuedBy z := by
  obtain ⟨key, rest⟩ := h
  obtain ⟨key', rest'⟩ := h'
  refine ⟨key'.trans key, ?_⟩
  obtain ⟨stamp, addr, body⟩ := x
  obtain ⟨stamp', addr', body'⟩ := y
  cases body <;> cases body' <;> simp_all [InjEntry.key]

/-- A POSITION replaced in place lives on (R12). -/
theorem InjEntry.continuedBy_replaceCode (x : InjEntry) (c : ChanId) (code : Code) (a : Nat) (order : WordOrder) :
    x.continuedBy (x.replaceCode c code a order) := by
  unfold InjEntry.replaceCode
  split
  · next same =>
    have key := InjEntry.isPositionOf_iff.mp same
    obtain ⟨stamp, addr, body⟩ := x
    cases body <;> simp_all [InjEntry.key, InjEntry.continuedBy]
  · exact x.continuedBy_refl

namespace ImagePort.Grows

variable {p p' p'' : ImagePort}

/-- Entries, creation count and nothing else of a port say how it grows. -/
theorem of_eq (queue : p'.queue = p.queue) (stamp : p'.nextStamp = p.nextStamp) : p.Grows p' where
  stays x hx := ⟨x, queue ▸ hx, x.continuedBy_refl⟩
  next := stamp.ge
  new y hy := .inr ⟨y, queue ▸ hy, rfl⟩

theorem refl : p.Grows p := of_eq rfl rfl

theorem trans (h : p.Grows p') (h' : p'.Grows p'') : p.Grows p'' where
  stays x hx := by
    obtain ⟨y, hy, xy⟩ := h.stays x hx
    obtain ⟨z, hz, yz⟩ := h'.stays y hy
    exact ⟨z, hz, xy.trans yz⟩
  next := h.next.trans h'.next
  new z hz := by
    obtain late | ⟨y, hy, same⟩ := h'.new z hz
    · exact .inl (h.next.trans late)
    · exact same ▸ h.new y hy

/-- An entry appended (R11). -/
theorem push (p : ImagePort) (a : Nat) (body : InjBody) : p.Grows (p.push a body) where
  stays x hx := ⟨x, List.mem_append_left _ hx, x.continuedBy_refl⟩
  next := Nat.le_succ _
  new y hy := by
    obtain old | rfl := by simpa [ImagePort.push] using hy
    · exact .inr ⟨y, old, rfl⟩
    · exact .inl le_rfl

/-- A STATUS entry of a word takes the place of the one that stands (R14). -/
theorem status (p : ImagePort) (w : StatusWord) (a : Nat) (v : Word) :
    p.Grows (ImagePort.push { p with queue := p.queue.filter fun e => !e.isStatusOf w } a (.status w v)) where
  stays x hx := by
    by_cases same : x.isStatusOf w = true
    · refine ⟨⟨p.nextStamp, a, .status w v⟩, by simp [ImagePort.push], ?_⟩
      have key := InjEntry.isStatusOf_iff.mp same
      obtain ⟨stamp, addr, body⟩ := x
      cases body <;> simp_all [InjEntry.key, InjEntry.continuedBy]
    · exact ⟨x, by simp [ImagePort.push, hx, same], x.continuedBy_refl⟩
  next := Nat.le_succ _
  new y hy := by
    obtain ⟨old, -⟩ | rfl := by simpa [ImagePort.push] using hy
    · exact .inr ⟨y, old, rfl⟩
    · exact .inl le_rfl

/-- A POSITION's code replaced in place (R12). -/
theorem recode (p : ImagePort) (c : ChanId) (code : Code) (a : Nat) (order : WordOrder) :
    p.Grows { p with queue := p.queue.map (InjEntry.replaceCode c code a order) } where
  stays x hx := ⟨_, List.mem_map_of_mem hx, x.continuedBy_replaceCode ..⟩
  next := le_rfl
  new y hy := by
    obtain ⟨x, hx, rfl⟩ := List.mem_map.mp hy
    obtain ⟨-, -, -, -, stamp⟩ := x.replaceCode_keeps c code a order
    exact .inr ⟨x, hx, stamp.symm⟩

end ImagePort.Grows

namespace State

variable (s : State)

theorem pushStatus_grows (w : StatusWord) : s.port.Grows (s.pushStatus w).port := ImagePort.Grows.status ..

theorem modCtl_pushStatus_grows (f : Control → Control) (w : StatusWord) :
    s.port.Grows ((s.modCtl f).pushStatus w).port := ImagePort.Grows.status ..

theorem putResult_grows (tag : BitVec 8) (code : ResultCode) (v : BitVec 16) :
    s.port.Grows (s.putResult tag code v).port := by
  have r := s.modCtl_pushStatus_grows (fun c => { c with result := resultWord tag code.number v }) .result
  unfold State.putResult
  dsimp only
  split
  · exact r
  · exact r.trans (State.modCtl_pushStatus_grows _ _ .summary)

theorem syncCheck_grows : s.port.Grows s.syncCheck.port := by
  unfold State.syncCheck
  split
  · split
    · exact .refl
    · exact (s.modCtl _).putResult_grows ..
  · exact .refl

theorem requestStatus_grows (w : StatusWord) : s.port.Grows (s.requestStatus w).port :=
  (s.pushStatus_grows w).trans (State.syncCheck_grows _)

theorem modCauses_grows (f : Control → Control) : s.port.Grows (s.modCauses f).port := by
  unfold State.modCauses State.noteCauses
  split
  · exact .refl
  · exact (s.modCtl f).requestStatus_grows .summary

theorem loseEvent_grows : s.port.Grows s.loseEvent.port := by
  unfold State.loseEvent
  dsimp only
  split
  · exact ((s.modCtl _).requestStatus_grows .counters).trans (State.modCauses_grows _ _)
  · exact s.modCauses_grows _

theorem deliverEvent_grows (kind : EventKind) (index : BitVec 8) (v n : BitVec 16) :
    s.port.Grows (s.deliverEvent kind index v n).port := by
  have event := ImagePort.Grows.push s.port (s.ctl.slotAddr s.ctl.producer)
    (.event (eventWord0 kind index n) (eventWord1 v s.ctl.time))
  have producer := event.trans (((s.pushEntry _ _).modCtl fun c =>
    { c with producer := c.nextProducer }).requestStatus_grows .producer)
  unfold State.deliverEvent
  dsimp only
  split
  · exact producer
  · exact producer.trans (State.requestStatus_grows _ .summary)

theorem createEvent_grows (kind : EventKind) (index : BitVec 8) (v : BitVec 16) :
    s.port.Grows (s.createEvent kind index v).port := by
  unfold State.createEvent
  dsimp only
  split
  · exact .refl
  · split
    · exact (s.modCtl _).loseEvent_grows
    · exact (s.modCtl _).deliverEvent_grows ..

theorem requestPosition_grows (c : ChanId) (code : Code) : s.port.Grows (s.requestPosition c code).port := by
  unfold State.requestPosition
  split
  · exact .refl
  · split
    · exact .recode ..
    · split
      · exact .push ..
      · exact s.createEvent_grows ..

/-- A fader beat's hand-off only adds or replaces entries (R34, R71). -/
theorem faderBeat_grows (c : ChanId) (order : WordOrder) (data : Word) (e : Enables) :
    s.port.Grows (s.faderBeat c order data e).port := by
  unfold State.faderBeat State.writeCode State.handOff
  split
  · split
    · exact .refl
    · split
      · exact .refl
      · split
        · next t converted =>
          exact .of_eq (by rw [State.convert_some converted]; rfl) (by rw [State.convert_some converted]; rfl)
        · exact .refl
      · split
        · exact (s.setChan ..).requestPosition_grows ..
        · exact .refl
  · exact .refl

end State

end Sys2Proof.Machine
end

section
namespace Sys2Proof.Machine

open Sys2Proof

/-! ## An accepted beat and the entries at its address (R15, R16, R21) -/

/-- Two ports agree but for the entries and the counts. -/
structure ImagePort.SameLines (p p' : ImagePort) : Prop where
  req : p'.req = p.req := by simp
  heldBeat : p'.heldBeat = p.heldBeat := by simp
  owed : p'.owed = p.owed := by simp
  holder : p'.holder = p.holder := by simp
  members : p'.members = p.members := by simp
  alertEnd : p'.alertEnd = p.alertEnd := by simp
  toProcessor : p'.toProcessor = p.toProcessor := by simp
  toMemory : p'.toMemory = p.toMemory := by simp

namespace State

variable (s : State) (addr : Nat) (data : Word) (e : Enables)

theorem faderBeat_sameLines (c : ChanId) (order : WordOrder) : s.port.SameLines (s.faderBeat c order data e).port := by
  unfold State.faderBeat
  split <;> exact {}

theorem captureMeter_port (k : MeterId) (order : WordOrder) : (s.captureMeter k order data e).port = s.port := by
  unfold State.captureMeter
  split <;> rfl

theorem portWork_sameLines :
    ImagePort.SameLines { s.port with members := s.port.members.map (Member.supersede addr e) }
      (s.portWork addr e).port := by
  unfold State.portWork
  exact {}

theorem portWork_grows : (s.port.keep (s.survives addr e)).Grows (s.portWork addr e).port :=
  ImagePort.Grows.trans (p' := State.port (s.modPort fun p =>
    { p with members := p.members.map (Member.supersede addr e) } |>.keep (s.survives addr e))) (.of_eq rfl rfl)
    (State.syncCheck_grows _)

/-- A beat's work marks issued POSITIONs and leaves the ports' lines as they are (R21). -/
theorem dataBeat_sameLines :
    ImagePort.SameLines { s.port with members := s.port.members.map (Member.supersede addr e) }
      (s.dataBeat addr data e).port := by
  obtain ⟨h₁, h₂, h₃, h₄, h₅, h₆, h₇, h₈⟩ := s.portWork_sameLines addr e
  unfold State.dataBeat
  split
  · next c order _ =>
    obtain ⟨f₁, f₂, f₃, f₄, f₅, f₆, f₇, f₈⟩ := (s.portWork addr e).faderBeat_sameLines data e c order
    exact ⟨f₁.trans h₁, f₂.trans h₂, f₃.trans h₃, f₄.trans h₄, f₅.trans h₅, f₆.trans h₆, f₇.trans h₇,
      f₈.trans h₈⟩
  · rw [State.captureMeter_port]
    exact s.portWork_sameLines addr e
  · exact s.portWork_sameLines addr e
  · exact s.portWork_sameLines addr e

/-- A beat's work cancels entries at its address, and else only adds or replaces entries (R16). -/
theorem dataBeat_grows : (s.port.keep (s.survives addr e)).Grows (s.dataBeat addr data e).port := by
  have work := s.portWork_grows addr e
  unfold State.dataBeat
  split
  · exact work.trans (State.faderBeat_grows _ _ _ _ _)
  · rw [State.captureMeter_port]
    exact work
  · exact work
  · exact work

end State

section kept

variable {p p' : ImagePort} {f : InjEntry → Bool}

/-- After entries left and others came, an entry's place is still taken exactly when the entry stayed; a STATUS may have a new place. -/
theorem ImagePort.Grows.stamp_iff (grows : (p.keep f).Grows p') (limits : p.limitsKept) {x : InjEntry} (mem : x ∈ p.queue)
    (place : ∀ w v, x.body ≠ .status w v) : (∃ y ∈ p'.queue, y.stamp = x.stamp) ↔ f x = true := by
  obtain ⟨⟨-, -, -, -, order, below⟩, -⟩ := p.limitsKept_iff.mp limits
  refine ⟨fun ⟨y, hy, same⟩ => ?_, fun stays => ?_⟩
  · obtain late | ⟨x', kept, stamp⟩ := grows.new y hy
    · exact absurd (below x mem) (Nat.not_lt.mpr (same ▸ late))
    · obtain ⟨mem', stays⟩ := List.mem_filter.mp kept
      have distinct : (p.queue.map InjEntry.stamp).Nodup := List.pairwise_map.mpr (order.imp fun lt => Nat.ne_of_lt lt)
      have eq : x' = x := List.inj_on_of_nodup_map distinct mem' mem (stamp.trans same)
      exact eq ▸ stays
  · obtain ⟨y, hy, -, body⟩ := grows.stays x (List.mem_filter.mpr ⟨mem, stays⟩)
    refine ⟨y, hy, ?_⟩
    cases kind : x.body with
    | position c code order => simpa [kind] using body
    | fetch c seq order => rw [kind] at body; exact congrArg _ body
    | status w v => exact absurd kind (place w v)
    | event a b => rw [kind] at body; exact congrArg _ body

/-- A FETCH that came before stands exactly when it stayed. -/
theorem ImagePort.Grows.fetch_iff (grows : (p.keep f).Grows p') (limits : p.limitsKept) {x : InjEntry} (mem : x ∈ p.queue)
    {c : ChanId} {seq : BitVec 8} {order : WordOrder} (kind : x.body = .fetch c seq order) : x ∈ p'.queue ↔ f x = true := by
  refine ⟨fun stands => (grows.stamp_iff limits mem (by simp [kind])).mp ⟨x, stands, rfl⟩, fun stays => ?_⟩
  obtain ⟨y, hy, -, body⟩ := grows.stays x (List.mem_filter.mpr ⟨mem, stays⟩)
  rw [kind] at body
  exact body ▸ hy

end kept

/-- A strip is operator-owned: touched in TOUCH, LATCH or WRITE mode, LATCHED, or in WRITE mode (R67). -/
theorem Strip.operatorOwned_iff (p : Strip) : p.operatorOwned = true ↔
    (p.touched = true ∧ (p.mode = .touch ∨ p.mode = .latch ∨ p.mode = .write) ∨ p.motion = .latched ∨ p.mode = .write) := by
  simp [Strip.operatorOwned, or_assoc]

/-- A channel is operator-owned unless no strip shows it, or one that is not (R67). -/
theorem State.ownedByOperator_eq_false (s : State) (c : ChanId) :
    s.ownedByOperator c = false ↔ ∀ i, s.shownBy c = some i → ¬ (s.strip i).operatorOwned = true := by
  unfold State.ownedByOperator
  split
  · next i shown => simp [shown]
  · next none => simp [none]

/-- Settles O11: the port's own work cancels by address, and what follows it only adds or replaces entries. -/
theorem acceptedBeatTreatsEntries : Obligations.AcceptedBeatTreatsEntries := by
  intro q data e s run writes limits free outside owned
  have accepted : exec (.writeBeatAccept data e) s =
      .next ((s.modPort fun p => p.passBeat q data e).dataBeat q.beatAddr data e) := by
    rw [exec_writeBeatAccept_free run writes free]
    unfold State.acceptBeat
    split
    · next o control => exact absurd control (outside o)
    all_goals rfl
  have lines := (s.modPort fun p => p.passBeat q data e).dataBeat_sameLines q.beatAddr data e
  have grows : (s.port.keep (s.survives q.beatAddr e)).Grows
      ((s.modPort fun p => p.passBeat q data e).dataBeat q.beatAddr data e).port := by
    refine ImagePort.Grows.trans ?_ (State.dataBeat_grows _ q.beatAddr data e)
    rw [State.modPort_port, ImagePort.passBeat_eq]
    exact .of_eq rfl rfl
  generalize (s.modPort fun p => p.passBeat q data e).dataBeat q.beatAddr data e = t at accepted lines grows
  obtain ⟨req, held, owed, holder, members, -, toProcessor, toMemory⟩ := lines
  simp only [State.modPort_port, ImagePort.passBeat_eq] at req held owed holder members toProcessor toMemory
  refine ⟨_, accepted, toMemory, toProcessor, held, fun more => ?_, fun last => ?_, fun x mem => ?_, ?_⟩
  · exact ⟨req.trans (if_neg more), holder.trans (if_neg more), owed.trans (if_neg more)⟩
  · exact ⟨req.trans (if_pos last), holder.trans (if_pos last), owed.trans (if_pos last)⟩
  · obtain ⟨stamp, addr, body⟩ := x
    cases body with
    | position c code order =>
      refine (grows.stamp_iff limits mem (by simp)).trans ?_
      simp only [owned, ← Strip.operatorOwned_iff, ← State.ownedByOperator_eq_false]
      by_cases here : addr = q.beatAddr
      · cases touched : touchesCode order e <;> simp [State.survives, here, touched]
      · simp [State.survives, here]
    | fetch c seq order =>
      refine (grows.fetch_iff limits mem rfl).trans ?_
      by_cases here : addr = q.beatAddr <;> simp [State.survives, here]
    | status w v =>
      have stays : s.survives q.beatAddr e ⟨stamp, addr, .status w v⟩ = true := by simp [State.survives]
      obtain ⟨y, hy, key, -⟩ := grows.stays _ (List.mem_filter.mpr ⟨mem, stays⟩)
      exact ⟨y, hy, InjEntry.isStatusOf_iff.mpr key⟩
    | event a b =>
      have stays : s.survives q.beatAddr e ⟨stamp, addr, .event a b⟩ = true := by simp [State.survives]
      obtain ⟨y, hy, -, rfl⟩ := grows.stays _ (List.mem_filter.mpr ⟨mem, stays⟩)
      exact hy
  · rw [members]
    refine List.map_congr_left fun m _ => ?_
    cases m <;> rfl

end Sys2Proof.Machine
end

section
namespace Sys2Proof.Machine

open Sys2Proof

/-! ## What a STATUS request leaves (R14, R192, R199, R200) -/

/-- A STATUS entry of the word stands with the word's value now (R14). -/
def State.standing (s : State) (w : StatusWord) : Prop :=
  ∃ e ∈ s.port.queue, e.body = .status w (s.ctl.statusValue w)

/-- From `s` to `t` only STATUS entries are asked for, and a SYNC perhaps completes: the EVENT entries stand, the control unit changes by a RESULT at most, the
STATUS entries that are up to date stay so, and SUMMARY is when its word changed. -/
structure State.Requests (s t : State) : Prop where
  events : t.port.queue.filter InjEntry.isEvent = s.port.queue.filter InjEntry.isEvent
  ctl : ∃ b r c, t.ctl = { s.ctl with busy := b, result := r, commandCause := c }
  stands : ∀ w, s.standing w → t.standing w
  summary : t.ctl.summaryWord ≠ s.ctl.summaryWord → t.standing .summary

namespace State

variable {s t u : State}

theorem Requests.refl : s.Requests s := ⟨rfl, ⟨_, _, _, rfl⟩, fun _ h => h, fun h => absurd rfl h⟩

theorem Requests.trans (h : s.Requests t) (h' : t.Requests u) : s.Requests u where
  events := h'.events.trans h.events
  ctl := by
    obtain ⟨_, _, _, eq⟩ := h.ctl
    obtain ⟨b, r, c, eq'⟩ := h'.ctl
    exact ⟨b, r, c, by rw [eq', eq]⟩
  stands w hw := h'.stands w (h.stands w hw)
  summary changed := by
    by_cases late : u.ctl.summaryWord = t.ctl.summaryWord
    · exact h'.stands _ (h.summary (late ▸ changed))
    · exact h'.summary late

/-- A word that a change of the control unit leaves as it is stays up to date. -/
theorem standing_modCtl {f : Control → Control} {w : StatusWord} (same : (f s.ctl).statusValue w = s.ctl.statusValue w)
    (h : s.standing w) : (s.modCtl f).standing w := by
  unfold State.standing at h ⊢
  rw [State.modCtl_ctl, same]
  exact h

/-- A word asked for is up to date. -/
theorem pushStatus_standing (s : State) (w : StatusWord) : (s.pushStatus w).standing w :=
  ⟨_, List.mem_append_right _ (List.mem_singleton_self _), rfl⟩

theorem pushStatus_requests (s : State) (w : StatusWord) : s.Requests (s.pushStatus w) where
  events := by
    have other : ∀ e : InjEntry, (e.isEvent && !e.isStatusOf w) = e.isEvent := fun ⟨_, _, body⟩ => by cases body <;> rfl
    have none : [InjEntry.mk s.port.nextStamp (s.controlBase + w.offset) (.status w (s.ctl.statusValue w))].filter
        InjEntry.isEvent = [] := rfl
    simp only [State.pushStatus, State.pushEntry, State.modPort_port, List.filter_append,
      List.filter_filter, other]
    exact (congrArg _ none).trans (List.append_nil _)
  ctl := ⟨_, _, _, rfl⟩
  stands x := fun ⟨e, he, body⟩ => by
    by_cases same : x = w
    · exact same ▸ s.pushStatus_standing w
    · refine ⟨e, List.mem_append_left _ (List.mem_filter.mpr ⟨he, ?_⟩), body⟩
      simp [InjEntry.isStatusOf, body, same]
  summary changed := absurd rfl changed

/-- Up to its COMMAND cause, a RESULT keeps every word but SUMMARY up to date (R192). -/
theorem putResult_standing {tag : BitVec 8} {code : ResultCode} {v : BitVec 16} {w : StatusWord} (other : w ≠ .summary)
    (h : s.standing w) : (((s.modCtl fun c => { c with result := resultWord tag code.number v }).pushStatus
      .result).modCtl fun c => { c with commandCause := true }).standing w := by
  cases w with
  | result => exact State.standing_modCtl rfl (State.pushStatus_standing _ .result)
  | summary => exact absurd rfl other
  | producer => exact State.standing_modCtl rfl ((State.pushStatus_requests _ _).stands _ (State.standing_modCtl rfl h))
  | counters => exact State.standing_modCtl rfl ((State.pushStatus_requests _ _).stands _ (State.standing_modCtl rfl h))

theorem putResult_requests (s : State) (tag : BitVec 8) (code : ResultCode) (v : BitVec 16) :
    s.Requests (s.putResult tag code v) := by
  have events := ((s.modCtl fun c => { c with result := resultWord tag code.number v }).pushStatus_requests .result).events
  unfold State.putResult
  dsimp only
  split
  · next cause =>
    have same : ({ s.ctl with result := resultWord tag code.number v, commandCause := true } : Control).summaryWord =
        s.ctl.summaryWord := by
      simp [Control.summaryWord, Control.eventsCause, cause]
    refine ⟨events, ⟨_, _, _, rfl⟩, fun w hw => ?_, fun changed => absurd same changed⟩
    by_cases summary : w = .summary
    · subst summary
      have first := State.standing_modCtl (f := fun c => { c with result := resultWord tag code.number v }) rfl hw
      exact State.standing_modCtl same ((State.pushStatus_requests _ .result).stands _ first)
    · exact State.putResult_standing summary hw
  · have last := State.pushStatus_requests (((s.modCtl fun c =>
      { c with result := resultWord tag code.number v }).pushStatus .result).modCtl fun c =>
        { c with commandCause := true }) .summary
    refine ⟨last.events.trans events, ⟨_, _, _, rfl⟩, fun w hw => ?_, fun _ => State.pushStatus_standing _ .summary⟩
    by_cases summary : w = .summary
    · subst summary
      exact State.pushStatus_standing _ .summary
    · exact last.stands w (State.putResult_standing summary hw)

theorem syncCheck_requests (s : State) : s.Requests s.syncCheck := by
  unfold State.syncCheck
  split
  · split
    · exact .refl
    · have cleared : s.Requests (s.modCtl fun c => { c with busy := none }) :=
        ⟨rfl, ⟨_, _, _, rfl⟩, fun w hw => State.standing_modCtl (by cases w <;> rfl) hw, fun changed => absurd rfl changed⟩
      exact cleared.trans (State.putResult_requests ..)
  · exact .refl

theorem requestStatus_requests (s : State) (w : StatusWord) : s.Requests (s.requestStatus w) :=
  (s.pushStatus_requests w).trans (State.syncCheck_requests _)

theorem requestStatus_standing (s : State) (w : StatusWord) : (s.requestStatus w).standing w :=
  (State.syncCheck_requests _).stands w (s.pushStatus_standing w)

/-- A change of the causes asks for SUMMARY at most (R200). -/
theorem modCauses_requests (s : State) (f : Control → Control) : (s.modCtl f).Requests (s.modCauses f) := by
  unfold State.modCauses State.noteCauses
  split
  · exact .refl
  · exact State.requestStatus_requests _ .summary

/-- A cause set that changes has its SUMMARY (R200). -/
theorem modCauses_summary (s : State) (f : Control → Control)
    (changed : (s.modCauses f).ctl.summaryWord ≠ s.ctl.summaryWord) : (s.modCauses f).standing .summary := by
  unfold State.modCauses State.noteCauses at changed ⊢
  split at changed
  · next same => exact absurd same changed
  · next other =>
    rw [if_neg other]
    exact State.requestStatus_standing _ .summary

/-- An up-to-date SUMMARY stays so through a change of the causes (R200). -/
theorem modCauses_standing_summary {s : State} (h : s.standing .summary) (f : Control → Control) :
    (s.modCauses f).standing .summary := by
  unfold State.modCauses State.noteCauses
  split
  · next same => exact State.standing_modCtl same h
  · exact State.requestStatus_standing _ .summary

end State

end Sys2Proof.Machine
end

section
namespace Sys2Proof.Machine

open Sys2Proof

/-! ## What an event's creation leaves (R200, R203, R205) -/

namespace State

variable {s t u : State}

/-- The ring has room exactly when it is enabled and an event would not be lost (R203). -/
theorem ringHasRoom_iff (s : State) : s.ringHasRoom ↔ s.ctl.ringCapacity ≠ 0 ∧ s.eventWouldBeLost = false := by
  simp only [State.ringHasRoom, State.eventWouldBeLost, Control.nextProducer, Bool.or_eq_false_iff, beq_eq_false_iff_ne,
    decide_eq_false_iff_not, Nat.not_le]
  rfl

/-- From `t` to `u` no event is created: the EVENT entries, the ring and the lost count stand, and the STATUS entries that are up to date stay so. -/
structure KeepsEvents (t u : State) : Prop where
  events : u.port.queue.filter InjEntry.isEvent = t.port.queue.filter InjEntry.isEvent
  serial : u.ctl.serial = t.ctl.serial
  producer : u.ctl.producer = t.ctl.producer
  lostCount : u.ctl.lostCount = t.ctl.lostCount
  lostCause : u.ctl.lostCause = t.ctl.lostCause
  eventsCause : u.ctl.eventsCause = t.ctl.eventsCause
  stands : ∀ w, t.standing w → u.standing w
  summary : u.ctl.summaryWord ≠ t.ctl.summaryWord → u.standing .summary

/-- An event created stays created through what creates none. -/
theorem createsEvent.keep {kind : EventKind} {index : BitVec 8} {v : BitVec 16} (h : s.createsEvent t kind index v)
    (keep : t.KeepsEvents u) : s.createsEvent u kind index v := by
  obtain ⟨serial, disabled, lost, delivered, summary⟩ := h
  refine ⟨keep.serial.trans serial, fun off => ?_, fun on full => ?_, fun room => ?_, fun changed => ?_⟩
  · obtain ⟨events, producer, count, cause⟩ := disabled off
    exact ⟨keep.events.trans events, keep.producer.trans producer, keep.lostCount.trans count,
      keep.lostCause.trans cause⟩
  · obtain ⟨events, producer, count, counters, cause⟩ := lost on full
    exact ⟨keep.events.trans events, keep.producer.trans producer, keep.lostCount.trans count,
      fun below => keep.stands .counters (counters below), keep.lostCause.trans cause⟩
  · obtain ⟨events, producer, cause, entry, count, lostCause⟩ := delivered room
    exact ⟨keep.events.trans events, keep.producer.trans producer, keep.eventsCause.trans cause,
      keep.stands .producer entry, keep.lostCount.trans count, keep.lostCause.trans lostCause⟩
  · by_cases same : u.ctl.summaryWord = t.ctl.summaryWord
    · exact keep.stands .summary (summary (same ▸ changed))
    · exact keep.summary same

/-- A lost event is counted, and LOST is set (R203, R205). -/
theorem loseEvent_spec (s : State) :
    s.loseEvent.port.queue.filter InjEntry.isEvent = s.port.queue.filter InjEntry.isEvent ∧
    s.loseEvent.ctl.serial = s.ctl.serial ∧ s.loseEvent.ctl.producer = s.ctl.producer ∧
    s.loseEvent.ctl.lostCount = (if s.ctl.lostCount < 65535 then s.ctl.lostCount + 1 else s.ctl.lostCount) ∧
    s.loseEvent.ctl.lostCause = true ∧ (s.ctl.lostCount < 65535 → s.loseEvent.standing .counters) ∧
    (s.loseEvent.ctl.summaryWord ≠ s.ctl.summaryWord → s.loseEvent.standing .summary) := by
  unfold State.loseEvent
  dsimp only
  split
  · next below =>
    have count := (s.modCtl fun c => { c with lostCount := c.lostCount + 1 }).requestStatus_requests .counters
    have counters := (s.modCtl fun c => { c with lostCount := c.lostCount + 1 }).requestStatus_standing .counters
    generalize (s.modCtl fun c => { c with lostCount := c.lostCount + 1 }).requestStatus .counters = t at count counters
    have cause := t.modCauses_requests fun c => { c with lostCause := true }
    obtain ⟨_, _, _, first⟩ := count.ctl
    obtain ⟨_, _, _, last⟩ := cause.ctl
    refine ⟨cause.events.trans count.events, by simp [last, first], by simp [last, first], by simp [last, first],
      by simp [last], fun _ => cause.stands _ (State.standing_modCtl rfl counters), fun changed => ?_⟩
    by_cases same : (t.modCauses fun c => { c with lostCause := true }).ctl.summaryWord = t.ctl.summaryWord
    · exact State.modCauses_standing_summary (count.summary (same ▸ changed)) _
    · exact t.modCauses_summary _ same
  · next limit =>
    have cause := s.modCauses_requests fun c => { c with lostCause := true }
    obtain ⟨_, _, _, last⟩ := cause.ctl
    exact ⟨cause.events, by simp [last], by simp [last], by simp [last], by simp [last], fun below => absurd below limit,
      s.modCauses_summary _⟩

/-- A delivered event stands at its slot behind the others, with PRODUCER, and with SUMMARY when EVENTS joins (R203). -/
theorem deliverEvent_spec (s : State) (room : s.ringHasRoom) (kind : EventKind) (index : BitVec 8) (v n : BitVec 16) :
    let t := s.deliverEvent kind index v n
    t.port.queue.filter InjEntry.isEvent = s.port.queue.filter InjEntry.isEvent ++
      [⟨s.port.nextStamp, s.ctl.slotAddr s.ctl.producer, .event (eventWord0 kind index n) (eventWord1 v s.ctl.time)⟩] ∧
    t.ctl.serial = s.ctl.serial ∧ t.ctl.producer = (s.ctl.producer + 1) % s.ctl.ringCapacity ∧
    t.ctl.lostCount = s.ctl.lostCount ∧ t.ctl.lostCause = s.ctl.lostCause ∧ t.ctl.eventsCause = true ∧
    t.standing .producer ∧ (t.ctl.summaryWord ≠ s.ctl.summaryWord → t.standing .summary) := by
  have advances : ({ s.ctl with producer := s.ctl.nextProducer } : Control).eventsCause = true := by
    obtain ⟨on, free, -⟩ := room
    simp [Control.eventsCause, Control.nextProducer, on, free]
  let m := (s.pushEntry (s.ctl.slotAddr s.ctl.producer) (.event (eventWord0 kind index n)
    (eventWord1 v s.ctl.time))).modCtl fun c => { c with producer := c.nextProducer }
  have pushed : m.port.queue.filter InjEntry.isEvent = s.port.queue.filter InjEntry.isEvent ++
      [⟨s.port.nextStamp, s.ctl.slotAddr s.ctl.producer,
        .event (eventWord0 kind index n) (eventWord1 v s.ctl.time)⟩] := List.filter_append ..
  have sent := m.requestStatus_requests .producer
  have entry := m.requestStatus_standing .producer
  obtain ⟨_, _, _, first⟩ := sent.ctl
  unfold State.deliverEvent
  dsimp only
  split
  · next cause =>
    have stays : m.ctl.eventsCause = s.ctl.eventsCause := advances.trans cause.symm
    have same : m.ctl.summaryWord = s.ctl.summaryWord := by
      simp only [Control.summaryWord, stays]
      rfl
    refine ⟨sent.events.trans pushed, ?_, ?_, ?_, ?_, ?_, entry, fun changed => sent.summary (same ▸ changed)⟩ <;>
      rw [first]
    exacts [rfl, rfl, rfl, rfl, advances]
  · have last := (m.requestStatus .producer).requestStatus_requests .summary
    obtain ⟨_, _, _, final⟩ := last.ctl
    refine ⟨last.events.trans (sent.events.trans pushed), ?_, ?_, ?_, ?_, ?_, last.stands _ entry,
      fun _ => State.requestStatus_standing _ .summary⟩ <;> rw [final, first]
    exacts [rfl, rfl, rfl, rfl, advances]

/-- Every event created meets its fate (R203, R205). -/
theorem createEvent_createsEvent (s : State) (kind : EventKind) (index : BitVec 8) (v : BitVec 16) :
    s.createsEvent (s.createEvent kind index v) kind index v := by
  unfold State.createEvent
  dsimp only
  split
  · next off =>
    exact ⟨rfl, fun _ => ⟨rfl, rfl, rfl, rfl⟩, fun on => absurd off on, fun room => absurd off room.1,
      fun changed => absurd rfl changed⟩
  · next on =>
    split
    · next lost =>
      have full : ¬ s.ringHasRoom := by simp [State.ringHasRoom_iff, lost]
      obtain ⟨events, serial, producer, count, cause, counters, summary⟩ :=
        (s.modCtl fun c => { c with serial := c.serial + 1#16 }).loseEvent_spec
      exact ⟨serial, fun off => absurd off on, fun _ _ => ⟨events, producer, count, counters, cause⟩,
        fun room => absurd room full, summary⟩
    · next kept =>
      have room : s.ringHasRoom := by simpa [State.ringHasRoom_iff, on] using kept
      obtain ⟨events, serial, producer, count, lostCause, cause, entry, summary⟩ :=
        (s.modCtl fun c => { c with serial := c.serial + 1#16 }).deliverEvent_spec room kind index v s.ctl.serial
      exact ⟨serial, fun off => absurd off on, fun _ full => absurd room full,
        fun _ => ⟨events, producer, cause, entry, count, lostCause⟩, summary⟩

end State

/-! ## Requests with bad parity (R7, R8) -/

theorem State.KeepsEvents.trans {s t u : State} (h : s.KeepsEvents t) (h' : t.KeepsEvents u) : s.KeepsEvents u where
  events := h'.events.trans h.events
  serial := h'.serial.trans h.serial
  producer := h'.producer.trans h.producer
  lostCount := h'.lostCount.trans h.lostCount
  lostCause := h'.lostCause.trans h.lostCause
  eventsCause := h'.eventsCause.trans h.eventsCause
  stands w hw := h'.stands w (h.stands w hw)
  summary changed := by
    by_cases late : u.ctl.summaryWord = t.ctl.summaryWord
    · exact h'.stands _ (h.summary (late ▸ changed))
    · exact h'.summary late

/-- A parity count that rises, with COUNTERS, creates no event (R7, R205). -/
theorem State.countParity_keepsEvents (s : State) :
    s.KeepsEvents ((s.modCtl fun c => { c with parityCount := c.parityCount + 1 }).requestStatus .counters) := by
  have asked := (s.modCtl fun c => { c with parityCount := c.parityCount + 1 }).requestStatus_requests .counters
  have counters := (s.modCtl fun c => { c with parityCount := c.parityCount + 1 }).requestStatus_standing .counters
  obtain ⟨_, _, _, eq⟩ := asked.ctl
  refine ⟨asked.events, (congrArg Control.serial eq :), (congrArg Control.producer eq :), (congrArg Control.lostCount eq :),
    (congrArg Control.lostCause eq :), (congrArg Control.eventsCause eq :), fun w hw => ?_, asked.summary⟩
  cases w with
  | counters => exact counters
  | result => exact asked.stands _ (State.standing_modCtl rfl hw)
  | summary => exact asked.stands _ (State.standing_modCtl rfl hw)
  | producer => exact asked.stands _ (State.standing_modCtl rfl hw)

/-- The PARITY cause, with SUMMARY, creates no event (R7, R200). -/
theorem State.causeParity_keepsEvents (s : State) :
    s.KeepsEvents (s.modCauses fun c => { c with parityCause := true }) := by
  have asked := s.modCauses_requests fun c => { c with parityCause := true }
  obtain ⟨_, _, _, eq⟩ := asked.ctl
  refine ⟨asked.events, (congrArg Control.serial eq :), (congrArg Control.producer eq :), (congrArg Control.lostCount eq :),
    (congrArg Control.lostCause eq :), (congrArg Control.eventsCause eq :), fun w hw => ?_, s.modCauses_summary _⟩
  cases w with
  | summary => exact State.modCauses_standing_summary hw _
  | result => exact asked.stands _ (State.standing_modCtl rfl hw)
  | producer => exact asked.stands _ (State.standing_modCtl rfl hw)
  | counters => exact asked.stands _ (State.standing_modCtl rfl hw)

/-- The cause set of a report holds PARITY (R7). -/
theorem State.causeParity_parityCause (s : State) :
    (s.modCauses fun c => { c with parityCause := true }).ctl.parityCause = true := by
  obtain ⟨_, _, _, eq⟩ := (s.modCauses_requests fun c => { c with parityCause := true }).ctl
  exact (congrArg Control.parityCause eq :)

/-- A report of bad parity creates its event, counts and sets PARITY (R7, R205). -/
theorem State.reportParity_spec (s : State) (addr : BitVec 24) :
    let t := s.reportParity addr
    t.ctl.parityCount = (if s.ctl.parityCount < 255 then s.ctl.parityCount + 1 else s.ctl.parityCount) ∧
    (s.ctl.parityCount < 255 → t.standing .counters) ∧ t.ctl.parityCause = true ∧
    s.createsEvent t .parityError (addr.extractLsb' 16 8) (addr.extractLsb' 0 16) := by
  have event := s.createEvent_createsEvent .parityError (addr.extractLsb' 16 8) (addr.extractLsb' 0 16)
  have same : (s.createEvent .parityError (addr.extractLsb' 16 8) (addr.extractLsb' 0 16)).ctl.parityCount =
      s.ctl.parityCount := by simp
  rw [State.reportParity_eq]
  generalize s.createEvent .parityError (addr.extractLsb' 16 8) (addr.extractLsb' 0 16) = t at event same
  dsimp only
  rw [← same]
  split
  · have counted := t.countParity_keepsEvents
    have counters := (t.modCtl fun c => { c with parityCount := c.parityCount + 1 }).requestStatus_standing .counters
    have caused := State.causeParity_keepsEvents
      ((t.modCtl fun c => { c with parityCount := c.parityCount + 1 }).requestStatus .counters)
    exact ⟨by simp, fun _ => caused.stands _ counters, State.causeParity_parityCause _,
      event.keep (counted.trans caused)⟩
  · next limit =>
    exact ⟨by simp, fun below => absurd below limit, State.causeParity_parityCause _,
      event.keep t.causeParity_keepsEvents⟩

/-- A report of bad parity leaves the ports as they are. -/
theorem State.reportParity_sameLines (s : State) (addr : BitVec 24) : s.port.SameLines (s.reportParity addr).port := by
  rw [State.reportParity_eq]
  split <;> exact {}

/-- A report of bad parity changes the image port and the control unit alone. -/
theorem State.reportParity_frame (s : State) (addr : BitVec 24) :
    s.reportParity addr = { s with port := (s.reportParity addr).port, ctl := (s.reportParity addr).ctl } := by
  rw [State.reportParity_eq]
  split <;> exact State.eq_of_port_ctl

/-- A dropped request's beat, by its kind (R7). -/
theorem ImagePort.dropBeat_eq {p : ImagePort} {q : PortRequest} (req : p.req = some q) (dropped : q.dropped = true) :
    p.dropBeat = if q.kind = .write then p.dropWriteBeat q else p.dropReadBeat q := by
  cases kind : q.kind <;> simp [ImagePort.dropBeat, req, dropped, kind]

/-- Settles O6: the report's parts are the event, the count and the cause, and a dropped beat moves the dropped request alone. -/
theorem badParityIsDroppedAndReported : Obligations.BadParityIsDroppedAndReported := by
  refine ⟨fun kind addr len par s run free odd => ?_, fun m s run alert => ?_, fun q s run req dropped =>
    ⟨fun more => ?_, fun last none => ?_, fun rest last write owed => ?_⟩⟩
  · have bad := exec_pportRequest run kind addr len par
    rw [State.arriveRequest_bad free odd] at bad
    obtain ⟨count, counters, cause, event⟩ :=
      ((s.modPort fun p => p.hold kind addr len par true).alert).reportParity_spec addr
    obtain ⟨req, -, -, holder, members, alertEnd, toProcessor, toMemory⟩ :=
      ((s.modPort fun p => p.hold kind addr len par true).alert).reportParity_sameLines addr
    have claimant : (((s.modPort fun p => p.hold kind addr len par true).alert).reportParity addr).port.claimant =
        none := by
      rw [ImagePort.claimant, req]
      rfl
    have alert : (((s.modPort fun p => p.hold kind addr len par true).alert).reportParity addr).alertLow = true := by
      rw [State.alertLow, alertEnd]
      rfl
    exact ⟨_, bad, req, claimant, alertEnd, alert, members, holder, toMemory, toProcessor, count, counters, cause, event,
      State.reportParity_frame _ addr⟩
  · simp [exec_alertTimeout run, State.endAlert, alert, State.reach, State.modPort]
  · rw [exec_droppedRequestBeat run, State.modPort, ImagePort.dropBeat_eq req dropped]
    cases kind : q.kind <;>
      simp [ImagePort.dropWriteBeat, ImagePort.dropReadBeat, PortRequest.atLast, more, allOnes, kind]
  · rw [exec_droppedRequestBeat run, State.modPort, ImagePort.dropBeat_eq req dropped]
    cases kind : q.kind <;>
      simp [ImagePort.dropWriteBeat, ImagePort.dropReadBeat, ImagePort.flushDropped, PortRequest.atLast, last, none, allOnes]
  · rw [exec_droppedRequestBeat run, State.modPort, ImagePort.dropBeat_eq req dropped]
    simp [write, ImagePort.dropWriteBeat, ImagePort.flushDropped, PortRequest.atLast, last, owed]

end Sys2Proof.Machine
end

section
namespace Sys2Proof.Machine

open Sys2Proof

/-! ## The power-on values, part by part (R3) -/

section values

theorem State.powerOn_strip (i : StripId) : State.powerOn.strip i = Strip.powerOn := by
  simp [State.strip, State.powerOn]

theorem State.powerOn_rail (g : GroupId) : State.powerOn.rail g = .off := by
  simp [State.rail, State.powerOn, DriveSup.powerOn]

theorem State.powerOn_layerEntry (n : LayerId) (i : StripId) : State.powerOn.layerEntry n i = none := by
  simp [State.layerEntry, State.powerOn, LayerCtl.powerOn]

theorem State.powerOn_meterRec (k : MeterId) : State.powerOn.meterRec k = MeterRec.powerOn := by
  simp [State.meterRec, State.powerOn, MeterEngine.powerOn]

/-- A parameter stands at its place in Table 11.2. -/
theorem Param.ofIndex_index (p : Param) : Param.ofIndex p.index = p := by
  cases p <;> rfl

theorem State.powerOn_param (p : Param) : State.powerOn.param p = p.spec.default := by
  simp [State.param, State.powerOn, Control.powerOn, Param.ofIndex_index]

/-- A breakpoint's staging word carries its travel and its level (Table 11.4). -/
theorem Breakpoint.word_halves (b : Breakpoint) (travel : b.travel < 65536) (low : -32768 ≤ b.level)
    (high : b.level < 32768) :
    (b.word.extractLsb' 0 16).toNat = b.travel ∧ (b.word.extractLsb' 16 16).toInt = b.level := by
  have lower : b.word.extractLsb' 0 16 = BitVec.ofNat 16 b.travel := BitVec.extractLsb'_append_eq_right
  have upper : b.word.extractLsb' 16 16 = BitVec.ofInt 16 b.level := BitVec.extractLsb'_append_eq_left
  rw [lower, upper, BitVec.toNat_ofNat, BitVec.toInt_ofInt]
  exact ⟨Nat.mod_eq_of_lt travel, by simp [Int.bmod]; omega⟩

/-- The staged taper table is the active one (R43). -/
theorem TaperUnit.powerOn_staged (k : Fin 17) :
    (TaperUnit.powerOn.staged[k.val].extractLsb' 0 16).toNat = TaperUnit.powerOn.active[k.val].travel ∧
    (TaperUnit.powerOn.staged[k.val].extractLsb' 16 16).toInt = TaperUnit.powerOn.active[k.val].level := by
  have bounds : ∀ k : Fin 17, Taper.powerOn[k.val].travel < 65536 ∧ -32768 ≤ Taper.powerOn[k.val].level ∧
      Taper.powerOn[k.val].level < 32768 := by decide
  obtain ⟨travel, low, high⟩ := bounds k
  simpa [TaperUnit.powerOn] using Breakpoint.word_halves _ travel low high

/-- The default scale, in the active setup and staged (R182). -/
theorem MeterEngine.powerOn_scale (k : Fin 48) :
    MeterEngine.powerOn.active.scale[k.val] = -960 + 20 * (k.val : Int) ∧
    MeterEngine.powerOn.stagedScale[k.val].toInt = -960 + 20 * (k.val : Int) := by
  have level : MeterSetup.powerOn.scale[k.val] = -960 + 20 * (k.val : Int) := by simp [MeterSetup.powerOn]
  refine ⟨level, ?_⟩
  have staged : MeterEngine.powerOn.stagedScale[k.val] = BitVec.ofInt 32 MeterSetup.powerOn.scale[k.val] := by
    simp [MeterEngine.powerOn]
  rw [staged, level, BitVec.toInt_ofInt]
  simp [Int.bmod]
  omega

/-- The staged profiles are the active ones (R182). -/
theorem MeterEngine.powerOn_stagedProfiles :
    MeterEngine.powerOn.stagedProfiles.toList.map BitVec.toInt = [64, 22, 150, -16, 3, 200, 256, 40, 100, -16, 1, 200,
      16, 10, 200, -16, 3, 200, 64, 22, 150, -16, 3, 200] := by
  decide

/-- Every status word reads 0 (R188). -/
theorem Control.powerOn_statusValue (w : StatusWord) : Control.powerOn.statusValue w = 0#32 := by
  cases w <;> decide

end values

/-! ## The release of PORESET_N (R87, R103) -/

/-- A strip as the release leaves it: its PRESS timer runs when its input reads pressed (R103). -/
def State.released (s : State) (p : Strip) : Strip :=
  if p.rawTouch then { p with debounce := some ⟨true, s.clock + s.param .pressDebounce * 4000⟩ } else p

/-- A release done twice is done once. -/
theorem State.released_released (s : State) (p : Strip) : s.released (s.released p) = s.released p := by
  cases pressed : p.rawTouch <;> simp [State.released, pressed]

/-- A pressed input starts its strip's PRESS timer; nothing else changes (R103). -/
theorem State.pressAtRelease_spec (s : State) (i : StripId) :
    (∀ j, (s.pressAtRelease i).strip j = if j = i then s.released (s.strip j) else s.strip j) ∧
    s.pressAtRelease i = { s with strips := (s.pressAtRelease i).strips } := by
  unfold State.pressAtRelease
  split
  · next pressed =>
    refine ⟨fun j => ?_, rfl⟩
    by_cases same : j = i
    · subst same
      have runs : s.released (s.strip j) = _ := if_pos pressed
      rw [if_pos rfl, runs]
      exact State.strip_modStrip_self ..
    · rw [State.startDebounce, State.strip_modStrip_ne _ same, if_neg same]
  · next free =>
    refine ⟨fun j => ?_, rfl⟩
    split
    · next same => exact (if_neg (same ▸ free)).symm
    · rfl

/-- Each pressed input of some strips starts its PRESS timer; nothing else changes (R103). -/
theorem State.forStrips_pressAtRelease (l : List StripId) (s : State) :
    (∀ j, (s.forStrips l State.pressAtRelease).strip j = if j ∈ l then s.released (s.strip j) else s.strip j) ∧
    s.forStrips l State.pressAtRelease = { s with strips := (s.forStrips l State.pressAtRelease).strips } := by
  induction l generalizing s with
  | nil => exact ⟨fun j => (if_neg List.not_mem_nil).symm, rfl⟩
  | cons i l ih =>
    obtain ⟨first, frame⟩ := s.pressAtRelease_spec i
    obtain ⟨rest, frame'⟩ := ih (s.pressAtRelease i)
    have step : s.forStrips (i :: l) State.pressAtRelease = (s.pressAtRelease i).forStrips l State.pressAtRelease := rfl
    have released : ∀ p, (s.pressAtRelease i).released p = s.released p := by rw [frame]; exact fun _ => rfl
    refine ⟨fun j => ?_, ?_⟩
    · rw [step, rest, first, released]
      by_cases here : j = i <;> by_cases later : j ∈ l <;> simp [here, later, State.released_released]
    · rw [step]
      exact frame'.trans (by rw [frame])

/-- PORESET_N rises: the timers start (R103, R154, R172, R190). -/
theorem State.riseReset_spec (s : State) :
    (∀ i, s.riseReset.strip i = s.released (s.strip i)) ∧
    s.riseReset = { s with
      inReset := false, sliceDue := s.clock + 125 * 4000
      meter := { s.meter with frameDue := s.clock + s.param .framePeriod * 4000 }
      ctl := { s.ctl with nextTick := s.clock + 4000 }, strips := s.riseReset.strips } := by
  let t := { s with inReset := false, sliceDue := s.clock + 125 * Config.ms }
  obtain ⟨strips, frame⟩ := State.forStrips_pressAtRelease allStrips
    ((t.modMeter fun e => { e with frameDue := s.clock + s.param .framePeriod * Config.ms }).modCtl
      fun c => { c with nextTick := s.clock + 1 * Config.ms })
  exact ⟨fun i => (strips i).trans (if_pos (List.mem_finRange i)), frame⟩

/-- Settles O4: each block's power-on record is read off, and the release starts the timers. -/
theorem resetSetsPowerOnValuesAndStartsTimers : Obligations.ResetSetsPowerOnValuesAndStartsTimers := by
  refine ⟨fun s => ⟨s.fallReset, rfl, rfl, rfl, rfl, ⟨rfl, rfl, rfl, rfl, rfl, rfl, rfl, rfl⟩, fun k => ?_, fun n => ?_,
    fun c => ?_, ⟨rfl, TaperUnit.powerOn_staged, rfl, rfl, rfl⟩, fun i => ?_, State.powerOn_layerEntry, rfl, fun k => ?_,
    State.powerOn_rail, rfl, rfl, fun g => ?_, rfl, State.powerOn_meterRec, rfl, fun k => ?_, MeterEngine.powerOn_scale,
    MeterEngine.powerOn_stagedProfiles, fun k => ?_, rfl, rfl, fun w => ?_, rfl, rfl, rfl, rfl, rfl, rfl, rfl, rfl, rfl, rfl,
    rfl, State.powerOn_param, rfl⟩, fun s reset => ?_⟩
  · exact Vector.getElem_replicate _
  · exact congrArg Window.kind (Vector.getElem_replicate _)
  · exact Vector.getElem_replicate _
  · exact Vector.getElem_map ..
  · exact Vector.getElem_replicate _
  · exact Vector.getElem_replicate _
  · exact Vector.getElem_replicate _
  · exact Vector.getElem_replicate _
  · exact Control.powerOn_statusValue w
  · obtain ⟨strips, frame⟩ := s.riseReset_spec
    have inReset := congrArg State.inReset frame
    have ctl := congrArg State.ctl frame
    have slices := congrArg State.sliceDue frame
    have meter := congrArg State.meter frame
    have rises : exec .poresetRelease s = .next s.riseReset := by
      simp only [exec, execPoresetRelease, if_pos reset]
    refine ⟨s.riseReset, rises, inReset, ctl, slices, meter, strips, ?_⟩
    rw [inReset, ctl, slices, meter]
    exact frame

end Sys2Proof.Machine
end

section
namespace Sys2Proof.Machine

open Sys2Proof

/-! ## The laws of the state after reset -/

/-- The state after reset is the power-on state released: no touch input is pressed (R87, R103). -/
theorem State.powerOn_released : exec .poresetRelease State.powerOn = .next State.reset := by
  have rises : exec .poresetRelease State.powerOn = .next State.powerOn.riseReset := rfl
  have period : State.powerOn.param .framePeriod = 10 := State.powerOn_param .framePeriod
  obtain ⟨strips, frame⟩ := State.powerOn.riseReset_spec
  have free : ∀ i, State.powerOn.released (State.powerOn.strip i) = State.powerOn.strip i := fun i => by
    rw [State.powerOn_strip]
    rfl
  have same : State.powerOn.riseReset.strips = State.powerOn.strips :=
    Vector.ext fun k hk => (strips ⟨k, hk⟩).trans (free ⟨k, hk⟩)
  rw [rises, frame, same, period]
  rfl

theorem State.reset_strip (i : StripId) : State.reset.strip i = Strip.powerOn := State.powerOn_strip i

theorem State.reset_rail (g : GroupId) : State.reset.rail g = .off := State.powerOn_rail g

/-- Every default lies in its range (Table 11.2). -/
theorem Param.default_inRange (p : Param) : p.spec.low ≤ p.spec.default ∧ p.spec.default ≤ p.spec.high := by
  cases p <;> decide

theorem State.reset_paramsInRange : State.reset.paramsInRange := by
  intro k
  have default : State.reset.ctl.params[k.val] = (Param.ofIndex k).spec.default := Vector.getElem_ofFn ..
  rw [default]
  exact Param.default_inRange _

/-- The table of Table 3.1 rises from bottom to top (R42). -/
theorem Taper.powerOn_rises : Taper.powerOn.wellFormed := by
  unfold Taper.wellFormed
  decide

theorem Strip.powerOn_inRange : Strip.powerOn.inRange :=
  ⟨by decide, by decide, by decide, nofun, by decide, by decide, by decide⟩

theorem Strip.powerOn_coherent : Strip.powerOn.coherent := by
  unfold Strip.coherent
  decide

theorem State.reset_motionSafe : State.reset.motionSafe := by
  refine ⟨fun i => ?_, ⟨.nil, fun i => ?_, nofun⟩, fun i driven => ?_, fun i queued => ?_, fun g idle on => ?_⟩
  · rw [State.reset_strip]
    exact Strip.powerOn_coherent
  · rw [State.reset_strip]
    exact ⟨nofun, nofun⟩
  · rw [State.reset_strip] at driven
    exact absurd driven (by decide)
  · rw [State.reset_strip] at queued
    exact absurd queued (by decide)
  · rw [State.reset_rail] at on
    exact absurd on nofun

theorem State.reset_layersSafe : State.reset.layersSafe := by
  refine ⟨fun i j c shown => ?_, fun i isolated => ?_, fun i conflict => ?_, fun n i j c entry => ?_⟩
  · rw [State.reset_strip] at shown
    exact absurd shown nofun
  · rw [State.reset_strip]
    exact ⟨rfl, rfl⟩
  · rw [State.reset_strip]
    exact ⟨rfl, rfl⟩
  · exact absurd ((State.powerOn_layerEntry n i).symm.trans entry) nofun

theorem State.reset_limitsKept : State.reset.port.limitsKept :=
  ⟨Nat.zero_le _, Nat.zero_le _, Nat.zero_le _, .nil, .nil, nofun, Nat.zero_le _, fun _ => rfl⟩

theorem State.reset_conversionsSafe : State.reset.conversionsSafe :=
  ⟨⟨Nat.zero_le _, .nil, .nil, ⟨fun _ => rfl, fun _ => rfl⟩, fun h => absurd rfl h⟩, Nat.zero_le _⟩

theorem State.reset_levelsSafe : State.reset.meter.levelsSafe := by
  refine ⟨fun k => ?_, ?_, nofun⟩
  · have silent : State.reset.meter.recs[k.val] = MeterRec.powerOn := State.powerOn_meterRec k
    rw [silent]
    decide
  · unfold MeterSetup.attacksInRange
    decide

/-- Settles O60: each law holds of the power-on values. -/
theorem resetIsSafe : Obligations.ResetIsSafe := by
  refine ⟨State.powerOn_released, State.reset_paramsInRange, .inl ⟨rfl, rfl, rfl⟩, ⟨Taper.powerOn_rises, nofun⟩, fun i => ?_,
    State.reset_motionSafe, State.reset_layersSafe, State.reset_limitsKept, State.reset_conversionsSafe,
    State.reset_levelsSafe, nofun, nofun⟩
  rw [State.reset_strip]
  exact Strip.powerOn_inRange

end Sys2Proof.Machine
end

section
namespace Sys2Proof.Machine

open Sys2Proof

/-! ## Staging words (R26, R43, R122, R182, R188) -/

/-- A staged copy that begins at an offset of the control area has taken a word: the word stands at its place, if the copy has it, and the rest is as
before (Table 11.1). -/
def stagedAt (start : Nat) {n : Nat} (v v' : Vector Word n) (o : Nat) (w : Word) : Prop :=
  ∀ k : Fin n, v'[k.val] = if o = start + k.val then w else v[k.val]

/-- A word within a copy is taken at its place. -/
theorem stagedAt_set {start n o : Nat} (v : Vector Word n) (w : Word) (inside : start ≤ o ∧ o < start + n := by omega) :
    stagedAt start v (v.set (o - start) w (by omega)) o w := by
  intro k
  rw [Vector.getElem_set]
  exact if_congr (by omega) rfl rfl

/-- A word outside a copy leaves it alone. -/
theorem stagedAt_self {start n o : Nat} (v : Vector Word n) (w : Word)
    (outside : ¬ (start ≤ o ∧ o < start + n) := by omega) : stagedAt start v v o w := by
  intro k
  exact (if_neg (by omega)).symm

/-- A word without a row of its own is handed to the staged copies (R188). -/
theorem State.controlWrite_staging (s : State) {o : Nat} (w : Word) (staging : hasOwnRow o = false) :
    s.controlWrite o w = s.stage o w := by
  simp only [hasOwnRow, Bool.or_eq_false_iff, Bool.and_eq_false_iff, decide_eq_false_iff_not] at staging
  obtain ⟨⟨⟨⟨command, ack⟩, consumer⟩, param⟩, settings⟩ := staging
  unfold State.controlWrite
  rw [if_neg command, if_neg (by omega), if_neg (by omega), if_neg (by omega), if_neg (by omega), if_neg consumer,
    dif_neg (by omega), dif_neg (by omega)]

/-- A staged word is kept in its block's copy, and nothing else changes (R26, R43, R122, R182). -/
theorem State.stage_spec (s : State) (o : Nat) (w : Word) :
    let t := s.stage o w
    stagedAt 0x040 s.windows.staged t.windows.staged o w ∧ stagedAt 0x080 s.layers.staged t.layers.staged o w ∧
    stagedAt 0x0A0 s.taper.staged t.taper.staged o w ∧
    stagedAt 0x180 s.meter.stagedProfiles t.meter.stagedProfiles o w ∧
    stagedAt 0x198 s.meter.stagedMap t.meter.stagedMap o w ∧ stagedAt 0x1A0 s.meter.stagedScale t.meter.stagedScale o w ∧
    t = { s with
      windows := { s.windows with staged := t.windows.staged }
      layers := { s.layers with staged := t.layers.staged }
      taper := { s.taper with staged := t.taper.staged }
      meter := { s.meter with
        stagedProfiles := t.meter.stagedProfiles, stagedMap := t.meter.stagedMap
        stagedScale := t.meter.stagedScale } } := by
  unfold State.stage
  split
  · exact ⟨stagedAt_set _ w, stagedAt_self _ w, stagedAt_self _ w, stagedAt_self _ w, stagedAt_self _ w, stagedAt_self _ w, rfl⟩
  split
  · exact ⟨stagedAt_self _ w, stagedAt_set _ w, stagedAt_self _ w, stagedAt_self _ w, stagedAt_self _ w, stagedAt_self _ w, rfl⟩
  split
  · exact ⟨stagedAt_self _ w, stagedAt_self _ w, stagedAt_set _ w, stagedAt_self _ w, stagedAt_self _ w, stagedAt_self _ w, rfl⟩
  split
  · exact ⟨stagedAt_self _ w, stagedAt_self _ w, stagedAt_self _ w, stagedAt_set _ w, stagedAt_self _ w, stagedAt_self _ w, rfl⟩
  split
  · exact ⟨stagedAt_self _ w, stagedAt_self _ w, stagedAt_self _ w, stagedAt_self _ w, stagedAt_set _ w, stagedAt_self _ w, rfl⟩
  split
  · exact ⟨stagedAt_self _ w, stagedAt_self _ w, stagedAt_self _ w, stagedAt_self _ w, stagedAt_self _ w, stagedAt_set _ w, rfl⟩
  · exact ⟨stagedAt_self _ w, stagedAt_self _ w, stagedAt_self _ w, stagedAt_self _ w, stagedAt_self _ w, stagedAt_self _ w, rfl⟩

/-- Settles O19: a word without a row of its own goes to `State.stage`, whose copies are disjoint stretches of offsets. -/
theorem stagingWritesAreKept : Obligations.StagingWritesAreKept := by
  intro o w s run staging
  rw [exec_controlAreaWrite run, s.controlWrite_staging w staging]
  exact ⟨_, rfl, s.stage_spec o.toNat w⟩

end Sys2Proof.Machine
end

section
namespace Sys2Proof.Machine

open Sys2Proof

/-! ## The entries other than STATUS (R11, R14) -/

/-- Whether an entry is a STATUS. -/
def InjEntry.isStatus (e : InjEntry) : Bool :=
  match e.body with
  | .status _ _ => true
  | _ => false

/-- The unissued entries other than STATUS, in queue order. -/
def ImagePort.others (p : ImagePort) : List InjEntry := p.queue.filter fun e => !e.isStatus

theorem ImagePort.mem_others {p : ImagePort} {e : InjEntry} : e ∈ p.others ↔ e ∈ p.queue ∧ e.isStatus = false := by
  simp [ImagePort.others]

/-- Kinds but STATUS are counted among the other entries. -/
theorem ImagePort.countP_others (p : ImagePort) {f : InjEntry → Bool} (kind : ∀ e, f e = true → e.isStatus = false) :
    p.queue.countP f = p.others.countP f := by
  rw [ImagePort.others, List.countP_filter]
  refine List.countP_congr fun e _ => ?_
  by_cases h : f e = true
  · simp [h, kind e h]
  · simp [h]

theorem InjEntry.isStatus_of_isPosition {e : InjEntry} (h : e.isPosition = true) : e.isStatus = false := by
  obtain ⟨_, _, body⟩ := e
  cases body <;> simp_all [InjEntry.isPosition, InjEntry.isStatus]

theorem InjEntry.isStatus_of_isFetch {e : InjEntry} (h : e.isFetch = true) : e.isStatus = false := by
  obtain ⟨_, _, body⟩ := e
  cases body <;> simp_all [InjEntry.isFetch, InjEntry.isStatus]

theorem InjEntry.isStatus_of_isEvent {e : InjEntry} (h : e.isEvent = true) : e.isStatus = false := by
  obtain ⟨_, _, body⟩ := e
  cases body <;> simp_all [InjEntry.isEvent, InjEntry.isStatus]

namespace State

variable (s : State)

/-- An entry of another kind joins behind the others (R11). -/
theorem pushEntry_others {addr : Nat} {body : InjBody} (kind : (InjEntry.mk s.port.nextStamp addr body).isStatus = false) :
    (s.pushEntry addr body).port.others = s.port.others ++ [⟨s.port.nextStamp, addr, body⟩] := by
  simp [ImagePort.others, State.pushEntry, kind]

theorem pushStatus_others (w : StatusWord) : (s.pushStatus w).port.others = s.port.others := by
  have none : ∀ e : InjEntry, (!e.isStatus && !e.isStatusOf w) = !e.isStatus := fun ⟨_, _, body⟩ => by
    cases body <;> rfl
  have new : (InjEntry.mk s.port.nextStamp (s.controlBase + w.offset) (.status w (s.ctl.statusValue w))).isStatus = true := rfl
  simp only [State.pushStatus, State.pushEntry, State.modPort_port, ImagePort.others, List.filter_append, List.filter_filter,
    none]
  exact List.append_nil _

theorem putResult_others (tag : BitVec 8) (code : ResultCode) (v : BitVec 16) :
    (s.putResult tag code v).port.others = s.port.others := by
  have first := (s.modCtl fun c => { c with result := resultWord tag code.number v }).pushStatus_others .result
  unfold State.putResult
  dsimp only
  split
  · exact first
  · exact (State.pushStatus_others _ .summary).trans first

theorem syncCheck_others : s.syncCheck.port.others = s.port.others := by
  unfold State.syncCheck
  split
  · split
    · rfl
    · exact (s.modCtl _).putResult_others ..
  · rfl

theorem requestStatus_others (w : StatusWord) : (s.requestStatus w).port.others = s.port.others :=
  (State.syncCheck_others _).trans (s.pushStatus_others w)

theorem writeResult_others (tag : BitVec 8) (code : ResultCode) (v : BitVec 16) :
    (s.writeResult tag code v).port.others = s.port.others :=
  (State.syncCheck_others _).trans (s.putResult_others tag code v)

theorem modCauses_others (f : Control → Control) : (s.modCauses f).port.others = s.port.others := by
  unfold State.modCauses State.noteCauses
  split
  · rfl
  · exact (s.modCtl f).requestStatus_others .summary

theorem keepEntries_others (f : InjEntry → Bool) : (s.keepEntries f).port.others = s.port.others.filter f := by
  refine (State.syncCheck_others _).trans ?_
  simp only [ImagePort.others, State.modPort_port, List.filter_filter, Bool.and_comm]

theorem loseEvent_others : s.loseEvent.port.others = s.port.others := by
  unfold State.loseEvent
  dsimp only
  split
  · exact (State.modCauses_others _ _).trans ((s.modCtl _).requestStatus_others .counters)
  · exact s.modCauses_others _

theorem deliverEvent_others (kind : EventKind) (index : BitVec 8) (v n : BitVec 16) :
    (s.deliverEvent kind index v n).port.others = s.port.others ++
      [⟨s.port.nextStamp, s.ctl.slotAddr s.ctl.producer, .event (eventWord0 kind index n) (eventWord1 v s.ctl.time)⟩] := by
  have pushed := s.pushEntry_others (addr := s.ctl.slotAddr s.ctl.producer)
    (body := .event (eventWord0 kind index n) (eventWord1 v s.ctl.time)) rfl
  have producer := (State.requestStatus_others ((s.pushEntry (s.ctl.slotAddr s.ctl.producer)
    (.event (eventWord0 kind index n) (eventWord1 v s.ctl.time))).modCtl fun c => { c with producer := c.nextProducer })
    .producer).trans pushed
  unfold State.deliverEvent
  dsimp only
  split
  · exact producer
  · exact (State.requestStatus_others _ .summary).trans producer

/-- An event created is an EVENT entry behind the others, or none (R203). -/
theorem createEvent_others (kind : EventKind) (index : BitVec 8) (v : BitVec 16) :
    ∃ new, (s.createEvent kind index v).port.others = s.port.others ++ new ∧ ∀ e ∈ new, e.isEvent = true := by
  unfold State.createEvent
  dsimp only
  split
  · exact ⟨[], (List.append_nil _).symm, nofun⟩
  · split
    · exact ⟨[], ((s.modCtl _).loseEvent_others).trans (List.append_nil _).symm, nofun⟩
    · exact ⟨_, (s.modCtl _).deliverEvent_others .., by simp [InjEntry.isEvent]⟩

end State

end Sys2Proof.Machine
end

section
namespace Sys2Proof.Machine

open Sys2Proof

/-! ## Fader beats and their hand-off (R12, R27, R28, R33 to R35, R68 to R71) -/

/-- A fader word's channel has a home: the window that serves the word serves the channel (R9, R28). -/
theorem State.home_of_fader {s : State} {addr : Nat} {c : ChanId} {order : WordOrder}
    (fader : s.decodeBeat addr = .fader c order) : ∃ a o, s.home c = some (a, o) := by
  unfold State.decodeBeat at fader
  split at fader
  · cases fader
  split at fader
  · cases fader
  split at fader
  · next w found =>
    have inside := List.find?_some found
    have serves : w.serves c = true := by
      simp only [Window.covers, Bool.and_eq_true, decide_eq_true_eq] at inside
      unfold Window.classify at fader
      dsimp only at fader
      split at fader
      · cases fader
      · next kind =>
        split at fader
        · cases fader
          simp [Window.serves, kind]
          omega
        · cases fader
      · split at fader <;> cases fader
    have found : (s.windows.active.toList.find? fun w => w.serves c).isSome :=
      List.find?_isSome.mpr ⟨w, List.mem_of_find?_eq_some found, serves⟩
    obtain ⟨v, hv⟩ := Option.isSome_iff_exists.mp found
    exact ⟨_, _, by simp only [State.home, homeIn, hv]; rfl⟩
  · cases fader

/-- The strips treated by conversion are those that take processor codes so (R68). -/
theorem Strip.treatment_eq_conversion {p : Strip} : p.treatment = .conversion ↔ p.converts := by
  refine ⟨fun treated => ?_, Strip.treatment_of_converts⟩
  unfold Strip.treatment at treated
  unfold Strip.converts
  cases mode : p.mode <;> cases touched : p.touched <;> cases latch : p.latch <;>
    simp_all [Mode.motorised]

/-- The strips that answer a processor code by image restore (R68). -/
theorem Strip.treatment_of_restores {p : Strip} (restores : p.restores) : p.treatment = .restore := by
  unfold Strip.treatment
  obtain write | ⟨touched, touch | latch⟩ | ⟨mode, latch⟩ := restores <;> simp_all

/-- A POSITION that finds its place stands at the channel's home with its code (R12). -/
theorem State.requestPosition_stands {s : State} {c : ChanId} {code : Code} {a : Nat} {o : WordOrder}
    (home : s.home c = some (a, o)) (room : s.port.queue.countP InjEntry.isPosition < 32) :
    ∃ x ∈ (s.requestPosition c code).port.queue, x.addr = a ∧ x.body = .position c code o := by
  unfold State.requestPosition
  simp only [home]
  split
  · next stands =>
    obtain ⟨x, mem, same⟩ := List.any_eq_true.mp stands
    exact ⟨_, List.mem_map_of_mem mem, by simp [InjEntry.replaceCode, same]⟩
  · rw [if_pos (show _ < Config.positionLimit from room)]
    exact ⟨_, List.mem_append_right _ (List.mem_singleton_self _), rfl, rfl⟩

/-- What the hand-off of a code does, by the strip that shows the channel (R34, R68 to R71). -/
theorem State.handOff_cases (s : State) (c : ChanId) (code : Code) :
    let t := s.handOff c code
    (s.shownBy c = none → t.taper = s.taper) ∧
    (∀ i, s.shownBy c = some i → (s.strip i).converts → (s.canConvert c = true →
      t.taper.carries c code (s.chan c).seq)) ∧
    (∀ i, s.shownBy c = some i → ¬ (s.strip i).converts → t.taper = s.taper) ∧
    (∀ i op, s.shownBy c = some i → (s.strip i).restores → (s.strip i).opCode = some op →
      t = s.requestPosition c op) := by
  refine ⟨fun alone => ?_, fun i shown converts place => ?_, fun i shown other => ?_, fun i op shown restores hand => ?_⟩
  · simp only [State.handOff, alone]
  · simp only [State.handOff, shown, Strip.treatment_of_converts converts]
    split
    · next made => exact .inl (State.convert_carries made)
    · next full =>
      obtain ⟨lacks, noSlot⟩ := State.convert_none full
      have key : (ConvWork.levelToTravel c code (s.chan c).seq).key = .level c := rfl
      simp only [key] at lacks
      have waits : s.taper.hasWaiter (.level c) = true := by
        simpa [State.canConvert, lacks, Config.conversionLimit, Nat.not_lt.mpr noSlot] using place
      exact .inr waits
  · have treatment := mt Strip.treatment_eq_conversion.mp other
    simp only [State.handOff, shown]
    split
    · rfl
    · next conversion => exact absurd conversion treatment
    · split <;> simp
  · simp only [State.handOff, shown, Strip.treatment_of_restores restores, hand]

/-- Two states that agree outside the image port, the channel table, the taper unit and the control unit. -/
theorem State.eq_of_port_chans_taper_ctl {s t : State} (pending : t.pending = s.pending := by simp)
    (clock : t.clock = s.clock := by simp) (inReset : t.inReset = s.inReset := by simp)
    (strap : t.strap = s.strap := by simp) (windows : t.windows = s.windows := by simp)
    (strips : t.strips = s.strips := by simp) (layers : t.layers = s.layers := by simp)
    (drive : t.drive = s.drive := by simp) (sliceDue : t.sliceDue = s.sliceDue := by simp)
    (meter : t.meter = s.meter := by simp) :
    t = { s with port := t.port, chans := t.chans, taper := t.taper, ctl := t.ctl } := by
  cases t
  simp_all

/-- What a full level code for a channel does from `s` to `t` (R33, R34, R68 to R71): its record takes the code, and the strip that shows it gets a conversion,
an image restore at the channel's home, or nothing. -/
structure State.TakesCode (s t : State) (c : ChanId) (code : Code) : Prop where
  record : t.chan c = (s.chan c).take code
  others : ∀ d, d ≠ c → t.chan d = s.chan d
  unshown : s.shownBy c = none → t.taper = s.taper
  converts : ∀ i, s.shownBy c = some i → (s.strip i).converts → t.taper.carries c code (t.chan c).seq
  keeps : ∀ i, s.shownBy c = some i → ¬ (s.strip i).converts → t.taper = s.taper
  restores : ∀ i op, s.shownBy c = some i → (s.strip i).restores → (s.strip i).opCode = some op →
    s.port.queue.countP InjEntry.isPosition < 32 →
    ∃ x ∈ t.port.queue, ∃ a o, s.home c = some (a, o) ∧ x.addr = a ∧ x.body = .position c op o

/-- A code written to a channel with a home is taken when a conversion that it asks for has a place. -/
theorem State.writeCode_takesCode {s : State} {c : ChanId} (code : Code)
    (place : ∀ i, s.shownBy c = some i → (s.strip i).converts → s.canConvert c = true)
    (home : ∃ a o, s.home c = some (a, o)) : s.TakesCode (s.writeCode c code) c code := by
  have shown : (s.setChan c ((s.chan c).take code)).shownBy c = s.shownBy c := rfl
  obtain ⟨unshown, converts, keeps, restores⟩ := (s.setChan c ((s.chan c).take code)).handOff_cases c code
  have record : (s.writeCode c code).chan c = (s.chan c).take code := by simp [State.writeCode]
  refine ⟨record, fun d other => by simp [State.writeCode, other], unshown, fun i hi takes => ?_, keeps,
    fun i op hi answers hand room => ?_⟩
  · have carried := converts i hi takes (place i hi takes)
    rw [State.chan_setChan_self] at carried
    rw [record]
    exact carried
  · obtain ⟨a, o, at_⟩ := home
    obtain ⟨x, mem, addr, body⟩ := State.requestPosition_stands (s := s.setChan c ((s.chan c).take code))
      (code := op) at_ room
    have same := restores i op hi answers hand
    exact ⟨x, by rw [State.writeCode, same]; exact mem, a, o, at_, addr, body⟩


/-! ## An accepted fader beat -/

section accepted

variable {s : State} {q : PortRequest} {c : ChanId} {order : WordOrder} {data : Word} {e : Enables}

/-- The image port's own work on an accepted beat, which is done before the channel table's: the beat passes, and entries at its address go (R5, R16, R21). -/
def State.beatWork (s : State) (q : PortRequest) (data : Word) (e : Enables) : State :=
  (s.modPort fun p => p.passBeat q data e).portWork q.beatAddr e

theorem State.beatWork_frame (s : State) (q : PortRequest) (data : Word) (e : Enables) :
    s.beatWork q data e = { s with port := (s.beatWork q data e).port, ctl := (s.beatWork q data e).ctl } := by
  unfold State.beatWork State.portWork
  exact State.eq_of_port_ctl

@[simp] theorem State.beatWork_taper (s : State) (q : PortRequest) (data : Word) (e : Enables) :
    (s.beatWork q data e).taper = s.taper := (congrArg State.taper (s.beatWork_frame q data e) :)
@[simp] theorem State.beatWork_strips (s : State) (q : PortRequest) (data : Word) (e : Enables) :
    (s.beatWork q data e).strips = s.strips := (congrArg State.strips (s.beatWork_frame q data e) :)
@[simp] theorem State.beatWork_chan (s : State) (q : PortRequest) (data : Word) (e : Enables) (d : ChanId) :
    (s.beatWork q data e).chan d = s.chan d := State.chan_congr (congrArg State.chans (s.beatWork_frame q data e)) d
@[simp] theorem State.beatWork_home (s : State) (q : PortRequest) (data : Word) (e : Enables) (d : ChanId) :
    (s.beatWork q data e).home d = s.home d := State.home_congr (congrArg State.windows (s.beatWork_frame q data e)) d
@[simp] theorem State.beatWork_strip (s : State) (q : PortRequest) (data : Word) (e : Enables) (i : StripId) :
    (s.beatWork q data e).strip i = s.strip i := State.strip_congr (s.beatWork_strips q data e) i
@[simp] theorem State.beatWork_shownBy (s : State) (q : PortRequest) (data : Word) (e : Enables) (d : ChanId) :
    (s.beatWork q data e).shownBy d = s.shownBy d := State.shownBy_congr (s.beatWork_strips q data e) d

/-- The image port's work makes no POSITION (R16). -/
theorem State.beatWork_positions (s : State) (q : PortRequest) (data : Word) (e : Enables) :
    (s.beatWork q data e).port.queue.countP InjEntry.isPosition ≤ s.port.queue.countP InjEntry.isPosition := by
  have same : (s.port.passBeat q data e).others = s.port.others := by
    rw [ImagePort.passBeat_eq]
    rfl
  rw [ImagePort.countP_others _ fun _ => InjEntry.isStatus_of_isPosition,
    ImagePort.countP_others _ fun _ => InjEntry.isStatus_of_isPosition, State.beatWork, State.portWork,
    State.keepEntries_others]
  exact same ▸ List.filter_sublist.countP_le

/-- The image port's work leaves what the channel table looks at. -/
theorem State.TakesCode.after_beatWork {s t : State} {code : Code} (h : (s.beatWork q data e).TakesCode t c code) :
    s.TakesCode t c code := by
  obtain ⟨record, others, unshown, converts, keeps, restores⟩ := h
  simp only [State.beatWork_chan, State.beatWork_shownBy, State.beatWork_taper, State.beatWork_strip, State.beatWork_home]
    at record others unshown converts keeps restores
  exact ⟨record, others, unshown, converts, keeps, fun i op hi answers hand room =>
    restores i op hi answers hand (Nat.lt_of_le_of_lt (s.beatWork_positions q data e) room)⟩

/-- An accepted fader beat is the image port's work and then the channel table's (R5, R10). -/
theorem State.acceptBeat_fader (fader : s.decodeBeat q.beatAddr = .fader c order) (data : Word) (e : Enables) :
    s.acceptBeat q data e = (s.modPort fun p => p.passBeat q data e).dataBeat q.beatAddr data e ∧
    s.acceptBeat q data e = (s.beatWork q data e).faderBeat c order data e := by
  have here : (s.modPort fun p => p.passBeat q data e).decodeBeat q.beatAddr = .fader c order := fader
  constructor
  · simp only [State.acceptBeat, fader]
  · simp only [State.acceptBeat, State.dataBeat, fader, here, State.beatWork]

/-- A beat that need not wait has a place for the conversion it asks for (R5, R34). -/
theorem State.canConvert_of_free {code : Code} (fader : s.decodeBeat q.beatAddr = .fader c order)
    (free : s.mustHold q.beatAddr data e = false) (given : beatCode order (s.chan c).image data e = some code) (i : StripId)
    (shown : s.shownBy c = some i) (converts : (s.strip i).converts) : s.canConvert c = true := by
  simpa [State.mustHold, fader, given, shown, Strip.treatment_of_converts converts] using free

/-- An accepted fader beat goes to memory unchanged and changes the image port, the channel table, the taper unit and the control unit alone (R10, R33). -/
theorem State.acceptBeat_frame (fader : s.decodeBeat q.beatAddr = .fader c order) (data : Word) (e : Enables) :
    let t := s.acceptBeat q data e
    t.port.toMemory = s.port.toMemory ++ [MOut.writeBeat data e] ∧
    t = { s with port := t.port, chans := t.chans, taper := t.taper, ctl := t.ctl } := by
  obtain ⟨whole, parts⟩ := s.acceptBeat_fader fader data e
  refine ⟨?_, ?_⟩
  · rw [whole, (State.dataBeat_sameLines ..).toMemory, State.modPort_port, ImagePort.passBeat_eq]
  · rw [parts]
    unfold State.faderBeat
    rw [State.beatWork_frame]
    split <;> exact State.eq_of_port_chans_taper_ctl

/-- A fader beat that gives a code writes it to its channel (R33 to R35). -/
theorem State.acceptBeat_takesCode {code : Code} (fader : s.decodeBeat q.beatAddr = .fader c order)
    (free : s.mustHold q.beatAddr data e = false) (given : beatCode order (s.chan c).image data e = some code) :
    s.TakesCode (s.acceptBeat q data e) c code := by
  rw [(s.acceptBeat_fader fader data e).2]
  refine State.TakesCode.after_beatWork (q := q) (data := data) (e := e) ?_
  simp only [State.faderBeat, State.beatWork_chan, given]
  refine State.writeCode_takesCode code (fun i shown converts => ?_) ?_
  · rw [State.beatWork_shownBy] at shown
    rw [State.beatWork_strip] at converts
    simpa only [State.canConvert, State.beatWork_taper] using State.canConvert_of_free fader free given i shown converts
  · rw [State.beatWork_home]
    exact State.home_of_fader fader

/-- A fader beat that gives no code leaves the channel table alone (R35). -/
theorem State.acceptBeat_no_code (fader : s.decodeBeat q.beatAddr = .fader c order)
    (none : beatCode order (s.chan c).image data e = none) :
    s.acceptBeat q data e = { s with port := (s.acceptBeat q data e).port, ctl := (s.acceptBeat q data e).ctl } := by
  rw [(s.acceptBeat_fader fader data e).2]
  simp only [State.faderBeat, State.beatWork_chan, none]
  exact s.beatWork_frame q data e

end accepted

/-- Settles O9: the beat gives its code half, which the channel takes. -/
theorem fullCodeWriteSetsRecord : Obligations.FullCodeWriteSetsRecord := by
  intro q c order data e s run writes fader covers free
  obtain ⟨record, others, unshown, converts, keeps, restores⟩ :=
    State.acceptBeat_takesCode fader free (beatCode_of_covers covers _ data)
  obtain ⟨memory, frame⟩ := s.acceptBeat_frame fader data e
  exact ⟨_, exec_writeBeatAccept_free run writes free, record, others, memory, unshown, converts, keeps, restores, frame⟩

/-- A beat of one code byte gives the SEEN channel's image code with that byte in its place (R35). -/
theorem beatCode_merges {order : WordOrder} {e : Enables} {old : Code} (part : coversCode order e = false)
    (touches : touchesCode order e = true) (w : Word) :
    ∃ k : Code, beatCode order (some old) w e = some k ∧
      k.extractLsb' 0 8 = (if (orderEnables order e).getLsbD 0
        then (codeHalf order w).extractLsb' 0 8 else old.extractLsb' 0 8) ∧
      k.extractLsb' 8 8 = (if (orderEnables order e).getLsbD 1
        then (codeHalf order w).extractLsb' 8 8 else old.extractLsb' 8 8) := by
  have bytes : ∀ high low : BitVec 8, (high ++ low : Code).extractLsb' 0 8 = low ∧ (high ++ low : Code).extractLsb' 8 8 = high :=
    fun _ _ => ⟨BitVec.extractLsb'_append_eq_right, BitVec.extractLsb'_append_eq_left⟩
  unfold coversCode at part
  unfold touchesCode at touches
  unfold beatCode
  cases low : (orderEnables order e).getLsbD 0 <;> cases high : (orderEnables order e).getLsbD 1 <;>
    simp_all

/-- A beat of one code byte to an UNSEEN channel gives no code, and neither does one of no code byte (R35). -/
theorem beatCode_ignored {order : WordOrder} {e : Enables} {image : Option Code} (part : coversCode order e = false)
    (ignored : touchesCode order e = false ∨ image = none) (w : Word) : beatCode order image w e = none := by
  unfold coversCode at part
  unfold touchesCode at ignored
  unfold beatCode
  cases low : (orderEnables order e).getLsbD 0 <;> cases high : (orderEnables order e).getLsbD 1 <;>
    simp_all

/-- Settles O10: one byte merged into an image code is a code that the channel takes, and else the beat gives none. -/
theorem partialWriteMergesOrIsIgnored : Obligations.PartialWriteMergesOrIsIgnored := by
  intro q c order data e s run writes fader part free
  obtain ⟨memory, frame⟩ := s.acceptBeat_frame fader data e
  refine ⟨_, exec_writeBeatAccept_free run writes free, memory, fun old touches seen => ?_, fun ignored => ?_, fun d other => ?_,
    frame⟩
  · obtain ⟨k, merged, low, high⟩ := beatCode_merges (old := old) part touches data
    obtain ⟨record, -, unshown, converts, keeps, restores⟩ :=
      State.acceptBeat_takesCode fader free (seen ▸ merged)
    exact ⟨k, low, high, record, unshown, converts, keeps, restores⟩
  · exact State.acceptBeat_no_code fader (beatCode_ignored part ignored data)
  · cases given : beatCode order (s.chan c).image data e with
    | some k => exact (State.acceptBeat_takesCode fader free given).others d other
    | none => exact State.chan_congr (congrArg State.chans (State.acceptBeat_no_code fader given)) d

end Sys2Proof.Machine
end

section
namespace Sys2Proof.Machine

open Sys2Proof

/-! ## The start queue under entries and holds (R65, R78, R144, R146) -/

namespace State

variable (s : State)

@[simp] theorem noteActivity_drive_queue (g : GroupId) (before : Bool) :
    (s.noteActivity g before).drive.queue = s.drive.queue := by
  unfold State.noteActivity
  (repeat' split) <;> rfl

@[simp] theorem wakeRail_drive_queue (g : GroupId) : (s.wakeRail g).drive.queue = s.drive.queue := by
  unfold State.wakeRail
  split <;> rfl

/-- A strip that leaves QUEUED takes its entry out of the start queue (R65). -/
theorem enter_drive_queue (i : StripId) (dest : Motion) :
    (s.enter i dest).drive.queue =
      if (s.strip i).motion = .queued ∧ dest ≠ .queued then s.drive.queue.filter fun e => e.strip != i
      else s.drive.queue := by
  simp only [State.enter, State.noteActivity_drive_queue]
  split <;> rfl

/-- A strip that enters QUEUED has its entry at the tail (R144). -/
theorem joinStart_drive_queue (i : StripId) (u : Purpose) :
    (s.joinStart i u).drive.queue = s.drive.queue ++ [⟨i, u⟩] := by
  simp [State.joinStart, State.enter_drive_queue]

end State

/-- From `s` to `t` a strip's record and its start queue entries are kept. -/
structure State.KeepsStrip (s t : State) (i : StripId) : Prop where
  record : t.strip i = s.strip i
  entries : t.drive.queue.filter (fun e => e.strip == i) = s.drive.queue.filter (fun e => e.strip == i)

namespace State.KeepsStrip

variable {s t u : State} {i j : StripId}

theorem refl : s.KeepsStrip s i := ⟨rfl, rfl⟩

theorem trans (h : s.KeepsStrip t i) (h' : t.KeepsStrip u i) : s.KeepsStrip u i :=
  ⟨h'.record.trans h.record, h'.entries.trans h.entries⟩

/-- What leaves the strips and the start queue alone keeps every strip. -/
theorem of_eq (strips : t.strips = s.strips := by simp) (drive : t.drive = s.drive := by simp) : s.KeepsStrip t i :=
  ⟨State.strip_congr strips i, by rw [drive]⟩

/-- The entries of a kept strip stand as before. -/
theorem mem_iff (h : s.KeepsStrip t i) {e : StartEntry} (own : e.strip = i) : e ∈ t.drive.queue ↔ e ∈ s.drive.queue := by
  have same := congrArg (e ∈ ·) h.entries
  simpa [own] using same

/-- A kept strip keeps its entry's purpose. -/
theorem purposeOf (h : s.KeepsStrip t i) : t.purposeOf i = s.purposeOf i := by
  simp only [State.purposeOf, ← List.head?_filter, h.entries]

theorem enter (other : i ≠ j) (dest : Motion) : s.KeepsStrip (s.enter j dest) i := by
  refine ⟨State.enter_strip_ne s other dest, ?_⟩
  rw [State.enter_drive_queue]
  split
  · have only : ∀ e : StartEntry, (e.strip == i && e.strip != j) = (e.strip == i) := fun e => by
      by_cases own : e.strip = i <;> simp [own, other]
    simp only [List.filter_filter, only]
  · rfl

theorem joinStart (other : i ≠ j) (p : Purpose) : s.KeepsStrip (s.joinStart j p) i := by
  refine ⟨State.joinStart_strip_ne s other p, ?_⟩
  simp [State.joinStart_drive_queue, other.symm]

theorem recalAtRest (other : i ≠ j) : s.KeepsStrip (s.recalAtRest j) i := by
  unfold State.recalAtRest
  dsimp only
  split
  · exact joinStart other _
  · exact refl

theorem modStrip (other : i ≠ j) (f : Strip → Strip) : s.KeepsStrip (s.modStrip j f) i :=
  ⟨State.strip_modStrip_ne s other f, rfl⟩

/-- A hold of another strip (R78). -/
theorem hold (other : i ≠ j) : s.KeepsStrip (s.hold j) i := by
  have cleared := modStrip (s := s) other fun q => { q with target := none }
  unfold State.hold
  dsimp only
  split
  · split
    · exact cleared.trans ((enter other _).trans (recalAtRest other))
    · exact cleared
  · exact cleared.trans (enter other _)
  all_goals exact cleared

end State.KeepsStrip

/-- A strip that comes to rest is IDLE, its entry gone, or queued to calibrate when a calibration is owed (R65, R157). -/
theorem State.rest_spec {s : State} {i : StripId} (queued : (s.strip i).motion = .queued) :
    let p := s.strip i
    let owed := p.mode.motorised && !p.touched && p.recalPending
    (s.rest i).strip i = { p with
      motion := if owed then .queued else .idle, v := 0, latch := false, drive := 0, cal := none } ∧
    (∀ e ∈ (s.rest i).drive.queue, e.strip = i → owed = true ∧ e.purpose = .calibrate) ∧
    (owed = true → ⟨i, .calibrate⟩ ∈ (s.rest i).drive.queue) := by
  have record : (s.enter i .idle).strip i = { s.strip i with
      motion := .idle, v := 0, latch := false, drive := 0, cal := none } := by
    simp [Strip.enter, Strip.setDrive]
  have entries : (s.enter i .idle).drive.queue = s.drive.queue.filter fun e => e.strip != i := by
    simp [State.enter_drive_queue, queued]
  have ready : ((s.enter i .idle).strip i).ready = ((s.strip i).mode.motorised && !(s.strip i).touched) := by
    rw [record]
    rfl
  dsimp only
  cases owed : (s.strip i).mode.motorised && !(s.strip i).touched && (s.strip i).recalPending with
  | true =>
    obtain ⟨able, pending⟩ := Bool.and_eq_true_iff.mp owed
    have joins : s.rest i = (s.enter i .idle).joinStart i .calibrate :=
      if_pos ⟨by rw [record], ready.trans able, by rw [record]; exact pending⟩
    rw [joins, State.joinStart_drive_queue, entries, State.joinStart_strip_self, record]
    refine ⟨rfl, fun e mem own => ⟨rfl, ?_⟩, fun _ => by simp⟩
    obtain ⟨-, other⟩ | rfl := by simpa using mem
    · exact absurd own other
    · rfl
  | false =>
    have stays : s.rest i = s.enter i .idle := by
      refine if_neg fun ⟨_, able, pending⟩ => ?_
      rw [ready] at able
      rw [record] at pending
      exact absurd (Bool.and_eq_true_iff.mpr ⟨able, pending⟩) (by simp [owed])
    rw [stays, entries, record]
    refine ⟨rfl, fun e mem own => ?_, nofun⟩
    exact absurd own (by simpa using (List.mem_filter.mp mem).2)

/-- A hold is what R78 says it is. -/
theorem State.hold_tookHold (s : State) (i : StripId) : s.tookHold (s.hold i) i := by
  have cleared : (s.modStrip i fun q => { q with target := none }).strip i = { s.strip i with target := none } :=
    State.strip_modStrip_self ..
  refine ⟨fun queued move => ?_, fun moving => ?_, fun still other => ?_, fun other e _ => ?_⟩
  · have rests : s.hold i = (s.modStrip i fun q => { q with target := none }).rest i := by
      simp [State.hold, queued, move]
    have spec := State.rest_spec (s := s.modStrip i fun q => { q with target := none }) (i := i)
      (by rw [cleared]; exact queued)
    rw [cleared] at spec
    rw [rests]
    exact spec
  · have settles : s.hold i = (s.modStrip i fun q => { q with target := none }).enter i .settling := by
      simp [State.hold, moving]
    rw [settles, State.enter_strip_self, cleared]
    rfl
  · have clears : s.hold i = s.modStrip i fun q => { q with target := none } := by
      unfold State.hold
      split
      · next queued => exact if_neg fun move => other ⟨queued, move⟩
      · next moving => exact absurd moving still
      all_goals rfl
    rw [clears, cleared]
  · have entries : (s.hold i).drive.queue = s.drive.queue := by
      unfold State.hold
      split
      · next queued => rw [if_neg fun move => other ⟨queued, move⟩]; rfl
      · next moving =>
        rw [State.enter_drive_queue, cleared, if_neg (by simp [moving])]
        rfl
      all_goals rfl
    rw [entries]

/-- A hold leaves the channel a strip shows (R78). -/
theorem State.hold_shown (s : State) (i j : StripId) : ((s.hold i).strip j).shown = (s.strip j).shown := by
  by_cases other : j = i
  · subst other
    obtain ⟨queued, moving, still, -⟩ := s.hold_tookHold j
    by_cases move : (s.strip j).motion = .queued ∧ s.purposeOf j = some .move
    · rw [(queued move.1 move.2).1]
    · by_cases moves : (s.strip j).motion = .moving
      · rw [moving moves]
      · rw [still moves move]
  · rw [State.hold_strip_ne s other]

/-- A strip takes its hold though other work on the machine, which keeps it, comes before and after. -/
theorem State.tookHold.between {s t u v : State} {i : StripId} (before : s.KeepsStrip t i) (time : t.ctl.time = s.ctl.time)
    (h : t.tookHold u i) (after : u.KeepsStrip v i) : s.tookHold v i := by
  obtain ⟨queued, moving, still, entries⟩ := h
  rw [before.record, before.purposeOf] at queued still entries
  rw [before.record, time] at moving
  refine ⟨fun q move => ?_, fun moves => after.record.trans (moving moves),
    fun q other => after.record.trans (still q other),
    fun other e own => (after.mem_iff own).trans ((entries other e own).trans (before.mem_iff own))⟩
  obtain ⟨record, only, joined⟩ := queued q move
  exact ⟨after.record.trans record, fun e mem own => only e ((after.mem_iff own).mp mem) own,
    fun owed => (after.mem_iff rfl).mpr (joined owed)⟩

end Sys2Proof.Machine
end

section
namespace Sys2Proof.Machine

open Sys2Proof

/-! ## With no command in progress (R191, R199) -/

namespace State

variable {s : State} (idle : s.ctl.busy = none)
include idle

theorem syncCheck_of_idle : s.syncCheck = s := State.syncCheck_of_no_sync fun _ _ _ busy => by simp [idle] at busy

theorem requestStatus_of_idle (w : StatusWord) : s.requestStatus w = s.pushStatus w :=
  State.syncCheck_of_idle (by simpa using idle)

theorem modCauses_idle {f : Control → Control} (same : (f s.ctl).busy = s.ctl.busy) : (s.modCauses f).ctl.busy = none := by
  unfold State.modCauses State.noteCauses
  split
  · exact same.trans idle
  · rw [State.requestStatus_of_idle (same.trans idle), State.pushStatus_ctl]
    exact same.trans idle

theorem requestStatus_idle (w : StatusWord) : (s.requestStatus w).ctl.busy = none := by
  rw [State.requestStatus_of_idle idle, State.pushStatus_ctl]
  exact idle

theorem loseEvent_idle : s.loseEvent.ctl.busy = none := by
  have counted := State.requestStatus_idle (s := s.modCtl fun c => { c with lostCount := c.lostCount + 1 }) idle .counters
  unfold State.loseEvent
  dsimp only
  split
  · exact State.modCauses_idle counted rfl
  · exact State.modCauses_idle idle rfl

theorem deliverEvent_idle (kind : EventKind) (index : BitVec 8) (v n : BitVec 16) :
    (s.deliverEvent kind index v n).ctl.busy = none := by
  have advanced := State.requestStatus_idle (s := (s.pushEntry (s.ctl.slotAddr s.ctl.producer)
    (.event (eventWord0 kind index n) (eventWord1 v s.ctl.time))).modCtl fun c => { c with producer := c.nextProducer })
    idle .producer
  unfold State.deliverEvent
  dsimp only
  split
  · exact advanced
  · exact State.requestStatus_idle advanced .summary

/-- An event's creation begins no command. -/
theorem createEvent_idle (kind : EventKind) (index : BitVec 8) (v : BitVec 16) :
    (s.createEvent kind index v).ctl.busy = none := by
  have numbered : (s.modCtl fun c => { c with serial := c.serial + 1#16 }).ctl.busy = none := idle
  unfold State.createEvent
  dsimp only
  split
  · exact idle
  · split
    · exact State.loseEvent_idle numbered
    · exact State.deliverEvent_idle numbered ..

/-- A command's answer is its RESULT, and nothing else answers with it (R192). -/
theorem writeResult_of_idle (tag : BitVec 8) (code : ResultCode) (v : BitVec 16) :
    s.writeResult tag code v = s.putResult tag code v :=
  State.syncCheck_of_idle ((s.putResult_busy tag code v).trans idle)

end State

/-- The RESULT word of an answer (R192, Table 11.3). -/
theorem State.putResult_result (s : State) (tag : BitVec 8) (code : ResultCode) (v : BitVec 16) :
    (s.putResult tag code v).ctl.result = v ++ (code.number ++ tag) := by
  unfold State.putResult
  dsimp only
  split <;> simp [resultWord]

/-! ## Events one after the other (R203) -/

/-- `n` events were created from `s` to `t`, and no other work was done on the ring: while there is room for them they are the last of the EVENT entries. -/
structure State.Sent (s t : State) (n : Nat) : Prop where
  serial : t.ctl.serial = s.ctl.serial + BitVec.ofNat 16 n
  ringBase : t.ctl.ringBase = s.ctl.ringBase
  capacity : t.ctl.ringCapacity = s.ctl.ringCapacity
  consumer : t.ctl.consumer = s.ctl.consumer
  time : t.ctl.time = s.ctl.time
  advanced : s.ringHasRoomFor n → t.ctl.producer = s.ctl.slotAfter n ∧
    t.port.queue.countP InjEntry.isEvent = s.port.queue.countP InjEntry.isEvent + n

namespace State

variable {s t u : State} {n : Nat}

/-- Room for more events is room for fewer. -/
theorem ringHasRoomFor_mono {m : Nat} (h : s.ringHasRoomFor n) (le : m ≤ n) : s.ringHasRoomFor m := by
  obtain ⟨on, free, events⟩ := h
  exact ⟨on, fun j lt => free j (Nat.lt_of_lt_of_le lt le), by omega⟩

/-- The slot behind a slot (R203). -/
theorem slotAfter_succ (c : Control) (n : Nat) : (c.slotAfter n + 1) % c.ringCapacity = c.slotAfter (n + 1) := by
  have next : c.slotAfter (n + 1) = (c.producer + (n + 1)) % c.ringCapacity := if_neg (Nat.succ_ne_zero n)
  rw [next]
  unfold Control.slotAfter
  split
  · next zero => rw [zero]
  · rw [Nat.mod_add_mod, Nat.add_assoc]

theorem Sent.zero (s : State) : s.Sent s 0 :=
  ⟨by simp, rfl, rfl, rfl, rfl, fun _ => ⟨rfl, rfl⟩⟩

/-- What leaves the ring and the EVENT entries alone sends nothing. -/
theorem Sent.keep (h : s.Sent t n) (ctl : u.ctl = t.ctl)
    (events : u.port.queue.countP InjEntry.isEvent = t.port.queue.countP InjEntry.isEvent) : s.Sent u n := by
  obtain ⟨serial, base, capacity, consumer, time, advanced⟩ := h
  rw [← ctl] at serial base capacity consumer time advanced
  exact ⟨serial, base, capacity, consumer, time, events ▸ advanced⟩

/-- After `n` events there is room for one more if there was for `n + 1` (R203). -/
theorem Sent.hasRoom (h : s.Sent t n) (room : s.ringHasRoomFor (n + 1)) : t.ringHasRoom := by
  obtain ⟨producer, events⟩ := h.advanced (State.ringHasRoomFor_mono room (Nat.le_succ n))
  obtain ⟨on, free, few⟩ := room
  refine ⟨h.capacity ▸ on, ?_, by omega⟩
  rw [h.capacity, h.consumer, producer, State.slotAfter_succ]
  exact free n (Nat.lt_succ_self n)

/-- One more event (R203). -/
theorem Sent.event (h : s.Sent t n) (kind : EventKind) (index : BitVec 8) (v : BitVec 16) :
    s.Sent (t.createEvent kind index v) (n + 1) ∧
    (s.ringHasRoomFor (n + 1) → s.eventAt (t.createEvent kind index v) n kind index v) := by
  obtain ⟨serial, -, -, delivered, -⟩ := t.createEvent_createsEvent kind index v
  refine ⟨⟨?_, ?_, ?_, ?_, ?_, fun room => ?_⟩, fun room => ?_⟩
  · rw [serial, h.serial, BitVec.add_assoc, BitVec.ofNat_add]
  · rw [State.createEvent_ctl_ringBase, h.ringBase]
  · rw [State.createEvent_ctl_ringCapacity, h.capacity]
  · rw [State.createEvent_ctl_consumer, h.consumer]
  · rw [State.createEvent_ctl_time, h.time]
  · obtain ⟨events, producer, -⟩ := delivered (h.hasRoom room)
    obtain ⟨was, count⟩ := h.advanced (State.ringHasRoomFor_mono room (Nat.le_succ n))
    have longer := congrArg List.length events
    rw [List.length_append, ← List.countP_eq_length_filter, ← List.countP_eq_length_filter, count] at longer
    exact ⟨by rw [producer, was, h.capacity, State.slotAfter_succ], longer⟩
  · obtain ⟨events, -⟩ := delivered (h.hasRoom room)
    obtain ⟨was, -⟩ := h.advanced (State.ringHasRoomFor_mono room (Nat.le_succ n))
    refine ⟨_, (List.mem_filter.mp (events ▸ List.mem_append_right _ (List.mem_singleton_self _))).1, ?_, ?_⟩
    · simp only [Control.slotAddr, h.ringBase, was]
    · rw [h.serial, h.time]

end State

end Sys2Proof.Machine
end

section
namespace Sys2Proof.Machine

open Sys2Proof

/-! ## The examination of the strips after a window load (R31, R40) -/

/-- Two states that agree outside the image port, the strips, the drive supervisor and the control unit. -/
theorem State.eq_of_port_strips_drive_ctl {s t : State} (pending : t.pending = s.pending := by simp)
    (clock : t.clock = s.clock := by simp) (inReset : t.inReset = s.inReset := by simp)
    (strap : t.strap = s.strap := by simp) (windows : t.windows = s.windows := by simp)
    (chans : t.chans = s.chans := by simp) (taper : t.taper = s.taper := by simp)
    (layers : t.layers = s.layers := by simp) (sliceDue : t.sliceDue = s.sliceDue := by simp)
    (meter : t.meter = s.meter := by simp) :
    t = { s with port := t.port, strips := t.strips, drive := t.drive, ctl := t.ctl } := by
  cases t
  simp_all

/-- The strip shows a channel that has no home (R40). -/
def State.homeless (s : State) (i : StripId) : Bool :=
  match (s.strip i).shown with
  | some c => (s.home c).isNone
  | none => false

/-- The strip shows a channel that has a home, another than under the set `old` (R31). -/
def State.movedTo (s : State) (old : Vector Window 16) (i : StripId) (c : ChanId) : Prop :=
  (s.strip i).shown = some c ∧ (s.home c).isSome = true ∧ homeChanged old s.windows.active c = true

theorem State.homeless_of_shown {s : State} {i : StripId} {c : ChanId} (shown : (s.strip i).shown = some c) :
    s.homeless i = (s.home c).isNone := by
  simp only [State.homeless, shown]

/-- A strip without a home for its channel shows no channel that has one. -/
theorem State.not_movedTo_of_homeless {s : State} {old : Vector Window 16} {i : StripId} (h : s.homeless i = true)
    (c : ChanId) : ¬ s.movedTo old i c := fun ⟨shown, homed, _⟩ => by
  rw [State.homeless_of_shown shown] at h
  simp_all

/-- All that the examination of one strip can do: nothing, a FETCH at the new home, a FETCH refused, or the report of a channel without a home (R31). -/
inductive State.Examination (old : Vector Window 16) (s : State) (i : StripId) : State → Prop
  | nothing (homed : s.homeless i = false)
      (asked : ∀ c, s.movedTo old i c → s.port.queue.any (InjEntry.isFetchOf c) = true) : Examination old s i s
  | fetch {c : ChanId} {a : Nat} {o : WordOrder} (moved : s.movedTo old i c) (home : s.home c = some (a, o))
      (room : s.port.queue.countP InjEntry.isFetch < 32) :
      Examination old s i (s.pushEntry a (.fetch c (s.chan c).seq o))
  | refused {c : ChanId} (moved : s.movedTo old i c) (full : 32 ≤ s.port.queue.countP InjEntry.isFetch) :
      Examination old s i (s.fetchFailed c 2#16)
  | unmapped {c : ChanId} (shown : (s.strip i).shown = some c) (home : s.home c = none) :
      Examination old s i (s.unmapped i c)

theorem State.examination (s : State) (old : Vector Window 16) (i : StripId) :
    s.Examination old i (s.examineStrip old i) := by
  unfold State.examineStrip
  split
  · next none => exact .nothing (by simp [State.homeless, none]) fun c ⟨shown, _⟩ => by simp [none] at shown
  · next c shown =>
    split
    · next homed =>
      have settled : s.homeless i = false := by
        rw [State.homeless_of_shown shown]
        simpa using homed
      split
      · next changed =>
        have moved : s.movedTo old i c := ⟨shown, homed, changed⟩
        obtain ⟨⟨a, o⟩, home⟩ := Option.isSome_iff_exists.mp homed
        simp only [State.requestFetch, home]
        split
        · next stands =>
          refine .nothing settled fun d ⟨shown', _⟩ => ?_
          cases shown.symm.trans shown'
          exact stands
        · split
          · next room => exact .fetch moved home room
          · next full => exact .refused moved (Nat.not_lt.mp full)
      · next same =>
        refine .nothing settled fun d ⟨shown', _, changed⟩ => ?_
        cases shown.symm.trans shown'
        exact absurd changed same
    · next homed => exact .unmapped shown (by simpa using homed)

/-- The entry is a FETCH, with the sequence number it has, of a channel at a home that it has not under the set `old` (R13, R31). -/
def State.fetchesMoved (s : State) (old : Vector Window 16) (e : InjEntry) : Prop :=
  ∃ c a o, homeChanged old s.windows.active c = true ∧ s.home c = some (a, o) ∧ e.addr = a ∧
    e.body = .fetch c (s.chan c).seq o

/-- What the examination of any strips does from `s` to `t`. -/
structure State.Examined (old : Vector Window 16) (s t : State) : Prop where
  frame : t = { s with port := t.port, strips := t.strips, drive := t.drive, ctl := t.ctl }
  shown : ∀ i, (t.strip i).shown = (s.strip i).shown
  idle : s.ctl.busy = none → t.ctl.busy = none
  time : t.ctl.time = s.ctl.time
  entries : ∃ new, t.port.others = s.port.others ++ new ∧ ∀ e ∈ new, e.isEvent = true ∨ s.fetchesMoved old e

namespace State.Examined

variable {old : Vector Window 16} {s t u : State}

theorem windows (h : s.Examined old t) : t.windows = s.windows := by rw [h.frame]

theorem chan (h : s.Examined old t) (c : ChanId) : t.chan c = s.chan c := State.chan_congr (by rw [h.frame]) c

theorem home (h : s.Examined old t) (c : ChanId) : t.home c = s.home c := State.home_congr h.windows c

theorem homeless (h : s.Examined old t) (i : StripId) : t.homeless i = s.homeless i := by
  simp only [State.homeless, h.shown, h.home]

theorem movedTo (h : s.Examined old t) (i : StripId) (c : ChanId) : t.movedTo old i c ↔ s.movedTo old i c := by
  simp only [State.movedTo, h.shown, h.home, h.windows]

/-- An entry that is no STATUS stays. -/
theorem stays (h : s.Examined old t) {e : InjEntry} (mem : e ∈ s.port.others) : e ∈ t.port.others := by
  obtain ⟨new, eq, -⟩ := h.entries
  exact eq ▸ List.mem_append_left _ mem

theorem refl : s.Examined old s := ⟨rfl, fun _ => rfl, id, rfl, [], (List.append_nil _).symm, nofun⟩

theorem trans (h : s.Examined old t) (h' : t.Examined old u) : s.Examined old u where
  frame := by
    have first := h.frame
    have last := h'.frame
    rw [first] at last
    exact last
  shown i := (h'.shown i).trans (h.shown i)
  idle free := h'.idle (h.idle free)
  time := h'.time.trans h.time
  entries := by
    obtain ⟨new, eq, kinds⟩ := h.entries
    obtain ⟨new', eq', kinds'⟩ := h'.entries
    refine ⟨new ++ new', by rw [eq', eq, List.append_assoc], fun e mem => ?_⟩
    obtain mem | mem := List.mem_append.mp mem
    · exact kinds e mem
    · simpa only [State.fetchesMoved, h.windows, h.home, h.chan] using kinds' e mem

/-- A report that a strip's channel has no home, or that its FETCH failed, is an event and holds. -/
theorem createEvent (s : State) (kind : EventKind) (index : BitVec 8) (v : BitVec 16) :
    s.Examined old (s.createEvent kind index v) where
  frame := State.eq_of_port_strips_drive_ctl
  shown i := by simp
  idle free := State.createEvent_idle free ..
  time := by simp
  entries := by
    obtain ⟨new, eq, events⟩ := s.createEvent_others kind index v
    exact ⟨new, eq, fun e mem => .inl (events e mem)⟩

theorem hold (s : State) (i : StripId) : s.Examined old (s.hold i) where
  frame := State.eq_of_port_strips_drive_ctl
  shown := s.hold_shown i
  idle free := by simpa using free
  time := by simp
  entries := ⟨[], by simp, nofun⟩

end State.Examined

/-- The examination of one strip. -/
theorem State.examineStrip_examined (s : State) (old : Vector Window 16) (i : StripId) :
    s.Examined old (s.examineStrip old i) := by
  have done := s.examination old i
  generalize s.examineStrip old i = t at done ⊢
  cases done with
  | nothing => exact .refl
  | @fetch c a o moved home =>
    obtain ⟨-, -, changed⟩ := moved
    exact {
      frame := State.eq_of_port_strips_drive_ctl
      shown := by simp
      idle := by simp
      time := by simp
      entries := ⟨_, s.pushEntry_others rfl, by simpa using .inr ⟨c, a, o, changed, home, rfl, rfl⟩⟩ }
  | refused =>
    unfold State.fetchFailed
    dsimp only
    split
    · exact (State.Examined.createEvent ..).trans (State.Examined.hold ..)
    · exact State.Examined.createEvent ..
  | unmapped => exact (State.Examined.createEvent ..).trans (State.Examined.hold ..)

theorem State.forStrips_examined (old : Vector Window 16) (l : List StripId) (s : State) :
    s.Examined old (s.forStrips l (State.examineStrip old)) := by
  induction l generalizing s with
  | nil => exact .refl
  | cons i l ih => exact (s.examineStrip_examined old i).trans (ih _)

end Sys2Proof.Machine
end

section
namespace Sys2Proof.Machine

open Sys2Proof

/-! ## What the examination leaves of each strip (R31, R40, R78) -/

section examined

variable {old : Vector Window 16}

theorem State.forStrips_cons (s : State) (i : StripId) (l : List StripId) (f : StripId → State → State) :
    s.forStrips (i :: l) f = (f i s).forStrips l f := rfl

theorem State.forStrips_append (s : State) (l l' : List StripId) (f : StripId → State → State) :
    s.forStrips (l ++ l') f = (s.forStrips l f).forStrips l' f := List.foldl_append

/-- The strip that shows a channel shows it. -/
theorem State.shown_of_shownBy {s : State} {c : ChanId} {i : StripId} (h : s.shownBy c = some i) :
    (s.strip i).shown = some c := beq_iff_eq.mp (List.find?_some (p := fun j => (s.strip j).shown == some c) h)

/-- A report of a FETCH that failed keeps the strips that show other channels (R39). -/
theorem State.KeepsStrip.fetchFailed {s : State} {c : ChanId} {j : StripId} (other : (s.strip j).shown ≠ some c)
    (v : BitVec 16) : s.KeepsStrip (s.fetchFailed c v) j := by
  have reported : s.KeepsStrip (s.createEvent .fetchError (BitVec.ofNat 8 c.val) v) j := .of_eq
  unfold State.fetchFailed
  dsimp only
  split
  · next k shows =>
    refine reported.trans (.hold fun same => other ?_)
    have shown := State.shown_of_shownBy shows
    rw [State.createEvent_strip] at shown
    exact same ▸ shown
  · exact reported

/-- A report that a strip's channel has no home keeps the other strips (R40). -/
theorem State.KeepsStrip.unmapped {s : State} {i j : StripId} (other : j ≠ i) (c : ChanId) :
    s.KeepsStrip (s.unmapped i c) j :=
  State.KeepsStrip.trans (t := s.stripEvent .unmapped i (field16 c.val)) .of_eq (.hold other)

/-- A strip is kept by the examination of another and by its own when its channel has a home, unless a FETCH of its channel can be refused. -/
theorem State.examineStrip_keeps {s : State} {i j : StripId} (other : j ≠ i ∨ s.homeless j = false)
    (unrefused : (∀ c, ¬ s.movedTo old j c) ∨ s.port.queue.countP InjEntry.isFetch < 32) :
    s.KeepsStrip (s.examineStrip old i) j := by
  have done := s.examination old i
  generalize s.examineStrip old i = t at done ⊢
  cases done with
  | nothing => exact .refl
  | fetch => exact .of_eq
  | refused moved full =>
    obtain ⟨-, homed, changed⟩ := moved
    exact .fetchFailed (fun shown => unrefused.elim (fun still => still _ ⟨shown, homed, changed⟩)
      fun room => absurd full (Nat.not_le.mpr room)) _
  | unmapped shown home =>
    refine .unmapped (other.elim id fun homed same => ?_) _
    subst same
    simp [State.homeless_of_shown shown, home] at homed

/-- The examination of one strip adds one FETCH at most, while there is room. -/
theorem State.examineStrip_fetches {s : State} (i : StripId) (room : s.port.queue.countP InjEntry.isFetch < 32) :
    (s.examineStrip old i).port.queue.countP InjEntry.isFetch ≤ s.port.queue.countP InjEntry.isFetch + 1 := by
  have done := s.examination old i
  generalize s.examineStrip old i = t at done ⊢
  cases done with
  | nothing => exact Nat.le_succ _
  | fetch => simp [State.pushEntry, List.countP_append, InjEntry.isFetch]
  | refused _ full => exact absurd full (Nat.not_le.mpr room)
  | @unmapped c =>
    obtain ⟨new, eq, events⟩ := s.createEvent_others .unmapped (BitVec.ofNat 8 i.val) (field16 c.val)
    have noFetch : new.countP InjEntry.isFetch = 0 := List.countP_eq_zero.mpr fun e mem => by
      have event := events e mem
      obtain ⟨_, _, body⟩ := e
      cases body <;> simp_all [InjEntry.isEvent, InjEntry.isFetch]
    rw [ImagePort.countP_others _ fun _ => InjEntry.isStatus_of_isFetch,
      ImagePort.countP_others _ fun _ => InjEntry.isStatus_of_isFetch, State.unmapped, State.hold_port, State.stripEvent, eq,
      List.countP_append, noFetch]
    exact Nat.le_succ _

/-- The examination of strips keeps a strip that is not among them or has a home for its channel, unless a FETCH of its channel can be refused. -/
theorem State.forStrips_keeps {j : StripId} (l : List StripId) {s : State} (other : j ∉ l ∨ s.homeless j = false)
    (unrefused : (∀ c, ¬ s.movedTo old j c) ∨ s.port.queue.countP InjEntry.isFetch + l.length ≤ 32) :
    s.KeepsStrip (s.forStrips l (State.examineStrip old)) j := by
  induction l generalizing s with
  | nil => exact .refl
  | cons i l ih =>
    have examined := s.examineStrip_examined old i
    rw [List.length_cons] at unrefused
    refine (State.examineStrip_keeps (old := old) (i := i) ?_ ?_).trans (ih ?_ ?_)
    · exact other.imp (fun notin same => notin (same ▸ List.mem_cons_self)) id
    · exact unrefused.imp id fun room => by omega
    · exact other.imp (fun notin mem => notin (List.mem_cons_of_mem _ mem)) (examined.homeless j).trans
    · refine unrefused.imp (fun still c => mt (examined.movedTo j c).mp (still c)) fun room => ?_
      have more := State.examineStrip_fetches (old := old) (s := s) i (by omega)
      omega

/-- Each strip whose channel has no home takes its hold (R40, R78). -/
theorem State.forStrips_tookHold {l : List StripId} (distinct : l.Nodup) {i : StripId} (mem : i ∈ l) {s : State}
    (homeless : s.homeless i = true) : s.tookHold (s.forStrips l (State.examineStrip old)) i := by
  obtain ⟨before, after, rfl⟩ := List.append_of_mem mem
  obtain ⟨-, tail, apart⟩ := List.nodup_append.mp distinct
  have notBefore : i ∉ before := fun h => apart i h i List.mem_cons_self rfl
  have notAfter : i ∉ after := (List.nodup_cons.mp tail).1
  rw [State.forStrips_append, State.forStrips_cons]
  have examined := s.forStrips_examined old before
  have kept : s.KeepsStrip _ i := State.forStrips_keeps (old := old) before (.inl notBefore)
    (.inl (State.not_movedTo_of_homeless homeless))
  generalize s.forStrips before (State.examineStrip old) = t at examined kept ⊢
  rw [← examined.homeless] at homeless
  have last : (t.examineStrip old i).KeepsStrip _ i := State.forStrips_keeps (old := old) after (.inl notAfter)
    (.inl (State.not_movedTo_of_homeless (((t.examineStrip_examined old i).homeless i).trans homeless)))
  have done := t.examination old i
  generalize t.examineStrip old i = u at done last ⊢
  cases done with
  | nothing homed => exact absurd homeless (by simp [homed])
  | fetch moved => exact absurd moved (State.not_movedTo_of_homeless homeless _)
  | refused moved => exact absurd moved (State.not_movedTo_of_homeless homeless _)
  | @unmapped c =>
    exact .between (t := t.stripEvent .unmapped i (field16 c.val)) (kept.trans .of_eq) (by simpa using examined.time)
      (State.hold_tookHold _ i) last

/-- Each channel that is shown and has a new home is fetched while there is room (R13, R31). -/
theorem State.forStrips_fetches {l : List StripId} {i : StripId} (mem : i ∈ l) {s : State} {c : ChanId}
    (moved : s.movedTo old i c) (room : s.port.queue.countP InjEntry.isFetch + l.length ≤ 32) :
    ∃ e ∈ (s.forStrips l (State.examineStrip old)).port.others, e.isFetchOf c = true := by
  induction l generalizing s with
  | nil => cases mem
  | cons k l ih =>
    rw [List.length_cons] at room
    rw [State.forStrips_cons]
    obtain rfl | later := List.mem_cons.mp mem
    · have fetched : ∃ e ∈ (s.examineStrip old i).port.others, e.isFetchOf c = true := by
        have done := s.examination old i
        generalize s.examineStrip old i = t at done ⊢
        cases done with
        | nothing _ asked =>
          obtain ⟨e, stands, own⟩ := List.any_eq_true.mp (asked c moved)
          refine ⟨e, ImagePort.mem_others.mpr ⟨stands, InjEntry.isStatus_of_isFetch ?_⟩, own⟩
          obtain ⟨_, _, body⟩ := e
          cases body <;> simp_all [InjEntry.isFetchOf, InjEntry.isFetch]
        | fetch moved' =>
          cases moved.1.symm.trans moved'.1
          rw [State.pushEntry_others _ rfl]
          exact ⟨_, List.mem_append_right _ (List.mem_singleton_self _), by simp [InjEntry.isFetchOf]⟩
        | refused _ full => omega
        | unmapped shown home =>
          obtain ⟨shown', homed, -⟩ := moved
          cases shown.symm.trans shown'
          simp [home] at homed
      obtain ⟨e, stands, own⟩ := fetched
      exact ⟨e, (State.forStrips_examined old l _).stays stands, own⟩
    · refine ih later (((s.examineStrip_examined old k).movedTo i c).mpr moved) ?_
      have more := State.examineStrip_fetches (old := old) (s := s) k (by omega)
      omega

/-! ## The UNMAPPED events, in strip order (R40, R203) -/

/-- A hold leaves the ring alone. -/
theorem State.Sent.hold {s t : State} {n : Nat} (h : s.Sent t n) (i : StripId) : s.Sent (t.hold i) n :=
  h.keep (by simp) (by simp)

/-- The examination of one strip creates one event if its channel has no home, and none else, while a FETCH has room. -/
theorem State.examineStrip_sent {s t : State} {n : Nat} (h : s.Sent t n) (i : StripId)
    (room : t.port.queue.countP InjEntry.isFetch < 32) :
    s.Sent (t.examineStrip old i) (n + if t.homeless i then 1 else 0) := by
  have done := t.examination old i
  generalize t.examineStrip old i = u at done ⊢
  cases done with
  | nothing homed => simpa [homed] using h
  | fetch moved =>
    have homed : t.homeless i = false := by
      by_contra homeless
      exact State.not_movedTo_of_homeless (by simpa using homeless) _ moved
    rw [homed]
    exact h.keep (by simp) (by simp [State.pushEntry, List.countP_append, InjEntry.isEvent])
  | refused _ full => exact absurd full (Nat.not_le.mpr room)
  | unmapped shown home =>
    rw [State.homeless_of_shown shown, home]
    exact (h.event ..).1.hold i

/-- The examination of strips creates one event for each whose channel has no home, while their FETCHes have room. -/
theorem State.forStrips_sent {s : State} (l : List StripId) {t : State} {n : Nat} (h : s.Sent t n)
    (room : t.port.queue.countP InjEntry.isFetch + l.length ≤ 32) :
    s.Sent (t.forStrips l (State.examineStrip old)) (n + l.countP t.homeless) := by
  induction l generalizing t n with
  | nil => exact h
  | cons i l ih =>
    rw [List.length_cons] at room
    have more := State.examineStrip_fetches (old := old) (s := t) i (by omega)
    have sent := ih (State.examineStrip_sent (old := old) h i (by omega)) (by omega)
    have same : (t.examineStrip old i).homeless = t.homeless := funext (t.examineStrip_examined old i).homeless
    rw [same, Nat.add_assoc, Nat.add_comm (ite ..)] at sent
    rwa [List.countP_cons]

/-- An event's entry stays while strips are examined. -/
theorem State.Examined.eventAt {s t u : State} {n : Nat} {kind : EventKind} {index : BitVec 8} {v : BitVec 16}
    (h : t.Examined old u) (at_ : s.eventAt t n kind index v) : s.eventAt u n kind index v := by
  obtain ⟨e, mem, addr, body⟩ := at_
  have other : e.isStatus = false := by simp [InjEntry.isStatus, body]
  exact ⟨e, (ImagePort.mem_others.mp (h.stays (ImagePort.mem_others.mpr ⟨mem, other⟩))).1, addr, body⟩

/-- Each strip whose channel has no home is reported, behind the reports of those before it, while the ring has room (R40, R203). -/
theorem State.forStrips_reports {before after : List StripId} {i : StripId} {c : ChanId} {s : State}
    (shown : (s.strip i).shown = some c) (home : s.home c = none)
    (fetches : s.port.queue.countP InjEntry.isFetch + (before ++ i :: after).length ≤ 32)
    (room : s.ringHasRoomFor (before.countP s.homeless + 1)) :
    s.eventAt (s.forStrips (before ++ i :: after) (State.examineStrip old)) (before.countP s.homeless) .unmapped
      (BitVec.ofNat 8 i.val) (BitVec.ofNat 16 c.val) := by
  rw [List.length_append] at fetches
  rw [State.forStrips_append, State.forStrips_cons]
  have examined := s.forStrips_examined old before
  have sent := State.forStrips_sent (old := old) before (.zero s) (by omega)
  rw [Nat.zero_add] at sent
  generalize s.forStrips before (State.examineStrip old) = t at examined sent ⊢
  have reported : t.examineStrip old i = t.unmapped i c := by
    simp only [State.examineStrip, examined.shown, shown, examined.home, home]
    rfl
  refine (State.forStrips_examined old after _).eventAt ?_
  rw [reported]
  exact (State.Examined.hold (old := old) _ i).eventAt ((sent.event ..).2 room)

end examined

end Sys2Proof.Machine
end

section
namespace Sys2Proof.Machine

open Sys2Proof

/-! ## Which staged descriptor offends (R29) -/

/-- Numbers stand in both of two stretches. -/
def stretchesShare (a la b lb : Nat) : Prop := ∃ x, a ≤ x ∧ x < a + la ∧ b ≤ x ∧ x < b + lb

/-- Two stretches that are not empty meet exactly when a number stands in both. -/
theorem stretchesMeet_iff {a la b lb : Nat} (full : 0 < la) (full' : 0 < lb) :
    stretchesMeet a la b lb = true ↔ stretchesShare a la b lb := by
  simp only [stretchesMeet, Bool.and_eq_true, decide_eq_true_eq]
  exact ⟨fun ⟨_, _⟩ => ⟨max a b, by omega, by omega, by omega, by omega⟩, fun ⟨x, _, _, _, _⟩ => by omega⟩

/-- Condition 1 of R29. -/
def RawWindow.badField (d : RawWindow) : Prop :=
  2 < d.kind ∨ 1 < d.order ∨ d.base % 16 ≠ 0 ∨ 16777200 < d.base ∨ d.size = 0 ∨ windowLimit d.kind < d.size ∨
    windowLimit d.kind ≤ d.first

theorem RawWindow.outOfRange_iff (d : RawWindow) : d.outOfRange = true ↔ d.badField := by
  simp only [RawWindow.outOfRange, RawWindow.badField, Bool.or_eq_true, decide_eq_true_eq, bne_iff_ne, beq_iff_eq, or_assoc]

/-- Conditions 2 to 4 of R29. -/
def RawWindow.badPlace (controlBase : Nat) (d : RawWindow) : Prop :=
  16777216 < d.base + d.size ∨ windowLimit d.kind < d.first + d.size ∨
    ∃ a, d.base ≤ a ∧ a < d.base + d.size ∧ controlBase ≤ a ∧ a ≤ controlBase + 511

theorem RawWindow.misplaced_iff {d : RawWindow} (full : 0 < d.size) (controlBase : Nat) :
    d.misplaced controlBase = true ↔ d.badPlace controlBase := by
  have share : (d.base < controlBase + 512 ∧ controlBase < d.base + d.size) ↔
      ∃ a, d.base ≤ a ∧ a < d.base + d.size ∧ controlBase ≤ a ∧ a ≤ controlBase + 511 :=
    ⟨fun ⟨_, _⟩ => ⟨max d.base controlBase, by omega, by omega, by omega, by omega⟩, fun ⟨a, _, _, _, _⟩ => by omega⟩
  simp only [RawWindow.misplaced, RawWindow.badPlace, Bool.or_eq_true, Bool.and_eq_true, decide_eq_true_eq, ← share,
    or_assoc]
  exact Iff.rfl

/-- Conditions 5 and 6 of R29, against one lower descriptor. -/
theorem RawWindow.conflicts_iff {d lower : RawWindow} (full : 0 < d.size) (full' : 0 < lower.size) :
    d.conflicts lower = true ↔ lower.kind ≠ 0 ∧
      (stretchesShare d.base d.size lower.base lower.size ∨
        lower.kind = d.kind ∧ stretchesShare d.first d.size lower.first lower.size) := by
  simp only [RawWindow.conflicts, Bool.and_eq_true, Bool.or_eq_true, bne_iff_ne, beq_iff_eq, stretchesMeet_iff full full',
    eq_comm (a := d.kind)]

/-- Staged descriptor `n` offends by one of R29's six conditions. -/
def State.breaksRules (s : State) (n : Fin 16) : Prop :=
  let d : Fin 16 → RawWindow := rawWindow s.windows.staged
  (d n).kind ≠ 0 ∧ ((d n).badField ∨ (d n).badPlace s.controlBase ∨
    (∃ k, k < n ∧ (d k).kind ≠ 0 ∧ stretchesShare (d n).base (d n).size (d k).base (d k).size) ∨
    (∃ k, k < n ∧ (d k).kind = (d n).kind ∧ stretchesShare (d n).first (d n).size (d k).first (d k).size))

/-- A descriptor offends exactly when it breaks a rule, but that a stretch of no words, which breaks one itself, can meet a later one. -/
theorem State.windowOffends_iff {s : State} {n : Fin 16} (below : ∀ k, k < n → ¬ s.breaksRules k) :
    s.windowOffends n = true ↔ s.breaksRules n := by
  simp only [State.windowOffends, State.breaksRules, Bool.and_eq_true, Bool.or_eq_true, bne_iff_ne, List.any_eq_true,
    List.mem_finRange, true_and, decide_eq_true_eq, RawWindow.outOfRange_iff]
  refine and_congr_right fun used => ?_
  by_cases empty : (rawWindow s.windows.staged n).size = 0
  · have bad : (rawWindow s.windows.staged n).badField := .inr (.inr (.inr (.inr (.inl empty))))
    simp only [bad, true_or]
  · have full := Nat.pos_of_ne_zero empty
    have lower : ∀ k, k < n → (rawWindow s.windows.staged k).kind ≠ 0 → 0 < (rawWindow s.windows.staged k).size :=
      fun k lt some => Nat.pos_of_ne_zero fun none =>
        below k lt ⟨some, .inl (.inr (.inr (.inr (.inr (.inl none)))))⟩
    rw [RawWindow.misplaced_iff full, or_assoc]
    refine or_congr_right (or_congr_right ?_)
    constructor
    · rintro ⟨k, lt, meets⟩
      have some : (rawWindow s.windows.staged k).kind ≠ 0 := by
        simpa using (Bool.and_eq_true_iff.mp meets).1
      obtain ⟨-, words | ⟨same, indexes⟩⟩ := (RawWindow.conflicts_iff full (lower k lt some)).mp meets
      · exact .inl ⟨k, lt, some, words⟩
      · exact .inr ⟨k, lt, same, indexes⟩
    · rintro (⟨k, lt, some, words⟩ | ⟨k, lt, same, indexes⟩)
      · exact ⟨k, lt, (RawWindow.conflicts_iff full (lower k lt some)).mpr ⟨some, .inl words⟩⟩
      · have some : (rawWindow s.windows.staged k).kind ≠ 0 := same ▸ used
        exact ⟨k, lt, (RawWindow.conflicts_iff full (lower k lt some)).mpr ⟨some, .inr ⟨same, indexes⟩⟩⟩

/-- The lowest descriptor that breaks a rule is the one that refuses the load (R29). -/
theorem State.find_windowOffends {s : State} {n : Fin 16} (breaks : s.breaksRules n)
    (below : ∀ k, k < n → ¬ s.breaksRules k) : (List.finRange 16).find? s.windowOffends = some n := by
  rw [← Fin.find?_eq_find?_finRange, Fin.find?_eq_some_iff]
  refine ⟨(State.windowOffends_iff below).mpr breaks, fun k lt => ?_⟩
  rw [← Bool.not_eq_true, State.windowOffends_iff fun j lt' => below j (lt'.trans lt)]
  exact below k lt

theorem State.find_windowOffends_none {s : State} (sound : ∀ n, ¬ s.breaksRules n) :
    (List.finRange 16).find? s.windowOffends = none := by
  rw [List.find?_eq_none]
  intro n _
  rw [State.windowOffends_iff fun k _ => sound k]
  exact sound n

/-! ## The load (R30, R31) -/

/-- A set made active, with no command in progress (R17, R30, R38). -/
theorem State.applyWindows_of_idle {s : State} (idle : s.ctl.busy = none) (ws : Vector Window 16) :
    s.applyWindows ws =
      let changed := homeChanged s.windows.active ws
      { s with
        windows := { s.windows with active := ws }
        chans := Vector.ofFn fun c => if changed c then (s.chan c).unsee else s.chan c
        taper := { s.taper with waiters := s.taper.waiters.filter fun w => !w.fetched changed }
        port := s.port.keep fun e => !e.carriesChan changed } :=
  State.syncCheck_of_idle idle

theorem exec_loadWindows {s : State} (run : s.inReset = false) (idle : s.ctl.busy = none) (tag : BitVec 8) (arg : BitVec 16) :
    exec (.loadWindows tag arg) s = .next (s.loadWindows tag) := by
  have taken : s.takeCommand 0x08#8 tag arg = s.loadWindows tag := by
    simp only [State.takeCommand, idle]
    rfl
  exact (live_running (f := fun s => s.takeCommand 0x08#8 tag arg) run).trans (congrArg _ taken)

end Sys2Proof.Machine
end

section
namespace Sys2Proof.Machine

open Sys2Proof

/-! ## The load as a whole (R29 to R31, R38, R40) -/

theorem InjEntry.carriesChan_of {c : ChanId} {e : InjEntry} (own : e.isPositionOf c = true ∨ e.isFetchOf c = true)
    (test : ChanId → Bool) : e.isStatus = false ∧ e.carriesChan test = test c := by
  obtain ⟨_, _, body⟩ := e
  cases body <;> simp_all [InjEntry.isPositionOf, InjEntry.isFetchOf, InjEntry.isStatus, InjEntry.carriesChan]

/-- The strips below one are those before it in strip order. -/
theorem countP_below {before after : List StripId} {i : StripId} (split : List.finRange 32 = before ++ i :: after)
    (p : StripId → Bool) : ((List.finRange 32).countP fun j => decide (j < i) && p j) = before.countP p := by
  have order := List.pairwise_lt_finRange 32
  rw [split] at order ⊢
  obtain ⟨-, tail, apart⟩ := List.pairwise_append.mp order
  have low : (before.countP fun j => decide (j < i) && p j) = before.countP p :=
    List.countP_congr fun j mem => by simp [apart j mem i List.mem_cons_self]
  have high : ((i :: after).countP fun j => decide (j < i) && p j) = 0 :=
    List.countP_eq_zero.mpr fun j mem => by
      obtain rfl | later := List.mem_cons.mp mem
      · simp
      · simp [Fin.not_lt.mpr (List.rel_of_pairwise_cons tail later).le]
  rw [List.countP_append, low, high, Nat.add_zero]

section load

variable {s : State} (idle : s.ctl.busy = none) (ws : Vector Window 16)

/-- Whether a channel's home under a new set is the one it has (R30). -/
theorem State.homeChanged_eq_false (s : State) (ws : Vector Window 16) (c : ChanId) :
    homeChanged s.windows.active ws c = false ↔ homeIn ws c = s.home c := by
  simp only [homeChanged, bne_eq_false_iff_eq]
  exact eq_comm

include idle

theorem State.applyWindows_home (c : ChanId) : (s.applyWindows ws).home c = homeIn ws c := by
  rw [State.applyWindows_of_idle idle]
  rfl

/-- Only the channels whose home changed become UNSEEN (R30). -/
theorem State.applyWindows_chan (c : ChanId) : (s.applyWindows ws).chan c =
    if homeIn ws c = s.home c then s.chan c else ⟨none, none, (s.chan c).seq⟩ := by
  have record : (s.applyWindows ws).chan c =
      if homeChanged s.windows.active ws c then (s.chan c).unsee else s.chan c := by
    rw [State.applyWindows_of_idle idle]
    exact Vector.getElem_ofFn ..
  rw [record]
  by_cases same : homeIn ws c = s.home c
  · rw [if_pos same, (s.homeChanged_eq_false ws c).mpr same]
    rfl
  · rw [if_neg same, Bool.eq_true_of_not_eq_false (mt (s.homeChanged_eq_false ws c).mp same)]
    rfl

theorem State.applyWindows_keepsStrip (i : StripId) : s.KeepsStrip (s.applyWindows ws) i := by
  rw [State.applyWindows_of_idle idle]
  exact ⟨rfl, rfl⟩

theorem State.applyWindows_ctl : (s.applyWindows ws).ctl = s.ctl := by
  rw [State.applyWindows_of_idle idle]

theorem State.applyWindows_queue : (s.applyWindows ws).port.queue =
    s.port.queue.filter fun e => !e.carriesChan (homeChanged s.windows.active ws) := by
  rw [State.applyWindows_of_idle idle]
  rfl

/-- EVENT entries stand through a load (R17, R30). -/
theorem State.applyWindows_events :
    (s.applyWindows ws).port.queue.countP InjEntry.isEvent = s.port.queue.countP InjEntry.isEvent := by
  rw [State.applyWindows_queue idle, List.countP_filter]
  refine List.countP_congr fun e _ => ?_
  obtain ⟨_, _, body⟩ := e
  cases body <;> simp [InjEntry.isEvent, InjEntry.carriesChan]

/-- With no FETCH unissued the examination finds room for one of each strip (R11). -/
theorem State.applyWindows_fetches (unasked : ∀ e ∈ s.port.queue, e.isFetch = false) :
    (s.applyWindows ws).port.queue.countP InjEntry.isFetch + allStrips.length ≤ 32 := by
  have absent : (s.applyWindows ws).port.queue.countP InjEntry.isFetch = 0 := by
    rw [State.applyWindows_queue idle]
    exact List.countP_eq_zero.mpr fun e mem => by simp [unasked e (List.mem_filter.mp mem).1]
  simp [absent, allStrips]

/-- The waiting conversions of fetches go for the channels whose home changed (R38). -/
theorem State.applyWindows_taper : (s.applyWindows ws).taper =
    { s.taper with waiters := s.taper.waiters.filter fun w =>
      match w with
      | .level c true _ => decide (homeIn ws c = s.home c)
      | _ => true } := by
  rw [State.applyWindows_of_idle idle]
  have same : ∀ w : Waiter, (!w.fetched (homeChanged s.windows.active ws)) =
      match w with
      | .level c true _ => decide (homeIn ws c = s.home c)
      | _ => true := by
    intro w
    match w with
    | .beat => rfl
    | .threshold _ _ _ => rfl
    | .level _ false _ => rfl
    | .level c true _ =>
      exact Bool.eq_iff_iff.mpr (by simp [Waiter.fetched, s.homeChanged_eq_false])
  simp only [same]

/-- The entries after the examination: those that stood, but the POSITIONs and FETCHes of channels whose home changed, and behind them events and the FETCHes at
the new homes (R13, R30, R31). -/
theorem State.applyWindows_entries {v : State} (examined : (s.applyWindows ws).Examined s.windows.active v) {e : InjEntry}
    {c : ChanId} (own : e.isPositionOf c = true ∨ e.isFetchOf c = true) :
    (e ∈ s.port.queue → homeIn ws c = s.home c → e ∈ v.port.others) ∧
    (e ∈ v.port.others → homeIn ws c = s.home c ∨
      ∃ a o, homeIn ws c = some (a, o) ∧ e.addr = a ∧ e.body = .fetch c (s.chan c).seq o) := by
  obtain ⟨other, carries⟩ := InjEntry.carriesChan_of own (homeChanged s.windows.active ws)
  obtain ⟨new, eq, kinds⟩ := examined.entries
  have stood : (s.applyWindows ws).port.others =
      s.port.others.filter fun e => !e.carriesChan (homeChanged s.windows.active ws) := State.keepEntries_others ..
  rw [eq, stood, List.mem_append, List.mem_filter, ImagePort.mem_others, carries]
  refine ⟨fun mem same => .inl ⟨⟨mem, other⟩, ?_⟩, fun stands => ?_⟩
  · simpa [s.homeChanged_eq_false] using same
  · obtain ⟨-, same⟩ | mem := stands
    · exact .inl (by simpa [s.homeChanged_eq_false] using same)
    · obtain event | ⟨d, a, o, -, home, addr, body⟩ := kinds e mem
      · obtain ⟨_, _, body⟩ := e
        cases body <;> simp_all [InjEntry.isEvent, InjEntry.isPositionOf, InjEntry.isFetchOf]
      · have same : d = c := by simpa [InjEntry.isPositionOf, InjEntry.isFetchOf, body] using own
        subst same
        rw [State.applyWindows_home idle] at home
        have seq : ((s.applyWindows ws).chan d).seq = (s.chan d).seq := by
          rw [State.applyWindows_chan idle]
          split <;> rfl
        exact .inr ⟨a, o, home, addr, seq ▸ body⟩

end load

end Sys2Proof.Machine
end

section
namespace Sys2Proof.Machine

open Sys2Proof

/-! ## What LOAD_WINDOWS leaves (R30, R31, R40, R203) -/

/-- The machine with a set made active and its strips examined, before the load's answer (R30, R31). -/
def State.loaded (s : State) (ws : Vector Window 16) : State :=
  (s.applyWindows ws).forStrips allStrips (State.examineStrip s.windows.active)

/-- A staged set that breaks no rule is loaded, and the answer counts the changed homes (R29 to R31). -/
theorem State.loadWindows_of_sound {s : State} (idle : s.ctl.busy = none) (sound : ∀ n, ¬ s.breaksRules n) (tag : BitVec 8) :
    s.loadWindows tag = (s.loaded s.windows.stagedSet).putResult tag .done
      (field16 (allChans.countP (homeChanged s.windows.active s.windows.stagedSet))) := by
  have free : (s.applyWindows s.windows.stagedSet).ctl.busy = none := by
    rw [State.applyWindows_ctl idle]
    exact idle
  simp only [State.loadWindows, State.find_windowOffends_none sound]
  exact State.writeResult_of_idle ((State.forStrips_examined s.windows.active allStrips _).idle free) ..

/-- An answer leaves the entries that are no STATUS (R192). -/
theorem State.mem_putResult {s : State} {tag : BitVec 8} {code : ResultCode} {v : BitVec 16} {e : InjEntry}
    (other : e.isStatus = false) : e ∈ (s.putResult tag code v).port.queue ↔ e ∈ s.port.others := by
  rw [← s.putResult_others tag code v, ImagePort.mem_others, and_iff_left other]

theorem State.putResult_eventAt {s t : State} {n : Nat} {kind : EventKind} {index : BitVec 8} {w : BitVec 16}
    (h : s.eventAt t n kind index w) (tag : BitVec 8) (code : ResultCode) (v : BitVec 16) :
    s.eventAt (t.putResult tag code v) n kind index w := by
  obtain ⟨e, mem, addr, body⟩ := h
  have other : e.isStatus = false := by simp [InjEntry.isStatus, body]
  exact ⟨e, (State.mem_putResult other).mpr (ImagePort.mem_others.mpr ⟨mem, other⟩), addr, body⟩

section load

variable {s : State} (idle : s.ctl.busy = none) (ws : Vector Window 16)

theorem State.loaded_examined (s : State) (ws : Vector Window 16) :
    (s.applyWindows ws).Examined s.windows.active (s.loaded ws) := State.forStrips_examined ..

theorem State.loaded_taper (s : State) (ws : Vector Window 16) : (s.loaded ws).taper = (s.applyWindows ws).taper := by
  rw [(s.loaded_examined ws).frame]

include idle

theorem State.loaded_windows : (s.loaded ws).windows = { s.windows with active := ws } := by
  rw [(s.loaded_examined ws).windows, State.applyWindows_of_idle idle]

theorem State.loaded_home (c : ChanId) : (s.loaded ws).home c = homeIn ws c :=
  ((s.loaded_examined ws).home c).trans (State.applyWindows_home idle ws c)

theorem State.loaded_chan (c : ChanId) : (s.loaded ws).chan c =
    if homeIn ws c = s.home c then s.chan c else ⟨none, none, (s.chan c).seq⟩ :=
  ((s.loaded_examined ws).chan c).trans (State.applyWindows_chan idle ws c)

theorem State.loaded_shown (i : StripId) : ((s.loaded ws).strip i).shown = (s.strip i).shown := by
  rw [(s.loaded_examined ws).shown, (State.applyWindows_keepsStrip idle ws i).record]

/-- A load changes windows, channels, the waiting conversions, strips, the start queue, the injection queue and the control unit alone. -/
theorem State.loaded_frame : s.loaded ws = { s with
    port := (s.loaded ws).port, windows := (s.loaded ws).windows, chans := (s.loaded ws).chans
    taper := (s.loaded ws).taper, strips := (s.loaded ws).strips, drive := (s.loaded ws).drive
    ctl := (s.loaded ws).ctl } := by
  have frame := (s.loaded_examined ws).frame
  rw [State.applyWindows_of_idle idle] at frame
  generalize s.loaded ws = v at frame ⊢
  rw [frame]

/-- A strip whose channel has no home under the new set (R40). -/
theorem State.applyWindows_homeless (i : StripId) : (s.applyWindows ws).homeless i =
    match (s.strip i).shown with
    | some c => (homeIn ws c).isNone
    | none => false := by
  rw [State.homeless, (State.applyWindows_keepsStrip idle ws i).record]
  cases (s.strip i).shown with
  | none => rfl
  | some c => exact congrArg Option.isNone (State.applyWindows_home idle ws c)

theorem State.applyWindows_movedTo (i : StripId) (c : ChanId) : (s.applyWindows ws).movedTo s.windows.active i c ↔
    (s.strip i).shown = some c ∧ homeIn ws c ≠ none ∧ homeIn ws c ≠ s.home c := by
  have active : (s.applyWindows ws).windows.active = ws := by
    rw [State.applyWindows_of_idle idle]
  simp only [State.movedTo, (State.applyWindows_keepsStrip idle ws i).record, State.applyWindows_home idle, active,
    Option.isSome_iff_ne_none, ne_eq, ← s.homeChanged_eq_false ws c, Bool.not_eq_false]

/-- A strip whose channel keeps its home is kept; any with a home is while no FETCH can be refused (R31, R39). -/
theorem State.loaded_keepsStrip {i : StripId} (homed : (s.applyWindows ws).homeless i = false)
    (unrefused : (∀ c, (s.strip i).shown = some c → homeIn ws c = s.home c) ∨ ∀ e ∈ s.port.queue, e.isFetch = false) :
    s.KeepsStrip (s.loaded ws) i := by
  refine (State.applyWindows_keepsStrip idle ws i).trans (State.forStrips_keeps _ (.inr homed) ?_)
  refine unrefused.imp (fun same c moved => ?_) (State.applyWindows_fetches idle ws)
  obtain ⟨shown, -, changed⟩ := (State.applyWindows_movedTo idle ws i c).mp moved
  exact changed (same c shown)

/-- A strip whose channel has no home takes its hold (R40, R78). -/
theorem State.loaded_tookHold {i : StripId} (homeless : (s.applyWindows ws).homeless i = true) :
    s.tookHold (s.loaded ws) i :=
  .between (State.applyWindows_keepsStrip idle ws i) (by rw [State.applyWindows_ctl idle])
    (State.forStrips_tookHold (List.nodup_finRange 32) (List.mem_finRange i) homeless) .refl

/-- A shown channel that has a new home is fetched there, while no FETCH can be refused (R13, R31). -/
theorem State.loaded_fetches (unasked : ∀ e ∈ s.port.queue, e.isFetch = false) {i : StripId} {c : ChanId}
    (shown : (s.strip i).shown = some c) (changed : homeIn ws c ≠ s.home c) (homed : homeIn ws c ≠ none) :
    ∃ e ∈ (s.loaded ws).port.others, e.isFetchOf c = true := by
  have fetched := State.forStrips_fetches (List.mem_finRange i)
    ((State.applyWindows_movedTo idle ws i c).mpr ⟨shown, homed, changed⟩) (State.applyWindows_fetches idle ws unasked)
  exact fetched

/-- One event for each strip whose channel has no home, and none else (R40, R203). -/
theorem State.loaded_serial (unasked : ∀ e ∈ s.port.queue, e.isFetch = false) : (s.loaded ws).ctl.serial =
    s.ctl.serial + BitVec.ofNat 16 ((List.finRange 32).countP (s.applyWindows ws).homeless) := by
  have sent := State.forStrips_sent (old := s.windows.active) allStrips (.zero (s.applyWindows ws))
    (State.applyWindows_fetches idle ws unasked)
  have serial := sent.serial
  rw [Nat.zero_add, State.applyWindows_ctl idle, ← State.loaded, allStrips] at serial
  exact serial

/-- The UNMAPPED event of a strip, behind those of the strips below it (R40, R203). -/
theorem State.loaded_reports (unasked : ∀ e ∈ s.port.queue, e.isFetch = false) {i : StripId} {c : ChanId}
    (shown : (s.strip i).shown = some c) (home : homeIn ws c = none) :
    let n := (List.finRange 32).countP fun j => decide (j < i) && (s.applyWindows ws).homeless j
    s.ringHasRoomFor (n + 1) →
      s.eventAt (s.loaded ws) n .unmapped (BitVec.ofNat 8 i.val) (BitVec.ofNat 16 c.val) := by
  intro n room
  obtain ⟨before, after, split⟩ := List.append_of_mem (List.mem_finRange i)
  have below : n = before.countP (s.applyWindows ws).homeless := countP_below split _
  have fetches := State.applyWindows_fetches idle ws unasked
  rw [allStrips, split] at fetches
  have report := State.forStrips_reports (old := s.windows.active) (before := before) (after := after)
    (by rw [(State.applyWindows_keepsStrip idle ws i).record, shown])
    ((State.applyWindows_home idle ws c).trans home) fetches
  rw [below] at room ⊢
  rw [← split, ← allStrips, ← State.loaded] at report
  simp only [State.eventAt, State.ringHasRoomFor, State.applyWindows_ctl idle, State.applyWindows_events idle] at report
  exact report room

/-! ### With its answer (R192) -/

variable (tag : BitVec 8) (v : BitVec 16)

/-- The load with the answer DONE (R30, R31, R192). -/
def State.loadDone (s : State) (ws : Vector Window 16) (tag : BitVec 8) (v : BitVec 16) : State :=
  (s.loaded ws).putResult tag .done v

omit idle in
/-- The answer keeps every strip. -/
theorem State.loadDone_keepsStrip (s : State) (i : StripId) : (s.loaded ws).KeepsStrip (s.loadDone ws tag v) i :=
  .of_eq (State.putResult_strips ..) (State.putResult_drive ..)

theorem State.loadDone_windows : (s.loadDone ws tag v).windows = { s.windows with active := ws } :=
  (State.putResult_windows ..).trans (State.loaded_windows idle ws)

theorem State.loadDone_home (c : ChanId) : (s.loadDone ws tag v).home c = homeIn ws c :=
  (State.putResult_home ..).trans (State.loaded_home idle ws c)

theorem State.loadDone_chan (c : ChanId) : (s.loadDone ws tag v).chan c =
    if homeIn ws c = s.home c then s.chan c else ⟨none, none, (s.chan c).seq⟩ :=
  (State.putResult_chan ..).trans (State.loaded_chan idle ws c)

omit idle in
theorem State.loadDone_taper (s : State) : (s.loadDone ws tag v).taper = (s.applyWindows ws).taper :=
  (State.putResult_taper ..).trans (s.loaded_taper ws)

/-- The POSITIONs and FETCHes that stand after the load: those of channels whose home is the same, and FETCHes at the new homes (R13, R30, R31). -/
theorem State.loadDone_entries {e : InjEntry} {c : ChanId} (own : e.isPositionOf c = true ∨ e.isFetchOf c = true) :
    (e ∈ s.port.queue → homeIn ws c = s.home c → e ∈ (s.loadDone ws tag v).port.queue) ∧
    (e ∈ (s.loadDone ws tag v).port.queue → homeIn ws c = s.home c ∨
      ∃ a o, homeIn ws c = some (a, o) ∧ e.addr = a ∧ e.body = .fetch c (s.chan c).seq o) := by
  rw [State.loadDone, State.mem_putResult (InjEntry.carriesChan_of own fun _ => true).1]
  exact State.applyWindows_entries idle ws (s.loaded_examined ws) own

/-- A shown channel's FETCH stands after the answer (R13, R31). -/
theorem State.loadDone_fetches (unasked : ∀ e ∈ s.port.queue, e.isFetch = false) {i : StripId} {c : ChanId}
    (shown : (s.strip i).shown = some c) (changed : homeIn ws c ≠ s.home c) (homed : homeIn ws c ≠ none) :
    ∃ e ∈ (s.loadDone ws tag v).port.queue, e.isFetchOf c = true := by
  obtain ⟨e, stands, own⟩ := State.loaded_fetches idle ws unasked shown changed homed
  rw [State.loadDone]
  exact ⟨e, (State.mem_putResult (InjEntry.carriesChan_of (.inr own) fun _ => true).1).mpr stands, own⟩

omit idle in
theorem State.loadDone_serial (s : State) : (s.loadDone ws tag v).ctl.serial = (s.loaded ws).ctl.serial := by
  obtain ⟨_, _, _, ctl⟩ := ((s.loaded ws).putResult_requests tag .done v).ctl
  rw [State.loadDone, ctl]

theorem State.loadDone_frame : s.loadDone ws tag v = { s with
    port := (s.loadDone ws tag v).port, windows := (s.loadDone ws tag v).windows, chans := (s.loadDone ws tag v).chans
    taper := (s.loadDone ws tag v).taper, strips := (s.loadDone ws tag v).strips, drive := (s.loadDone ws tag v).drive
    ctl := (s.loadDone ws tag v).ctl } := by
  have frame := State.loaded_frame idle ws
  have answered : s.loadDone ws tag v =
      { s.loaded ws with port := (s.loadDone ws tag v).port, ctl := (s.loadDone ws tag v).ctl } :=
    State.eq_of_port_ctl (s := s.loaded ws) (t := (s.loaded ws).putResult tag .done v)
  generalize s.loadDone ws tag v = t at answered ⊢
  generalize s.loaded ws = u at frame answered
  rw [answered, frame]

end load

/-- Settles O36: the lowest descriptor that breaks a rule refuses the load; a set that breaks none is made active, the strips are examined in order, and the
answer is DONE with the changed homes. -/
theorem loadWindowsJudgesStagedSet : Obligations.LoadWindowsJudgesStagedSet := by
  intro tag arg s run idle d limit offends
  have rules : ∀ n, offends n ↔ s.breaksRules n := fun n => by
    simp only [offends, limit, d, State.breaksRules, RawWindow.badField, RawWindow.badPlace, stretchesShare, windowLimit,
      or_assoc, exists_and_left]
  rw [exec_loadWindows run idle tag arg]
  simp -zeta only [rules]
  refine ⟨fun n breaks below => ?_, fun sound => ?_⟩
  · simp only [State.loadWindows, State.find_windowOffends breaks below]
    rfl
  rw [State.loadWindows_of_sound idle sound tag, ← State.loadDone]
  have active : ∀ n : Fin 16, s.windows.stagedSet[n.val] = (d n).window := fun n => Vector.getElem_ofFn ..
  generalize s.windows.stagedSet = ws at active ⊢
  have counted : homeChanged s.windows.active ws = fun c => homeIn ws c != s.home c := funext fun c => bne_comm
  rw [counted]
  obtain ⟨value, eq⟩ : ∃ v, v = field16 (allChans.countP fun c => homeIn ws c != s.home c) := ⟨_, rfl⟩
  rw [← eq]
  refine ⟨_, rfl, ?_⟩
  have home := State.loadDone_home idle ws tag value
  have windows := State.loadDone_windows idle ws tag value
  have answered := s.loadDone_keepsStrip ws tag value
  simp -zeta only [home]
  refine ⟨fun n => ?_, ?_, State.loadDone_chan idle ws tag value,
    fun e stood c own => (State.loadDone_entries idle ws tag value own).1 stood,
    fun e stands c own => ?_, fun unasked i c => State.loadDone_fetches idle ws tag value unasked,
    fun e stands c own => ((State.loadDone_entries idle ws tag value (.inr own)).2 stands).resolve_left, fun i => ?_,
    fun i same => ?_, ?_, ?_, ?_, State.loadDone_frame idle ws tag value⟩
  · rw [windows]
    exact active n
  · rw [windows]
  · obtain same | ⟨a, o, -, -, body⟩ := (State.loadDone_entries idle ws tag value (.inl own)).2 stands
    · exact same
    · simp [InjEntry.isPositionOf, body] at own
  · rw [(answered i).record]
    exact State.loaded_shown idle ws i
  · have homed : (s.applyWindows ws).homeless i = false := by
      rw [State.applyWindows_homeless idle]
      split
      · next c shown => simpa [Option.isSome_iff_ne_none] using (same c shown).2
      · rfl
    have kept := (State.loaded_keepsStrip idle ws homed (.inl fun c shown => (same c shown).1)).trans (answered i)
    exact ⟨kept.record, fun e own => kept.mem_iff own⟩
  · intro unmapped above
    have homeless : unmapped = (s.applyWindows ws).homeless := funext fun i =>
      (State.applyWindows_homeless idle ws i).symm
    clear_value unmapped
    subst homeless
    refine ⟨fun i homeless => .between .refl rfl (State.loaded_tookHold idle ws homeless) (answered i), fun unasked =>
      ⟨?_, fun i c shown homeless room => ?_, fun i homed => ?_⟩⟩
    · rw [State.loadDone_serial]
      exact State.loaded_serial idle ws unasked
    · exact State.putResult_eventAt (State.loaded_reports idle ws unasked shown homeless room) ..
    · exact ((State.loaded_keepsStrip idle ws homed (.inr unasked)).trans (answered i)).record
  · exact (State.loadDone_taper ..).trans (State.applyWindows_taper idle ws)
  · rw [State.loadDone, State.putResult_result, eq, field16, allChans]
    rfl

end Sys2Proof.Machine
end

section
namespace Sys2Proof.Machine

open Sys2Proof

/-! ## The taper law (R1, R42, R44, R45) -/

/-- By a positive divisor: half the divisor is added, and the quotient rounded down (R1). -/
theorem divNearest_of_pos {b : Int} (pos : 0 < b) (a : Int) : divNearest a b = (a + b / 2) / b := by
  rw [divNearest, floorDiv, floorDiv, Int.fdiv_eq_ediv_of_nonneg _ pos.le, Int.fdiv_eq_ediv_of_nonneg _ (by decide)]

/-- Along a rising segment the result lies between the segment's ends. -/
theorem interpolate_between {x x0 x1 y0 y1 : Int} (start : x0 ≤ x) (stop : x ≤ x1) (rises : x0 < x1) (up : y0 ≤ y1) :
    y0 ≤ interpolate x x0 x1 y0 y1 ∧ interpolate x x0 x1 y0 y1 ≤ y1 := by
  have pos : 0 < x1 - x0 := by omega
  have low : 0 ≤ (x - x0) * (y1 - y0) := Int.mul_nonneg (by omega) (by omega)
  have high : (x - x0) * (y1 - y0) ≤ (y1 - y0) * (x1 - x0) := by
    rw [Int.mul_comm]
    exact Int.mul_le_mul_of_nonneg_left (by omega) (by omega)
  have half : 0 ≤ (x1 - x0) / 2 ∧ (x1 - x0) / 2 < x1 - x0 := by omega
  have least : 0 ≤ ((x - x0) * (y1 - y0) + (x1 - x0) / 2) / (x1 - x0) := Int.ediv_nonneg (by omega) pos.le
  have most : ((x - x0) * (y1 - y0) + (x1 - x0) / 2) / (x1 - x0) < y1 - y0 + 1 :=
    Int.ediv_lt_of_lt_mul pos (by rw [Int.add_mul]; omega)
  rw [interpolate, divNearest_of_pos pos]
  omega

/-- A segment starts at its first end. -/
theorem interpolate_start {x0 x1 : Int} (rises : x0 < x1) (y0 y1 : Int) : interpolate x0 x0 x1 y0 y1 = y0 := by
  have half : (x1 - x0) / 2 / (x1 - x0) = 0 := Int.ediv_eq_zero_of_lt (by omega) (by omega)
  simp [interpolate, divNearest_of_pos (show 0 < x1 - x0 by omega), half]

/-- A search along a table stops at the first breakpoint that passes the test, with the segment that ends there. -/
theorem search_segment {F : Breakpoint → List Breakpoint → Int} {g : Breakpoint → Breakpoint → Int}
    {stop : Breakpoint → Prop} [DecidablePred stop]
    (cons : ∀ b c rest, F b (c :: rest) = if stop c then g b c else F c rest) :
    ∀ (l : List Breakpoint) (b : Breakpoint) (k : Nat) (h : k < l.length), (∀ j (hj : j < k), ¬ stop l[j]) → stop l[k] →
      F b l = g ((b :: l)[k]'(Nat.lt_succ_of_lt h)) l[k]
  | c :: rest, b, 0, _, _, stops => by exact (cons ..).trans (if_pos stops)
  | c :: rest, b, k + 1, h, before, stops => by
    refine ((cons ..).trans (if_neg (before 0 (Nat.succ_pos k)))).trans ?_
    exact search_segment cons rest c k (Nat.lt_of_succ_lt_succ h)
      (fun j hj => before (j + 1) (Nat.succ_lt_succ hj)) stops

namespace Taper

variable {tp : Taper}

/-- The search along a taper table's breakpoints. -/
theorem search_segment {F : Breakpoint → List Breakpoint → Int} {g : Breakpoint → Breakpoint → Int}
    {stop : Breakpoint → Prop} [DecidablePred stop]
    (cons : ∀ b c rest, F b (c :: rest) = if stop c then g b c else F c rest) (k : Fin 16)
    (before : ∀ j : Fin 16, j < k → ¬ stop tp[j.val + 1]) (stops : stop tp[k.val + 1]) :
    F tp[0] (tp.toList.drop 1) = g tp[k.val] tp[k.val + 1] := by
  have whole : tp[0] :: tp.toList.drop 1 = tp.toList := by
    simpa using List.cons_getElem_drop_succ (l := tp.toList) (n := 0) (h := by simp)
  have tail : ∀ (j : Nat) (hj : j < (tp.toList.drop 1).length), (tp.toList.drop 1)[j] = tp[j + 1]'(by simp at hj; omega) :=
    fun j hj => by simp
  rw [Machine.search_segment cons _ _ k.val (by simp) (fun j hj => by
    rw [tail]; exact before ⟨j, by omega⟩ hj) (by rw [tail]; exact stops)]
  simp only [tail, whole, Vector.getElem_toList]

/-- Levels rise along a table that LOAD_TAPER would pass (R42). -/
theorem wellFormed.levels (h : tp.wellFormed) : StrictMono fun i : Fin 17 => tp[i.val].level :=
  Fin.strictMono_iff_lt_succ.mpr fun i => (h.2.2.2.2 i).2

/-- Travels rise along a table that LOAD_TAPER would pass (R42). -/
theorem wellFormed.travels (h : tp.wellFormed) : StrictMono fun i : Fin 17 => tp[i.val].travel :=
  Fin.strictMono_iff_lt_succ.mpr fun i => (h.2.2.2.2 i).1

/-- Between the ends of a table some segment changes a property from failing to holding. -/
theorem exists_segment {p : Breakpoint → Prop} (first : ¬ p tp[0]) (last : p tp[16]) :
    ∃ k : Fin 16, ¬ p tp[k.val] ∧ p tp[k.val + 1] := by
  obtain ⟨n, fails, inside, holds⟩ := Nat.exists_not_and_succ_of_not_zero_of_exists
    (p := fun n => ∃ h : n < 17, p tp[n]) (fun ⟨_, h⟩ => first h) ⟨16, by omega, last⟩
  exact ⟨⟨n, by omega⟩, fun h => fails ⟨by omega, h⟩, holds⟩

/-- A level within a segment is interpolated along it (R44). -/
theorem wellFormed.travelFrom_eq (h : tp.wellFormed) {x : Int} {k : Fin 16} (above : tp[k.val].level ≤ x)
    (below : x < tp[k.val + 1].level) : travelFrom x tp[0] (tp.toList.drop 1) =
      interpolate x tp[k.val].level tp[k.val + 1].level tp[k.val].travel tp[k.val + 1].travel :=
  search_segment (F := travelFrom x) (g := fun b c => interpolate x b.level c.level b.travel c.travel)
    (fun _ _ _ => rfl) k (fun j hj => by
      have upTo := h.levels.monotone (a := j.succ) (b := k.castSucc) (Fin.mk_le_mk.mpr hj)
      exact not_lt.mpr (upTo.trans above)) below

/-- A travel within a segment is interpolated along it (R45). -/
theorem wellFormed.levelFrom_eq (h : tp.wellFormed) {t : Nat} {k : Fin 16} (above : tp[k.val].travel < t)
    (below : t ≤ tp[k.val + 1].travel) : levelFrom t tp[0] (tp.toList.drop 1) =
      interpolate t tp[k.val].travel tp[k.val + 1].travel tp[k.val].level tp[k.val + 1].level :=
  search_segment (F := levelFrom t) (g := fun b c => interpolate t b.travel c.travel b.level c.level)
    (fun _ _ _ => rfl) k (fun j hj => by
      have upTo := h.travels.monotone (a := j.succ) (b := k.castSucc) (Fin.mk_le_mk.mpr hj)
      exact not_le.mpr (Nat.lt_of_le_of_lt upTo above)) below

/-- Within the table's levels, but for the top, the travel is the one found by the segments (R44). -/
theorem wellFormed.levelToTravel_eq (h : tp.wellFormed) {code : Code} {k : Fin 16} (above : tp[k.val].level ≤ code.toInt)
    (below : code.toInt < tp[k.val + 1].level) :
    (levelToTravel tp code : Int) =
      interpolate code.toInt tp[k.val].level tp[k.val + 1].level tp[k.val].travel tp[k.val + 1].travel ∧
    levelToTravel tp code ≤ 4095 := by
  obtain ⟨zero, top, low, -, steps⟩ := id h
  obtain ⟨rises, climbs⟩ := steps k
  have inside := interpolate_between above below.le climbs (Int.ofNat_le.mpr rises.le)
  have floor : tp[0].level ≤ tp[k.val].level := h.levels.monotone (Fin.zero_le k.castSucc)
  have ceiling : tp[k.val + 1].level ≤ tp[16].level := h.levels.monotone (Fin.le_last k.succ)
  have most : tp[k.val + 1].travel ≤ tp[16].travel := h.travels.monotone (Fin.le_last k.succ)
  have legal : code ≠ Config.off := by
    rintro rfl
    have : (Config.off).toInt = -32768 := by decide
    omega
  unfold levelToTravel
  dsimp only
  by_cases bottom : code.toInt ≤ tp[0].level
  · have first : tp[k.val].level = code.toInt := by omega
    have start : (0 : Fin 17) = k.castSucc := h.levels.injective (show tp[0].level = tp[k.val].level by omega)
    have same : k.val = 0 := (Fin.val_eq_of_eq start).symm
    rw [if_pos (.inr bottom), ← first, interpolate_start climbs]
    simp [same, zero]
  · rw [if_neg (by simp [legal, bottom]), if_neg (by omega), h.travelFrom_eq above below]
    omega

/-- A travel above 0 and within the table has the level found by the segments (R45). -/
theorem wellFormed.travelToLevel_eq (h : tp.wellFormed) {t : Nat} {k : Fin 16} (above : tp[k.val].travel < t)
    (below : t ≤ tp[k.val + 1].travel) :
    (travelToLevel tp t).toInt =
      interpolate t tp[k.val].travel tp[k.val + 1].travel tp[k.val].level tp[k.val + 1].level ∧
    tp[0].level ≤ (travelToLevel tp t).toInt ∧ (travelToLevel tp t).toInt ≤ tp[16].level := by
  obtain ⟨-, -, low, high, steps⟩ := id h
  obtain ⟨rises, climbs⟩ := steps k
  have inside := interpolate_between (Int.ofNat_le.mpr above.le) (Int.ofNat_le.mpr below) (Int.ofNat_lt.mpr rises) climbs.le
  have floor : tp[0].level ≤ tp[k.val].level := h.levels.monotone (Fin.zero_le k.castSucc)
  have ceiling : tp[k.val + 1].level ≤ tp[16].level := h.levels.monotone (Fin.le_last k.succ)
  have kept : (travelToLevel tp t).toInt =
      interpolate t tp[k.val].travel tp[k.val + 1].travel tp[k.val].level tp[k.val + 1].level := by
    rw [travelToLevel, if_neg (by omega), h.levelFrom_eq above below]
    exact BitVec.toInt_ofInt_eq_self (by omega) (by omega) (by omega)
  omega

end Taper

/-- Settles O39: the segment that a code or a travel lies in gives the law, and the segments' ends give the range of the results. -/
theorem taperLawInterpolates : Obligations.TaperLawInterpolates := by
  intro tp h
  obtain ⟨zero, top, low, -, steps⟩ := id h
  have ends : tp[0].level < tp[16].level := h.levels (show (0 : Fin 17) < 16 by decide)
  have bottom : ∀ code : Code, code = 0x8000#16 ∨ code.toInt ≤ tp[0].level → levelToTravel tp code = 0 :=
    fun code off => if_pos off
  have above : ∀ code : Code, tp[16].level ≤ code.toInt → levelToTravel tp code = 4095 := fun code high => by
    have legal : code ≠ Config.off := by
      rintro rfl
      have : (Config.off).toInt = -32768 := by decide
      omega
    rw [levelToTravel, if_neg (by simp [legal]; omega), if_pos high]
    rfl
  refine ⟨bottom, above, fun code k at_ below => ?_, fun code => ?_, rfl, fun t k past upTo => ?_, fun t moved upTo => ?_⟩
  · rw [(h.levelToTravel_eq at_ below).1, interpolate, divNearest_of_pos (by have := (steps k).2; omega)]
  · by_cases off : code.toInt ≤ tp[0].level
    · simp [bottom code (.inr off)]
    by_cases full : tp[16].level ≤ code.toInt
    · exact (above code full).le
    obtain ⟨k, at_, below⟩ := Taper.exists_segment (tp := tp) (p := fun b => code.toInt < b.level) (by omega) (by omega)
    exact (h.levelToTravel_eq (not_lt.mp at_) below).2
  · rw [(h.travelToLevel_eq past upTo).1, interpolate, divNearest_of_pos (by have := (steps k).1; omega)]
  · obtain ⟨k, past, below⟩ := Taper.exists_segment (tp := tp) (p := fun b => t ≤ b.travel) (by omega) (by omega)
    exact (h.travelToLevel_eq (not_le.mp past) below).2

end Sys2Proof.Machine
end

section
namespace Sys2Proof.Machine

open Sys2Proof

/-! ## Conversion requests that find a place (R49) -/

namespace State

variable {s : State}

/-- With a slot free a request is made (R49). -/
theorem convert_of_room (room : s.taper.queue.length < 16) (q : ConvReq) : ∃ t, s.convert q = some t := by
  cases made : s.convert q with
  | some t => exact ⟨t, rfl⟩
  | none => exact absurd (State.convert_none made).2 (Nat.not_le.mpr room)

/-- The wait list becomes another. -/
abbrev setWaiters (s : State) (ws : List Waiter) : State := s.modTaper fun u => { u with waiters := ws }

/-! ## One waiter served (R52, R53) -/

/-- The request that serving a waiter makes: a threshold with the strip's code as it stands, a channel's conversion with the code its origin calls for when the
channel is SEEN and shown (R53). -/
def requestOf (s : State) : Waiter → Option ConvReq
  | .beat => none
  | .threshold i on o => some ⟨.threshold i on ((s.strip i).thresholdCode on), o⟩
  | .level k fromFetch o =>
    match (s.chan k).image, s.shownBy k with
    | some im, some _ =>
      some ⟨.levelToTravel k (if fromFetch then im else (s.chan k).proc.getD im) (s.chan k).seq, o⟩
    | _, _ => none

/-- The code to follow is the processor code, or else the image code (R83). -/
theorem codeToFollow_of_seen {k : ChanRec} {im : Code} (seen : k.image = some im) : k.codeToFollow = some (k.proc.getD im) := by
  unfold ChanRec.codeToFollow
  split
  · next code proc => simp [proc]
  · next proc => simp [proc, seen]

/-- A waiter with a request to make is served by it (R53). -/
theorem serveOne_request {w : Waiter} {r : ConvReq} (asks : s.requestOf w = some r) :
    s.serveOne w = (s.convert r).getD s := by
  cases w with
  | beat => cases asks
  | threshold i on o =>
    cases asks
    simp only [State.serveOne]
    split <;> simp_all
  | level k fromFetch o =>
    simp only [State.requestOf] at asks
    split at asks
    · next im i seen shown =>
      cases asks
      have code : (if fromFetch = true then some im else (s.chan k).codeToFollow) =
          some (if fromFetch = true then im else (s.chan k).proc.getD im) := by
        rw [State.codeToFollow_of_seen seen]
        split <;> rfl
      simp only [State.serveOne, seen, shown, code]
      split <;> simp_all
    · cases asks

/-- A channel that is no longer SEEN and shown is dropped (R53). -/
theorem serveOne_dropped {w : Waiter} (asks : s.requestOf w = none) (other : w ≠ .beat) : s.serveOne w = s := by
  cases w with
  | beat => exact absurd rfl other
  | threshold i on o => cases asks
  | level k fromFetch o =>
    simp only [State.requestOf] at asks
    split at asks
    · cases asks
    · next missing =>
      simp only [State.serveOne]
      split
      · next seen shown _ => exact absurd shown (missing _ _ seen)
      · rfl

/-- The held beat passes and does its work (R53). -/
theorem serveOne_beat {q : PortRequest} {data : Word} {e : Enables} (req : s.port.req = some q)
    (held : s.port.heldBeat = some (data, e)) :
    s.serveOne .beat = (s.modPort fun p => p.passBeat q data e).dataBeat q.beatAddr data e := by
  simp only [State.serveOne, State.serveBeat, req, held]

/-! ## The waiters in order (R53) -/

/-- With no waiter, or no slot free, nothing is served. -/
theorem serveWaiters_idle (idle : s.taper.waiters = [] ∨ 16 ≤ s.taper.queue.length) (n : Nat) : s.serveWaiters n = s := by
  cases n with
  | zero => rfl
  | succ n =>
    unfold State.serveWaiters
    split
    · rfl
    · next w rest waits =>
      obtain none | full := idle
      · simp [none] at waits
      · exact if_neg (Nat.not_lt.mpr full)

/-- With a slot free the oldest waiter leaves the list and is served. -/
theorem serveWaiters_head {w : Waiter} {ws : List Waiter} (waits : s.taper.waiters = w :: ws)
    (room : s.taper.queue.length < 16) (n : Nat) :
    s.serveWaiters (n + 1) = ((s.setWaiters ws).serveOne w).serveWaiters n := by
  rw [State.serveWaiters]
  simp only [waits]
  exact if_pos room

theorem serveSlots_idle (idle : s.taper.waiters = [] ∨ 16 ≤ s.taper.queue.length) : s.serveSlots = s :=
  State.serveWaiters_idle idle _

/-- The service begins with the oldest waiter. -/
theorem serveSlots_head {w : Waiter} {ws : List Waiter} (waits : s.taper.waiters = w :: ws)
    (room : s.taper.queue.length < 16) :
    s.serveSlots = ((s.setWaiters ws).serveOne w).serveWaiters ws.length := by
  rw [State.serveSlots, waits, List.length_cons, State.serveWaiters_head waits room]

/-! ## The end of LOAD_TAPER (R60) -/

/-- With no LOAD_TAPER in progress there is none to complete. -/
theorem taperCheck_of_no_load (idle : ∀ tag n, s.ctl.busy ≠ some (.loadTaper tag n)) : s.taperCheck = s := by
  unfold State.taperCheck
  split
  · next busy => exact absurd busy (idle _ _)
  · rfl

/-- The end of LOAD_TAPER changes the image port and the control unit alone. -/
theorem taperCheck_eq (s : State) : s.taperCheck = { s with port := s.taperCheck.port, ctl := s.taperCheck.ctl } := by
  unfold State.taperCheck
  split
  · split
    · rfl
    · exact State.eq_of_port_ctl
  · rfl

/-- The end of LOAD_TAPER leaves the ports' lines as they are. -/
theorem taperCheck_sameLines (s : State) : s.port.SameLines s.taperCheck.port := by
  unfold State.taperCheck
  split
  · split <;> exact {}
  · exact {}

end State

/-! ## The code a passing beat leaves (R33) -/

/-- A beat that covers a fader word's code sets the image code of its channel (R33). -/
theorem State.dataBeat_image {s : State} {addr : Nat} {data : Word} {e : Enables} {c : ChanId} {order : WordOrder}
    (fader : s.decodeBeat addr = .fader c order) (covers : coversCode order e = true) :
    ((s.dataBeat addr data e).chan c).image = some (codeHalf order data) := by
  simp [State.dataBeat, fader, State.faderBeat, beatCode_of_covers covers, State.writeCode, ChanRec.take]

/-- A held beat that is served leaves the P-port for the M-port (R5, R53). -/
theorem State.served_beat_port (s : State) (q : PortRequest) (data : Word) (e : Enables) :
    let t := (s.modPort fun p => p.passBeat q data e).dataBeat q.beatAddr data e
    t.port.heldBeat = none ∧ t.port.toMemory = s.port.toMemory ++ [MOut.writeBeat data e] := by
  intro t
  have lines := (s.modPort fun p => p.passBeat q data e).dataBeat_sameLines q.beatAddr data e
  refine ⟨lines.heldBeat.trans ?_, lines.toMemory.trans ?_⟩ <;> simp [ImagePort.passBeat_eq]

theorem exec_slotWaiterServe {s : State} (run : s.inReset = false) :
    exec .slotWaiterServe s = .next s.serveSlots.taperCheck :=
  live_running (f := fun s => s.serveSlots.taperCheck) run

/-- One waiter with a request to make: the request stands in the queue, and nothing but the taper unit changes (R53). -/
theorem State.serveSlots_request {s : State} {w : Waiter} {r : ConvReq} (waits : s.taper.waiters = [w])
    (room : s.taper.queue.length < 16) (asks : s.requestOf w = some r) :
    s.serveSlots.taper.waiters = [] ∧ (∃ q ∈ s.serveSlots.taper.queue, q.work = r.work) ∧
    s.serveSlots = { s with taper := s.serveSlots.taper } := by
  obtain ⟨t, made⟩ := State.convert_of_room (s := s.setWaiters []) room r
  have served : s.serveSlots = t := by
    rw [State.serveSlots_head waits room, State.serveOne_request (s := s.setWaiters []) asks, made]
    rfl
  rw [served]
  exact ⟨State.convert_waiters made, State.convert_carries made, (State.convert_some made :)⟩

/-- One waiter with no request to make leaves the list, and nothing else happens (R53). -/
theorem State.serveSlots_dropped {s : State} {w : Waiter} (waits : s.taper.waiters = [w])
    (room : s.taper.queue.length < 16) (asks : s.requestOf w = none) (other : w ≠ .beat) :
    s.serveSlots = s.setWaiters [] := by
  rw [State.serveSlots_head waits room, State.serveOne_dropped (s := s.setWaiters []) asks other]
  rfl

/-- A channel's waiter asks for a conversion exactly when the channel is SEEN and shown (R53). -/
theorem State.requestOf_level (s : State) (c : ChanId) (fromFetch o : Bool) :
    (∀ im, (s.chan c).image = some im → s.shownBy c ≠ none → s.requestOf (.level c fromFetch o) =
      some ⟨.levelToTravel c (if fromFetch then im else (s.chan c).proc.getD im) (s.chan c).seq, o⟩) ∧
    ((s.chan c).image = none ∨ s.shownBy c = none → s.requestOf (.level c fromFetch o) = none) := by
  refine ⟨fun im seen shows => ?_, fun gone => ?_⟩
  · obtain ⟨i, shown⟩ := Option.ne_none_iff_exists'.mp shows
    simp only [State.requestOf, seen, shown]
  · simp only [State.requestOf]
    split
    · next seen shown => simp [seen, shown] at gone
    · rfl

/-- Settles O42: the one waiter leaves the list, and its request, or the held beat, does its work. -/
theorem slotWaitersAreServed : Obligations.SlotWaitersAreServed := by
  intro s run idle
  rw [exec_slotWaiterServe run]
  have unloaded : ∀ t : State, t = { s with taper := t.taper } → t.taperCheck = t := fun t frame =>
    State.taperCheck_of_no_load fun _ _ => by
      rw [frame]
      simp [idle]
  have asked : ∀ w r, s.taper.waiters = [w] → s.taper.queue.length < 16 → s.requestOf w = some r →
      s.serveSlots.taperCheck = s.serveSlots := fun w r waits room asks =>
    unloaded _ (State.serveSlots_request waits room asks).2.2
  refine ⟨fun none => ?_, fun i on o waits room => ?_, fun c fromFetch o waits room => ?_,
    fun q data e waits room req held => ?_⟩
  · rw [State.serveSlots_idle none, unloaded s rfl]
  · obtain ⟨empty, made, frame⟩ := State.serveSlots_request waits room (r := ⟨.threshold i on _, o⟩) rfl
    exact ⟨_, congrArg _ (asked _ ⟨.threshold i on _, o⟩ waits room rfl), empty, made, frame⟩
  · obtain ⟨seenShown, dropped⟩ := s.requestOf_level c fromFetch o
    cases asks : s.requestOf (.level c fromFetch o) with
    | some r =>
      obtain ⟨empty, made, frame⟩ := State.serveSlots_request waits room asks
      refine ⟨_, congrArg _ (asked _ r waits room asks), empty, fun im seen shows => ?_, fun gone => ?_, frame⟩
      · cases asks.symm.trans (seenShown im seen shows)
        exact made
      · cases asks.symm.trans (dropped gone)
    | none =>
      rw [State.serveSlots_dropped waits room asks (by simp), unloaded (s.setWaiters []) rfl]
      refine ⟨_, rfl, rfl, fun im seen shows => ?_, fun _ => rfl, rfl⟩
      cases asks.symm.trans (seenShown im seen shows)
  · have served : s.serveSlots = ((s.setWaiters []).modPort fun p =>
        p.passBeat q data e).dataBeat q.beatAddr data e := by
      rw [State.serveSlots_head waits room, State.serveOne_beat (s := s.setWaiters []) req held]
      rfl
    obtain ⟨passed, sent⟩ := (s.setWaiters []).served_beat_port q data e
    rw [← served] at passed sent
    have lines := s.serveSlots.taperCheck_sameLines
    refine ⟨_, rfl, ?_, lines.heldBeat.trans passed, lines.toMemory.trans sent, fun c order fader covers => ?_⟩
    · rw [State.taperCheck_taper, served, State.dataBeat_waiters]
      rfl
    · rw [State.chan_congr (congrArg State.chans (State.taperCheck_eq _)), served]
      exact State.dataBeat_image fader covers

end Sys2Proof.Machine
end

section
namespace Sys2Proof.Machine

open Sys2Proof

/-- A strip's record once a code stands for the travel of its readback (R116, R117). -/
def Strip.readAs (p : Strip) (code : Code) (travel : Nat) : Strip :=
  { p with opCode := some code, lastReadback := some travel }

/-! ## Write-back (R12, R116) -/

namespace State

variable {s : State} {i : StripId} {c : ChanId} {code : Code}

/-- A POSITION that finds its place, a new one or that of the channel's own, stands at the channel's home with its code (R12). -/
theorem requestPosition_placed {a : Nat} {o : WordOrder} (home : s.home c = some (a, o))
    (place : s.port.queue.countP InjEntry.isPosition < 32 ∨ s.port.queue.any (InjEntry.isPositionOf c) = true) :
    ∃ x ∈ (s.requestPosition c code).port.queue, x.addr = a ∧ x.body = .position c code o := by
  obtain room | stands := place
  · exact State.requestPosition_stands home room
  · simp only [State.requestPosition, home, stands, if_pos]
    obtain ⟨x, mem, same⟩ := List.any_eq_true.mp stands
    exact ⟨_, List.mem_map_of_mem mem, by simp [InjEntry.replaceCode, same]⟩

/-- A POSITION that finds no place is refused (R12). -/
theorem requestPosition_refused (home : s.home c ≠ none) (full : 32 ≤ s.port.queue.countP InjEntry.isPosition)
    (none : s.port.queue.any (InjEntry.isPositionOf c) = false) (code : Code) :
    s.requestPosition c code = s.createEvent .writebackError (BitVec.ofNat 8 c.val) 2#16 := by
  obtain ⟨⟨a, o⟩, at_⟩ := Option.ne_none_iff_exists'.mp home
  simp only [State.requestPosition, at_, none, Bool.false_eq_true, if_false]
  exact if_neg (Nat.not_lt.mpr full)

/-- An event made with room in the ring has its entry (R203). -/
theorem createEvent_delivered (room : s.ringHasRoom) (kind : EventKind) (index : BitVec 8) (v : BitVec 16) :
    ∃ e ∈ (s.createEvent kind index v).port.queue,
      e.body = .event (eventWord0 kind index s.ctl.serial) (eventWord1 v s.ctl.time) := by
  obtain ⟨-, -, -, delivered, -⟩ := s.createEvent_createsEvent kind index v
  obtain ⟨events, -⟩ := delivered room
  have last := List.mem_append_right (s.port.queue.filter InjEntry.isEvent) (List.mem_singleton_self
    (InjEntry.mk s.port.nextStamp (s.ctl.slotAddr s.ctl.producer)
      (.event (eventWord0 kind index s.ctl.serial) (eventWord1 v s.ctl.time))))
  rw [← events] at last
  exact ⟨_, List.mem_of_mem_filter last, rfl⟩

/-- Memory may not hold a code that its image code is not, or while a POSITION stands (R116). -/
theorem mayDiffer_iff : s.mayDiffer c code = true ↔ (s.chan c).image ≠ some code ∨ s.positionStands c = true := by
  simp [State.mayDiffer]

/-- A code that memory may not hold is written back to the channel's home when its POSITION finds a place (R12, R116). -/
theorem writeBack_placed (home : s.home c ≠ none) (may : (s.chan c).image ≠ some code ∨ s.positionStands c = true)
    (place : s.port.queue.countP InjEntry.isPosition < 32 ∨ s.port.queue.any (InjEntry.isPositionOf c) = true) :
    ∃ e ∈ (s.writeBack c code).port.queue, ∃ a w, s.home c = some (a, w) ∧ e.addr = a ∧ e.body = .position c code w := by
  obtain ⟨⟨a, w⟩, at_⟩ := Option.ne_none_iff_exists'.mp home
  obtain ⟨x, mem, addr, body⟩ := State.requestPosition_placed (code := code) at_ place
  rw [State.writeBack, if_pos (State.mayDiffer_iff.mpr may)]
  exact ⟨x, mem, a, w, at_, addr, body⟩

/-- A code that memory holds is not written back (R116). -/
theorem writeBack_held (holds : ¬ ((s.chan c).image ≠ some code ∨ s.positionStands c = true)) : s.writeBack c code = s :=
  if_neg (mt State.mayDiffer_iff.mp holds)

/-! ## Retention (R47) -/

/-- Within deadband of its target, set by the channel it shows, a strip retains the target's code. -/
theorem retained_of_near {g : Target} (target : (s.strip i).target = some g) (shown : (s.strip i).shown = some g.chan)
    (near : dist (s.strip i).m g.travel ≤ s.param .deadband) : s.retained i = some g.code := by
  simp [State.retained, target, shown, near]

/-- With no target of the channel it shows within deadband, a strip retains nothing. -/
theorem retained_of_far (shown : (s.strip i).shown = some c)
    (far : ∀ g, (s.strip i).target = some g → g.chan ≠ c ∨ s.param .deadband < dist (s.strip i).m g.travel) :
    s.retained i = none := by
  unfold State.retained
  split
  · next g target =>
    refine if_neg fun near => ?_
    simp only [shown, Option.some.injEq, Bool.and_eq_true, decide_eq_true_eq] at near
    obtain ⟨own, near⟩ := near
    obtain other | far := far g target
    · exact other own.symm
    · omega
  · rfl

/-! ## The readback's condition (R115, R116) -/

/-- The readback condition, and the fader has moved since the last readback: the channel that is read back (R115, R116). -/
def readbackMade (s : State) (i : StripId) (c : ChanId) : Prop :=
  (((s.strip i).mode = .touch ∨ (s.strip i).mode = .latch) ∧ (s.strip i).touched = true ∨ (s.strip i).mode = .write) ∧
  (s.strip i).shown = some c ∧ s.home c ≠ none ∧
  (∀ x, (s.strip i).lastReadback = some x → s.param .readbackDeadband ≤ dist (s.strip i).m x)

theorem readsBack_iff : s.readsBack i = some c ↔
    (((s.strip i).mode = .touch ∨ (s.strip i).mode = .latch) ∧ (s.strip i).touched = true ∨ (s.strip i).mode = .write) ∧
    (s.strip i).shown = some c ∧ s.home c ≠ none := by
  simp only [State.readsBack]
  split
  · next due =>
    have due' : ((s.strip i).mode = .touch ∨ (s.strip i).mode = .latch) ∧ (s.strip i).touched = true ∨
        (s.strip i).mode = .write := by simpa using due
    split
    · next d shown =>
      simp only [due', shown, true_and, Option.some.injEq, Option.isSome_iff_ne_none]
      constructor
      · intro made
        split at made
        · next homed => cases made; exact ⟨rfl, homed⟩
        · cases made
      · rintro ⟨rfl, homed⟩
        exact if_pos homed
    · next none => simp [none]
  · next due => simpa using fun due' => absurd due' (by simpa using due)

theorem hasMoved_iff : s.hasMoved i = true ↔
    ∀ x, (s.strip i).lastReadback = some x → s.param .readbackDeadband ≤ dist (s.strip i).m x := by
  unfold State.hasMoved
  split
  · next none => simp [none]
  · next x last => simp [last]

end State

/-! ## The readback timer's expiry (R115, R116) -/

section expiry

variable {s : State} {i : StripId} {due : Nat}

/-- The expiry at its moment, with the next one set a period later (R115). -/
def State.readbackAgain (s : State) (i : StripId) (due : Nat) : State :=
  (s.reach due).modStrip i fun p => { p with readbackDue := some (due + s.param .readbackPeriod * Config.ms) }

theorem State.readbackAgain_strip (s : State) (i : StripId) (due : Nat) : (s.readbackAgain i due).strip i =
    { s.strip i with readbackDue := some (due + s.param .readbackPeriod * 4000) } := by
  simp [State.readbackAgain, Config.ms]

/-- Where the readback condition holds and the fader has moved, an expiry reads back. -/
theorem State.readbackExpires_made (timer : (s.strip i).readbackDue = some due) {c : ChanId} (made : s.readbackMade i c) :
    s.readbackExpires i = (s.readbackAgain i due).readback i c := by
  obtain ⟨mode, shown, homed, moved⟩ := made
  simp only [State.readbackExpires, timer, State.readsBack_iff.mpr ⟨mode, shown, homed⟩, State.hasMoved_iff.mpr moved, if_pos]
  rfl

/-- Elsewhere an expiry sets the next one and does nothing else. -/
theorem State.readbackExpires_unmade (timer : (s.strip i).readbackDue = some due) (unmade : ∀ c, ¬ s.readbackMade i c) :
    s.readbackExpires i = s.readbackAgain i due := by
  simp only [State.readbackExpires, timer]
  split
  · next c reads =>
    obtain ⟨mode, shown, homed⟩ := State.readsBack_iff.mp reads
    refine if_neg fun moved => unmade c ⟨mode, shown, homed, State.hasMoved_iff.mp moved⟩
  · rfl

/-- By retention the target's code is the operator code, and is written back at once (R47, R116). -/
theorem State.readback_retained {code : Code} (keeps : s.retained i = some code) (c : ChanId) :
    s.readback i c = (s.modStrip i fun p => p.readAs code (s.strip i).m).writeBack c code := by
  simp only [State.readback, keeps]
  rfl

/-- Without retention the measured travel is converted, unless the request cannot be made (R52, R116). -/
theorem State.readback_converted (lost : s.retained i = none) (c : ChanId) :
    s.readback i c = (s.convert ⟨.travelToLevel i (s.strip i).m c, false⟩).getD s := by
  simp only [State.readback, lost]
  split <;> simp_all

/-- A conversion request changes the taper unit alone, made or not. -/
theorem State.convert_getD_frame (s : State) (q : ConvReq) :
    (s.convert q).getD s = { s with taper := ((s.convert q).getD s).taper } := by
  cases made : s.convert q with
  | some t => exact State.convert_some made
  | none => rfl

/-- A readback leaves the clock, the readback timer and the other strips alone. -/
theorem State.readback_frame (s : State) (i : StripId) (c : ChanId) :
    (s.readback i c).clock = s.clock ∧ ((s.readback i c).strip i).readbackDue = (s.strip i).readbackDue ∧
    ∀ j, j ≠ i → (s.readback i c).strip j = s.strip j := by
  cases keeps : s.retained i with
  | some code =>
    rw [State.readback_retained keeps]
    exact ⟨by simp, by simp [Strip.readAs], fun j other => by simp [other]⟩
  | none =>
    rw [State.readback_converted keeps, State.convert_getD_frame]
    exact ⟨rfl, rfl, fun _ _ => rfl⟩

theorem exec_readbackExpiry (run : s.inReset = false) (i : StripId) :
    exec (.readbackExpiry i) s = .next (s.readbackExpires i) :=
  live_running (f := fun s => s.readbackExpires i) run

/-- What a readback by retention does: the operator code and the last readback, and the write-back test (R47, R116). -/
theorem State.readback_retains {c : ChanId} {code : Code} (keeps : s.retained i = some code) (home : s.home c ≠ none) :
    let t := s.readback i c
    t.strip i = { s.strip i with opCode := some code, lastReadback := some (s.strip i).m } ∧ t.taper = s.taper ∧
    ((s.chan c).image ≠ some code ∨ s.positionStands c = true →
      s.port.queue.countP InjEntry.isPosition < 32 ∨ s.port.queue.any (InjEntry.isPositionOf c) = true →
      ∃ e ∈ t.port.queue, ∃ a w, s.home c = some (a, w) ∧ e.addr = a ∧ e.body = .position c code w) ∧
    ((s.chan c).image ≠ some code ∨ s.positionStands c = true → 32 ≤ s.port.queue.countP InjEntry.isPosition →
      s.port.queue.any (InjEntry.isPositionOf c) = false → s.ringHasRoom →
      ∃ e ∈ t.port.queue, e.body = .event
        (eventWord0 .writebackError (BitVec.ofNat 8 c.val) s.ctl.serial) (eventWord1 2#16 s.ctl.time)) ∧
    ((s.chan c).image = some code → s.positionStands c = false → t.port = s.port) := by
  rw [State.readback_retained keeps]
  have at_ : ∀ f, (s.modStrip i f).home c ≠ none := fun _ => home
  refine ⟨by simp [Strip.readAs], by simp, State.writeBack_placed (at_ _), fun may full none room => ?_,
    fun same none => ?_⟩
  · have asks : ∀ f, (s.modStrip i f).writeBack c code = (s.modStrip i f).requestPosition c code := fun f =>
      if_pos (State.mayDiffer_iff.mpr may)
    rw [asks, State.requestPosition_refused (at_ _) full none]
    exact State.createEvent_delivered (s := s.modStrip i _) room ..
  · rw [State.writeBack_held (s := s.modStrip i _) (not_or.mpr ⟨not_not.mpr same, ne_true_of_eq_false none⟩)]
    rfl

/-- What a readback by a conversion does: the request stands, or the queue is full and nothing happens (R52, R116). -/
theorem State.readback_converts {c : ChanId} (lost : s.retained i = none) :
    let t := s.readback i c
    t.strip i = s.strip i ∧
    (s.taper.hasUnstarted (.readback i) = true ∨ s.taper.queue.length < 16 →
      ∃ q ∈ t.taper.queue, q.work = .travelToLevel i (s.strip i).m c) ∧
    (s.taper.hasUnstarted (.readback i) = false → 16 ≤ s.taper.queue.length → t.taper = s.taper) := by
  rw [State.readback_converted lost]
  refine ⟨by rw [State.convert_getD_frame]; rfl, fun place => ?_, fun lacks full => ?_⟩
  · cases made : s.convert ⟨.travelToLevel i (s.strip i).m c, false⟩ with
    | some t => exact State.convert_carries made
    | none =>
      obtain ⟨lacks, full⟩ := State.convert_none made
      obtain has | room := place
      · exact absurd has (ne_true_of_eq_false lacks)
      · omega
  · cases made : s.convert ⟨.travelToLevel i (s.strip i).m c, false⟩ with
    | some t =>
      obtain ⟨has, -⟩ | ⟨-, room, -⟩ := State.convert_cases made
      · exact absurd has (ne_true_of_eq_false lacks)
      · omega
    | none => rfl

end expiry

/-- Settles O50: an expiry reads back where the condition holds, by retention or by a conversion. -/
theorem readbacksReportTheHand : Obligations.ReadbacksReportTheHand := by
  intro i due s run timer p condition
  rw [exec_readbackExpiry run]
  have again := s.readbackAgain_strip i due
  have others : ∀ j, j ≠ i → (s.readbackAgain i due).strip j = s.strip j := fun j other => by
    simp [State.readbackAgain, other]
  have result : s.readbackExpires i = s.readbackAgain i due ∨
      ∃ c, condition c ∧ s.readbackExpires i = (s.readbackAgain i due).readback i c := by
    by_cases made : ∃ c, condition c
    · obtain ⟨c, made⟩ := made
      exact .inr ⟨c, made, State.readbackExpires_made timer made⟩
    · exact .inl (State.readbackExpires_unmade timer (not_exists.mp made))
  have frame : (s.readbackExpires i).clock = max s.clock due ∧
      ((s.readbackExpires i).strip i).readbackDue = some (due + s.param .readbackPeriod * 4000) ∧
      ∀ j, j ≠ i → (s.readbackExpires i).strip j = s.strip j := by
    obtain unmade | ⟨c, -, made⟩ := result
    · rw [unmade]
      exact ⟨rfl, by rw [again], others⟩
    · obtain ⟨clock, next, kept⟩ := (s.readbackAgain i due).readback_frame i c
      rw [made]
      exact ⟨clock, by rw [next, again], fun j other => (kept j other).trans (others j other)⟩
  obtain ⟨clock, next, kept⟩ := frame
  refine ⟨_, rfl, clock, next, fun unmade => ?_, fun c g made target own near => ?_, fun c made far => ?_, kept⟩
  · rw [next, State.readbackExpires_unmade timer unmade]
    exact ⟨again, rfl⟩
  · have keeps : (s.readbackAgain i due).retained i = some g.code := State.retained_of_near
      (by rw [again]; exact target) (by rw [again, own]; exact made.2.1) (by rw [again]; exact near)
    obtain ⟨record, rest⟩ := State.readback_retains (s := s.readbackAgain i due) (c := c) keeps made.2.2.1
    rw [next, State.readbackExpires_made timer made]
    refine ⟨?_, rest⟩
    rw [record, again]
  · have lost : (s.readbackAgain i due).retained i = none := State.retained_of_far
      (by rw [again]; exact made.2.1) (by rw [again]; exact far)
    obtain ⟨record, rest⟩ := State.readback_converts (s := s.readbackAgain i due) (c := c) lost
    rw [again] at record rest
    rw [next, State.readbackExpires_made timer made]
    exact ⟨record, rest⟩

end Sys2Proof.Machine
end

section
namespace Sys2Proof.Machine

open Sys2Proof

/-! ## What a conversion request leaves of the taper unit (R49, R50, R52) -/

/-- A running conversion goes on (R50). -/
theorem State.startHead_of_running {s : State} {run : ConvRun} (runs : s.taper.running = some run) : s.startHead = s := by
  unfold State.startHead
  rw [runs]

/-- From `u` to `v` the tables and a running conversion are kept (R50). -/
structure TaperUnit.GoesOn (u v : TaperUnit) : Prop where
  active : v.active = u.active
  staged : v.staged = u.staged
  running : ∀ run, u.running = some run → v.running = some run

theorem TaperUnit.GoesOn.trans {u v w : TaperUnit} (h : u.GoesOn v) (h' : v.GoesOn w) : u.GoesOn w :=
  ⟨h'.active.trans h.active, h'.staged.trans h.staged, fun run runs => h'.running run (h.running run runs)⟩

theorem State.startHead_goesOn (s : State) : s.taper.GoesOn s.startHead.taper := by
  unfold State.startHead
  split
  · next none _ => exact ⟨rfl, rfl, fun run runs => by simp [none] at runs⟩
  all_goals exact ⟨rfl, rfl, fun _ runs => runs⟩

theorem State.convert_goesOn {s t : State} {q : ConvReq} (made : s.convert q = some t) : s.taper.GoesOn t.taper := by
  obtain ⟨-, eq⟩ | ⟨-, -, rfl⟩ := State.convert_cases made
  · rw [eq]
    exact ⟨rfl, rfl, fun _ runs => runs⟩
  · obtain ⟨active, staged, running⟩ := (s.modTaper fun u => { u with queue := u.queue ++ [q] }).startHead_goesOn
    exact ⟨active, staged, running⟩

theorem State.wait_goesOn (s : State) (w : Waiter) : s.taper.GoesOn (s.wait w).taper := by
  rw [State.wait_taper_eq]
  exact ⟨rfl, rfl, fun _ runs => runs⟩

theorem State.convertOrWait_goesOn (s : State) (q : ConvReq) (w : Waiter) : s.taper.GoesOn (s.convertOrWait q w).taper := by
  unfold State.convertOrWait
  split
  · next made => exact State.convert_goesOn made
  · exact s.wait_goesOn w

/-! ## Owned requests (R49, R52, R59, R60) -/

/-- The work is asked for with the owner mark: its request stands in the queue, or a waiter of its key stands. -/
def TaperUnit.owns (u : TaperUnit) (r : ConvWork) : Prop :=
  (∃ q ∈ u.queue, q.work = r ∧ q.owned = true) ∨ ∃ w ∈ u.waiters, w.key = some r.key ∧ w.isOwned = true

/-- The owner mark of a waiter is set by it, or was set before. -/
theorem Waiter.isOwned_own {w : Waiter} {k : ConvKey} (key : w.key = some k) (o : Bool) :
    (w.own o).isOwned = (w.isOwned || o) := by
  cases w with
  | beat => cases key
  | level => rfl
  | threshold => rfl

namespace State

variable {s t : State} {q : ConvReq} {w : Waiter} {r : ConvWork}

/-- An owned request that is made stands with its mark, and one that stands keeps its mark and its input: no request of its key brings another input. -/
theorem convert_owns (made : s.convert q = some t) :
    (q.owned = true → t.taper.owns q.work) ∧
    (s.taper.owns r → (q.work.key = r.key → q.work = r) → t.taper.owns r) := by
  have waiters := State.convert_waiters made
  obtain ⟨has, eq⟩ | ⟨-, -, rfl⟩ := State.convert_cases made
  · refine ⟨fun owned => ?_, fun owns same => owns.imp (fun ⟨x, mem, work, owned⟩ => ?_) (by rw [waiters]; exact id)⟩
    · obtain ⟨old, mem, key⟩ := List.any_eq_true.mp has
      refine .inl ⟨q.coalesce old, ?_, ?_⟩
      · rw [eq]
        exact List.mem_append_right _ (List.mem_map_of_mem mem)
      · simp [ConvReq.coalesce, beq_iff_eq.mp key, owned]
    · rw [eq]
      rw [← TaperUnit.started_append_unstarted] at mem
      obtain started | unstarted := List.mem_append.mp mem
      · exact ⟨x, List.mem_append_left _ started, work, owned⟩
      · refine ⟨q.coalesce x, List.mem_append_right _ (List.mem_map_of_mem unstarted), ?_⟩
        unfold ConvReq.coalesce
        split
        · next key => exact ⟨same (by rw [← key, work]), by simp [owned]⟩
        · exact ⟨work, owned⟩
  · refine ⟨fun owned => .inl ⟨q, by simp, rfl, owned⟩, fun owns _ =>
      owns.imp (fun ⟨x, mem, work, owned⟩ => ⟨x, ?_, work, owned⟩) (by rw [waiters]; exact id)⟩
    rw [State.startHead_taper_queue]
    exact List.mem_append_left _ mem

/-- An owned waiter that joins stands with its mark, and those that wait keep theirs. -/
theorem wait_owns (key : w.key = some r.key) (owned : w.isOwned = true) : (s.wait w).taper.owns r := by
  right
  simp only [State.wait, key, State.modTaper_taper]
  split
  · next has =>
    obtain ⟨x, mem, own⟩ := List.any_eq_true.mp has
    have own := beq_iff_eq.mp own
    exact ⟨_, List.mem_map_of_mem mem, by simp [own, Waiter.own_key], by simp [own, Waiter.isOwned_own own, owned]⟩
  · exact ⟨w, by simp, key, owned⟩

theorem wait_keepsOwned (owns : s.taper.owns r) (w : Waiter) : (s.wait w).taper.owns r := by
  rw [State.wait_taper_eq]
  refine owns.imp id fun ⟨x, mem, key, owned⟩ => ?_
  simp only [State.wait, State.modTaper_taper]
  split
  · split
    · refine ⟨_, List.mem_map_of_mem mem, ?_⟩
      split
      · exact ⟨(x.own_key _).trans key, by simp [Waiter.isOwned_own key, owned]⟩
      · exact ⟨key, owned⟩
    · exact ⟨x, List.mem_append_left _ mem, key, owned⟩
  · exact ⟨x, List.mem_append_left _ mem, key, owned⟩

/-- The work that LOAD_TAPER asks for under a key: a threshold of the strip's code, a SEEN channel's conversion of the code to follow (R46, R59). -/
def reseatWork (s : State) : ConvKey → Option ConvWork
  | .level c => (s.chan c).image.map fun im => .levelToTravel c ((s.chan c).proc.getD im) (s.chan c).seq
  | .readback _ => none
  | .threshold i on => some (.threshold i on ((s.strip i).thresholdCode on))

/-- From `s` to `t` only owned requests are made, each with the work of its key: only the taper unit changes, and what was owned stays so. -/
structure Reseated (s t : State) : Prop where
  frame : t = { s with taper := t.taper }
  goesOn : s.taper.GoesOn t.taper
  keeps : ∀ r, s.reseatWork r.key = some r → s.taper.owns r → t.taper.owns r

namespace Reseated

theorem refl : s.Reseated s := ⟨rfl, ⟨rfl, rfl, fun _ => id⟩, fun _ _ => id⟩

/-- The works of the keys do not depend on the taper unit. -/
theorem reseatWork (h : s.Reseated t) (k : ConvKey) : t.reseatWork k = s.reseatWork k := by
  rw [h.frame]
  cases k <;> rfl

theorem trans {u : State} (h : s.Reseated t) (h' : t.Reseated u) : s.Reseated u where
  frame := h'.frame.trans (by
    generalize u.taper = v
    rw [h.frame])
  goesOn := h.goesOn.trans h'.goesOn
  keeps r own owns := h'.keeps r (by rw [h.reseatWork, own]) (h.keeps r own owns)

end Reseated

/-- An owned request with the work of its key is asked for, and what was owned stays so (R49, R52). -/
theorem convertOrWait_reseated (own : s.reseatWork q.work.key = some q.work) (key : w.key = some q.work.key)
    (owned : q.owned = true) (marked : w.isOwned = true) :
    s.Reseated (s.convertOrWait q w) ∧ (s.convertOrWait q w).taper.owns q.work := by
  refine ⟨⟨State.convertOrWait_eq .., s.convertOrWait_goesOn q w, fun r canonical owns => ?_⟩, ?_⟩ <;>
    unfold State.convertOrWait <;> split
  · next made => exact (State.convert_owns made).2 owns fun same => by simpa [← same, own] using canonical
  · exact State.wait_keepsOwned owns w
  · next made => exact (State.convert_owns (r := q.work) made).1 owned
  · exact State.wait_owns key marked

/-- The works that LOAD_TAPER asks for on a strip's account: its two thresholds, and the re-seat of the SEEN channel it shows (R59). -/
def reseatAsks (s : State) (i : StripId) (r : ConvWork) : Prop :=
  (∃ on, r = .threshold i on ((s.strip i).thresholdCode on)) ∨
  ∃ c im, (s.strip i).shown = some c ∧ (s.chan c).image = some im ∧
    r = .levelToTravel c ((s.chan c).proc.getD im) (s.chan c).seq

theorem reseatWork_of_asks {i : StripId} (asks : s.reseatAsks i r) : s.reseatWork r.key = some r := by
  obtain ⟨on, rfl⟩ | ⟨c, im, -, seen, rfl⟩ := asks
  · rfl
  · simp [State.reseatWork, ConvWork.key, seen]

theorem convertThreshold_reseated (s : State) (i : StripId) (on : Bool) :
    s.Reseated (s.convertThreshold i on true) ∧
    (s.convertThreshold i on true).taper.owns (.threshold i on ((s.strip i).thresholdCode on)) :=
  State.convertOrWait_reseated (q := ⟨.threshold i on _, true⟩) rfl rfl rfl rfl

theorem convertShown_reseated (s : State) (i : StripId) :
    s.Reseated (s.convertShown i true) ∧
    ∀ c im, (s.strip i).shown = some c → (s.chan c).image = some im →
      (s.convertShown i true).taper.owns (.levelToTravel c ((s.chan c).proc.getD im) (s.chan c).seq) := by
  unfold State.convertShown
  split
  · next c shown =>
    unfold State.convertChannel
    split
    · next im code seen follow =>
      have own : code = (s.chan c).proc.getD im := by
        simpa [State.codeToFollow_of_seen seen] using follow.symm
      obtain ⟨reseated, owns⟩ := State.convertOrWait_reseated (s := s)
        (q := ⟨.levelToTravel c code (s.chan c).seq, true⟩) (w := .level c false true)
        (by simp [State.reseatWork, ConvWork.key, seen, own]) rfl rfl rfl
      refine ⟨reseated, fun d im' shown' seen' => ?_⟩
      cases shown.symm.trans shown'
      cases seen.symm.trans seen'
      exact own ▸ owns
    · next unseen =>
      refine ⟨.refl, fun d im shown' seen => ?_⟩
      cases shown.symm.trans shown'
      exact absurd (State.codeToFollow_of_seen seen) (unseen _ _ seen)
  · next blank => exact ⟨.refl, fun c im shown => by simp [blank] at shown⟩

/-- The requests of one strip are all asked for. -/
theorem reseat_reseated (s : State) (i : StripId) :
    s.Reseated (s.reseat i) ∧ ∀ r, s.reseatAsks i r → (s.reseat i).taper.owns r := by
  obtain ⟨shown, level⟩ := s.convertShown_reseated i
  obtain ⟨on, raised⟩ := (s.convertShown i true).convertThreshold_reseated i true
  obtain ⟨off, lowered⟩ := ((s.convertShown i true).convertThreshold i true true).convertThreshold_reseated i false
  have first := shown.trans on
  refine ⟨first.trans off, fun r asks => ?_⟩
  have own := State.reseatWork_of_asks asks
  obtain ⟨which, rfl⟩ | ⟨c, im, shows, seen, rfl⟩ := asks
  · have strip : ∀ {t : State}, s.Reseated t → t.strip i = s.strip i := fun h => by rw [h.frame]; rfl
    cases which with
    | true => exact off.keeps _ (by rw [first.reseatWork, own]) (strip shown ▸ raised)
    | false => exact strip first ▸ lowered
  · have stands := on.keeps _ (by rw [shown.reseatWork, own]) (level c im shows seen)
    exact off.keeps _ (by rw [first.reseatWork, own]) stands

/-- The requests of every strip are asked for, in strip order (R59). -/
theorem forStrips_reseated (l : List StripId) (s : State) :
    s.Reseated (s.forStrips l State.reseat) ∧
    ∀ i ∈ l, ∀ r, s.reseatAsks i r → (s.forStrips l State.reseat).taper.owns r := by
  induction l generalizing s with
  | nil => exact ⟨.refl, nofun⟩
  | cons j l ih =>
    obtain ⟨here, asked⟩ := s.reseat_reseated j
    obtain ⟨rest, others⟩ := ih (s.reseat j)
    rw [State.forStrips_cons]
    refine ⟨here.trans rest, fun i mem r asks => ?_⟩
    obtain rfl | later := List.mem_cons.mp mem
    · exact rest.keeps r (by rw [here.reseatWork, State.reseatWork_of_asks asks]) (asked r asks)
    · refine others i later r ?_
      rw [here.frame]
      exact asks

end State

/-! ## Which staged breakpoint offends (R58) -/

/-- A breakpoint breaks one of R58's six conditions. -/
def TaperUnit.breaksRules (u : TaperUnit) (k : Fin 17) : Prop :=
  4095 < (u.stagedPoint k).travel ∨ (u.stagedPoint k).level < -1440 ∨ 192 < (u.stagedPoint k).level ∨
  k.val = 0 ∧ (u.stagedPoint k).travel ≠ 0 ∨ k.val = 16 ∧ (u.stagedPoint k).travel ≠ 4095 ∨
  ∃ j : Fin 17, j.val + 1 = k.val ∧
    ((u.stagedPoint k).travel ≤ (u.stagedPoint j).travel ∨ (u.stagedPoint k).level ≤ (u.stagedPoint j).level)

theorem TaperUnit.pointOutOfOrder_iff (u : TaperUnit) (k : Fin 17) : u.pointOutOfOrder k = true ↔
    ∃ j : Fin 17, j.val + 1 = k.val ∧
      ((u.stagedPoint k).travel ≤ (u.stagedPoint j).travel ∨ (u.stagedPoint k).level ≤ (u.stagedPoint j).level) := by
  simp only [TaperUnit.pointOutOfOrder, Bool.and_eq_true, Bool.or_eq_true, decide_eq_true_eq]
  constructor
  · rintro ⟨later, order⟩
    exact ⟨⟨k.val - 1, by omega⟩, Nat.sub_add_cancel later, order⟩
  · rintro ⟨j, next, order⟩
    have before : (⟨k.val - 1, by omega⟩ : Fin 17) = j := Fin.ext (by simp; omega)
    rw [before]
    exact ⟨by omega, order⟩

theorem TaperUnit.pointOffends_iff (u : TaperUnit) (k : Fin 17) : u.pointOffends k = true ↔ u.breaksRules k := by
  simp only [TaperUnit.pointOffends, TaperUnit.pointOutOfRange, Bool.or_eq_true, TaperUnit.pointOutOfOrder_iff,
    decide_eq_true_eq, Bool.and_eq_true, beq_iff_eq, bne_iff_ne, TaperUnit.breaksRules, or_assoc]
  rfl

/-- The first number that a test passes is the one found. -/
theorem find_finRange {n : Nat} {p : Fin n → Bool} {q : Fin n → Prop} (test : ∀ k, p k = true ↔ q k) :
    (∀ k, q k → (∀ j, j < k → ¬ q j) → (List.finRange n).find? p = some k) ∧
    ((∀ k, ¬ q k) → (List.finRange n).find? p = none) := by
  refine ⟨fun k passes below => ?_, fun fails => List.find?_eq_none.mpr fun k _ => mt (test k).mp (fails k)⟩
  rw [← Fin.find?_eq_find?_finRange, Fin.find?_eq_some_iff]
  exact ⟨(test k).mpr passes, fun j lt => Bool.eq_false_iff.mpr (mt (test j).mp (below j lt))⟩

theorem exec_loadTaper {s : State} (run : s.inReset = false) (idle : s.ctl.busy = none) (tag : BitVec 8) (arg : BitVec 16) :
    exec (.loadTaper tag arg) s = .next (s.loadTaper tag) := by
  have taken : s.takeCommand 0x0A#8 tag arg = s.loadTaper tag := by
    simp only [State.takeCommand, idle]
    rfl
  exact (live_running (f := fun s => s.takeCommand 0x0A#8 tag arg) run).trans (congrArg _ taken)

/-! ## What LOAD_TAPER leaves (R59, R60) -/

/-- The number of re-seats (R60). -/
theorem State.reseats_eq (s : State) (i : StripId) :
    s.reseats i = (s.strip i).shown.any fun c => (s.chan c).image.isSome := by
  unfold State.reseats
  split <;> simp_all

/-- Settles O37: the first breakpoint that breaks a rule refuses the load; else every owned request that is asked for stands to the end of the load. -/
theorem loadTaperJudgesStagedTable : Obligations.LoadTaperJudgesStagedTable := by
  constructor
  · intro tag arg s run idle tr lv offends
    have rules : ∀ k, s.taper.pointOffends k = true ↔ offends k := s.taper.pointOffends_iff
    obtain ⟨found, sound⟩ := find_finRange rules
    rw [exec_loadTaper run idle]
    refine ⟨fun k breaks below => ?_, fun good => ?_⟩
    · simp only [State.loadTaper, found k breaks below]
      rfl
    have counted : s.reseats = fun i => (s.strip i).shown.any fun c => (s.chan c).image.isSome := funext s.reseats_eq
    obtain ⟨⟨frame, ⟨active, staged, running⟩, -⟩, asked⟩ :=
      (s.modTaper fun u => { u with active := u.stagedTable }).forStrips_reseated allStrips
    simp only [State.loadTaper, sound good, counted]
    generalize (s.modTaper fun u => { u with active := u.stagedTable }).forStrips allStrips State.reseat = t at *
    refine ⟨_, rfl, fun k => ?_, staged, running, fun i on => ?_, fun i c im shown seen => ?_, ?_⟩
    · rw [State.modCtl_taper, active]
      exact Vector.getElem_map ..
    · exact asked i (List.mem_finRange i) _ (.inl ⟨on, rfl⟩)
    · exact asked i (List.mem_finRange i) _ (.inr ⟨c, im, shown, seen, rfl⟩)
    · rw [frame]
      rfl
  · intro tag n s run busy
    have answered : exec .loadTaperComplete s = .next s.taperCheck := live_running (f := State.taperCheck) run
    rw [answered]
    refine ⟨fun owned => ?_, fun finished => ?_⟩
    · simp only [State.taperCheck, busy, owned, if_pos]
    · simp only [State.taperCheck, busy, finished]
      rfl

end Sys2Proof.Machine
end

section
namespace Sys2Proof.Machine

open Sys2Proof

/-! ## Commands in progress, with no SYNC among them (R191, R192, R199) -/

/-- With no SYNC in progress, from `s` to `t` no command completes: the command in progress and the last RESULT stand. -/
structure State.Steady (s t : State) : Prop where
  stands : (∀ tag point count, s.ctl.busy ≠ some (.sync tag point count)) →
    t.ctl.busy = s.ctl.busy ∧ t.ctl.result = s.ctl.result

namespace State.Steady

variable {s t u : State}

theorem of_ctl (ctl : t.ctl = s.ctl := by simp) : s.Steady t := ⟨fun _ => by rw [ctl]; exact ⟨rfl, rfl⟩⟩

theorem trans (h : s.Steady t) (h' : t.Steady u) : s.Steady u where
  stands idle := by
    obtain ⟨busy, result⟩ := h.stands idle
    obtain ⟨busy', result'⟩ := h'.stands (by rw [busy]; exact idle)
    exact ⟨busy'.trans busy, result'.trans result⟩

theorem modCtl {f : Control → Control} (busy : (f s.ctl).busy = s.ctl.busy := by rfl)
    (result : (f s.ctl).result = s.ctl.result := by rfl) : s.Steady (s.modCtl f) :=
  ⟨fun _ => ⟨busy, result⟩⟩

theorem syncCheck (s : State) : s.Steady s.syncCheck where
  stands idle := by
    rw [State.syncCheck_of_no_sync idle]
    exact ⟨rfl, rfl⟩

theorem requestStatus (s : State) (w : StatusWord) : s.Steady (s.requestStatus w) :=
  (of_ctl (State.pushStatus_ctl s w)).trans (syncCheck _)

theorem modCauses {f : Control → Control} (busy : (f s.ctl).busy = s.ctl.busy := by rfl)
    (result : (f s.ctl).result = s.ctl.result := by rfl) : s.Steady (s.modCauses f) := by
  unfold State.modCauses State.noteCauses
  split
  · exact modCtl busy result
  · exact (modCtl busy result).trans (requestStatus _ _)

theorem loseEvent (s : State) : s.Steady s.loseEvent := by
  unfold State.loseEvent
  dsimp only
  split
  · exact ((modCtl (f := fun c => { c with lostCount := c.lostCount + 1 })).trans (requestStatus _ _)).trans modCauses
  · exact modCauses

theorem deliverEvent (s : State) (kind : EventKind) (index : BitVec 8) (v n : BitVec 16) :
    s.Steady (s.deliverEvent kind index v n) := by
  have advanced : s.Steady (((s.pushEntry (s.ctl.slotAddr s.ctl.producer)
      (.event (eventWord0 kind index n) (eventWord1 v s.ctl.time))).modCtl fun c =>
        { c with producer := c.nextProducer }).requestStatus .producer) :=
    ((of_ctl (State.pushEntry_ctl ..)).trans modCtl).trans (requestStatus _ _)
  unfold State.deliverEvent
  dsimp only
  split
  · exact advanced
  · exact advanced.trans (requestStatus _ _)

theorem createEvent (s : State) (kind : EventKind) (index : BitVec 8) (v : BitVec 16) :
    s.Steady (s.createEvent kind index v) := by
  have numbered : s.Steady (s.modCtl fun c => { c with serial := c.serial + 1#16 }) := modCtl
  unfold State.createEvent
  dsimp only
  split
  · exact numbered
  · split
    · exact numbered.trans (loseEvent _)
    · exact numbered.trans (deliverEvent ..)

theorem requestPosition (s : State) (c : ChanId) (code : Code) : s.Steady (s.requestPosition c code) := by
  unfold State.requestPosition
  split
  · exact of_ctl rfl
  · split
    · exact of_ctl rfl
    · split
      · exact of_ctl
      · exact createEvent ..

theorem writeBack (s : State) (c : ChanId) (code : Code) : s.Steady (s.writeBack c code) := by
  unfold State.writeBack
  split
  · exact requestPosition ..
  · exact of_ctl rfl

theorem setLine (s : State) (i : StripId) (on : Bool) : s.Steady (s.setLine i on) := by
  unfold State.setLine
  split
  · exact of_ctl rfl
  · exact (of_ctl (State.modStrip_ctl s i fun p => { p with line := on })).trans (createEvent ..)

theorem forceLine (s : State) (i : StripId) : s.Steady (s.forceLine i) := by
  unfold State.forceLine
  split
  · exact setLine ..
  · exact of_ctl rfl

/-- Delivering a result completes no command (R54 to R56). -/
theorem deliver (s : State) (table : Taper) (w : ConvWork) : s.Steady (s.deliver table w) := by
  cases w with
  | levelToTravel c code seq =>
    simp only [State.deliver, State.deliverTravel]
    (repeat' split) <;> exact of_ctl
  | travelToLevel i travel c =>
    simp only [State.deliver, State.deliverLevel]
    split
    · split
      · exact (of_ctl (State.modStrip_ctl s i _)).trans (writeBack ..)
      · exact of_ctl
    · exact of_ctl
  | threshold i on code => exact (of_ctl (State.modStrip_ctl s i _)).trans (forceLine ..)

/-- A request that is made, or not, completes no command. -/
theorem convert (s : State) (q : ConvReq) : s.Steady ((s.convert q).getD s) :=
  of_ctl (by rw [State.convert_getD_frame])

theorem writeCode (s : State) (c : ChanId) (code : Code) : s.Steady (s.writeCode c code) := by
  have recorded : s.Steady (s.setChan c ((s.chan c).take code)) := of_ctl
  unfold State.writeCode State.handOff
  split
  · exact recorded
  · split
    · exact recorded
    · split
      · next made => exact recorded.trans (of_ctl (by rw [State.convert_some made]))
      · exact recorded
    · split
      · exact recorded.trans (requestPosition ..)
      · exact recorded

theorem portWork (s : State) (addr : Nat) (e : Enables) : s.Steady (s.portWork addr e) := by
  unfold State.portWork State.keepEntries
  exact ((of_ctl (State.modPort_ctl s _)).trans (of_ctl (State.modPort_ctl _ _))).trans (syncCheck _)

/-- A passing beat outside the control area completes no command. -/
theorem dataBeat (s : State) (addr : Nat) (data : Word) (e : Enables) : s.Steady (s.dataBeat addr data e) := by
  have work := portWork s addr e
  unfold State.dataBeat
  dsimp only
  split
  · refine work.trans ?_
    unfold State.faderBeat
    split
    · exact writeCode ..
    · exact of_ctl rfl
  · refine work.trans (of_ctl ?_)
    unfold State.captureMeter
    split <;> rfl
  · exact work
  · exact work

end State.Steady

/-! ## What the service of the wait list can do (R53) -/

/-- What serving waiters can do from `s` to `t`: the strips and the drive supervisor stand, with no beat held only the taper unit changes, and no command but
SYNC completes. -/
structure State.Served (s t : State) : Prop where
  clock : t.clock = s.clock
  strips : t.strips = s.strips
  drive : t.drive = s.drive
  unheld : s.port.heldBeat = none → t = { s with taper := t.taper }
  steady : s.Steady t

namespace State.Served

variable {s t u : State}

theorem of_taper (frame : t = { s with taper := t.taper }) : s.Served t where
  clock := by rw [frame]
  strips := by rw [frame]
  drive := by rw [frame]
  unheld _ := frame
  steady := .of_ctl (by rw [frame])

theorem trans (h : s.Served t) (h' : t.Served u) : s.Served u where
  clock := h'.clock.trans h.clock
  strips := h'.strips.trans h.strips
  drive := h'.drive.trans h.drive
  unheld free := by
    have first := h.unheld free
    refine (h'.unheld (by rw [first]; exact free)).trans ?_
    generalize u.taper = v
    rw [first]
  steady := h.steady.trans h'.steady

/-- Serving one waiter: its request is made, or the held beat passes (R53). -/
theorem serveOne (s : State) (w : Waiter) : s.Served (s.serveOne w) := by
  by_cases beat : w = .beat
  · subst beat
    simp only [State.serveOne, State.serveBeat]
    split
    · next data e q held req =>
      have passed : s.Steady (s.modPort fun p => p.passBeat q data e) := .of_ctl rfl
      refine ⟨?_, ?_, ?_, fun free => by simp [held] at free, passed.trans (.dataBeat ..)⟩ <;>
      · unfold State.dataBeat State.faderBeat State.captureMeter
        dsimp only
        (repeat' split) <;> simp [State.portWork, State.writeCode]
    · exact of_taper rfl
  · cases asks : s.requestOf w with
    | some r =>
      rw [State.serveOne_request asks]
      exact of_taper (State.convert_getD_frame ..)
    | none =>
      rw [State.serveOne_dropped asks beat]
      exact of_taper rfl

theorem serveWaiters (n : Nat) (s : State) : s.Served (s.serveWaiters n) := by
  induction n generalizing s with
  | zero => exact of_taper rfl
  | succ n ih =>
    unfold State.serveWaiters
    split
    · exact of_taper rfl
    · next w rest _ =>
      split
      · exact ((of_taper rfl : s.Served (s.setWaiters rest)).trans (serveOne _ w)).trans (ih _)
      · exact of_taper rfl

theorem serveSlots (s : State) : s.Served s.serveSlots := serveWaiters ..

end State.Served

/-! ## The completion of a conversion, part by part (R50, R53, R60) -/

/-- The command that completes a conversion of the work. -/
def ConvWork.completion : ConvWork → Instr
  | .levelToTravel _ _ _ => .levelToTravelComplete
  | .travelToLevel _ _ _ => .travelToLevelComplete
  | .threshold _ _ _ => .thresholdComplete

/-- The moment of a conversion's end, its request out of the queue (R50). -/
def State.vacated (s : State) (run : ConvRun) (rest : List ConvReq) : State :=
  (s.reach run.due).modTaper fun u => { u with running := none, queue := rest }

/-- The result is delivered and the next head started; the waiters are not served yet (R50). -/
def State.delivered (s : State) (run : ConvRun) (work : ConvWork) (rest : List ConvReq) : State :=
  ((s.vacated run rest).deliver run.table work).startHead

section completion

variable {s : State} {run : ConvRun} {q : ConvReq} {rest : List ConvReq}

theorem exec_completion (live : s.inReset = false) (running : s.taper.running = some run) (queue : s.taper.queue = q :: rest) :
    exec q.work.completion s = .next (s.delivered run q.work rest).serveSlots.taperCheck := by
  have finish : s.finishConversion = (s.delivered run q.work rest).serveSlots.taperCheck := by
    simp only [State.finishConversion, running, queue]
    rfl
  have work : s.runningWork = some q.work := by simp only [State.runningWork, running, queue]
  rw [← finish]
  cases kind : q.work with
  | levelToTravel c code seq =>
    exact (live_running (f := fun s => if s.runningWork.any ConvWork.isLevelToTravel then s.finishConversion else s)
      live).trans (congrArg _ (if_pos (by rw [work, kind]; rfl)))
  | travelToLevel i travel c =>
    exact (live_running (f := fun s => if s.runningWork.any ConvWork.isTravelToLevel then s.finishConversion else s)
      live).trans (congrArg _ (if_pos (by rw [work, kind]; rfl)))
  | threshold i on code =>
    exact (live_running (f := fun s => if s.runningWork.any ConvWork.isThreshold then s.finishConversion else s)
      live).trans (congrArg _ (if_pos (by rw [work, kind]; rfl)))

/-- The strips, the drive supervisor and the clock are as the delivery leaves them. -/
theorem State.completion_frame (s : State) (run : ConvRun) (work : ConvWork) (rest : List ConvReq) :
    let t := (s.delivered run work rest).serveSlots.taperCheck
    let d := (s.vacated run rest).deliver run.table work
    t.clock = d.clock ∧ t.strips = d.strips ∧ t.drive = d.drive := by
  obtain ⟨clock, strips, drive, -, -⟩ := State.Served.serveSlots (s.delivered run work rest)
  rw [State.taperCheck_eq]
  exact ⟨clock.trans (State.startHead_clock _), strips.trans (State.startHead_strips _),
    drive.trans (State.startHead_drive _)⟩

end completion

end Sys2Proof.Machine
end

section
namespace Sys2Proof.Machine

open Sys2Proof

/-! ## What entering a state keeps of a strip (R64, R65) -/

/-- A strip's settings and what it answers to are as they were; a latch is engaged only where it was. -/
structure Strip.SameSettings (p p' : Strip) : Prop where
  shown : p'.shown = p.shown := by rfl
  mode : p'.mode = p.mode := by rfl
  touched : p'.touched = p.touched := by rfl
  latch : p'.latch = true → p.latch = true := by exact id
  onCode : p'.onCode = p.onCode := by rfl
  offCode : p'.offCode = p.offCode := by rfl

theorem Strip.SameSettings.trans {p p' p'' : Strip} (h : p.SameSettings p') (h' : p'.SameSettings p'') : p.SameSettings p'' :=
  ⟨h'.shown.trans h.shown, h'.mode.trans h.mode, h'.touched.trans h.touched, h.latch ∘ h'.latch, h'.onCode.trans h.onCode,
    h'.offCode.trans h.offCode⟩

/-- Motion states, drive and phase data apart, a strip's hand and target are as they were too. -/
structure Strip.SameHand (p p' : Strip) : Prop extends Strip.SameSettings p p' where
  target : p'.target = p.target := by rfl
  m : p'.m = p.m := by rfl
  r : p'.r = p.r := by rfl
  moveMarked : p'.moveMarked = p.moveMarked := by rfl

theorem Strip.SameHand.trans {p p' p'' : Strip} (h : p.SameHand p') (h' : p'.SameHand p'') : p.SameHand p'' :=
  ⟨h.toSameSettings.trans h'.toSameSettings, h'.target.trans h.target, h'.m.trans h.m, h'.r.trans h.r,
    h'.moveMarked.trans h.moveMarked⟩

theorem Strip.enter_sameHand (p : Strip) (dest : Motion) (time : BitVec 16) : p.SameHand (p.enter dest time) := by
  cases dest with
  | idle => exact { latch := nofun }
  | _ => exact {}

section arrival

variable {s : State} {i : StripId}

theorem State.recalAtRest_sameHand (s : State) (i : StripId) : (s.strip i).SameHand ((s.recalAtRest i).strip i) := by
  unfold State.recalAtRest
  dsimp only
  split
  · rw [State.joinStart_strip_self]
    exact Strip.enter_sameHand ..
  · exact {}

/-! ## The rails when a strip is queued (R138, R139, R142) -/

/-- A rail of an active group: ON, it has no idle start (R142). -/
def Rail.active : Rail → Rail
  | .off => .off
  | .waking w => .waking w
  | .on _ => .on none

/-- A rail whose group gets an entry: OFF, it begins to wake (R139). -/
def Rail.woken (wakeEnd : Nat) : Rail → Rail
  | .off => .waking wakeEnd
  | .waking w => .waking w
  | .on idle => .on idle

theorem State.setRail_rail (s : State) (g h : GroupId) (r : Rail) : (s.setRail g r).rail h = if h = g then r else s.rail h := by
  split
  · next same => rw [same, State.rail_setRail_self]
  · next other => exact State.rail_setRail_ne s other r

/-- A group with a queued strip is active (R138). -/
theorem State.groupActive_of_queued (queued : (s.strip i).motion = .queued) : s.groupActive (groupOf i) = true :=
  List.any_eq_true.mpr ⟨i, List.mem_finRange i, by simp [queued, Motion.active]⟩

/-- An active group's ON rail has no idle start, and no other rail is changed (R142). -/
theorem State.noteActivity_rail {g : GroupId} (active : s.groupActive g = true) (before : Bool) (h : GroupId) :
    (s.noteActivity g before).rail h = if h = g then (s.rail h).active else s.rail h := by
  by_cases same : h = g
  · subst same
    unfold State.noteActivity
    split <;> next rail => simp [rail, active, Rail.active]
  · rw [if_neg same]
    unfold State.noteActivity
    split
    · simp [active, same]
    all_goals rfl

/-- A rail that is OFF begins to wake, and no other rail is changed (R139). -/
theorem State.wakeRail_rail (s : State) (g h : GroupId) : (s.wakeRail g).rail h =
    if h = g then (s.rail h).woken (s.clock + s.param .railWake * 4000) else s.rail h := by
  by_cases same : h = g
  · subst same
    unfold State.wakeRail
    split <;> next rail => simp [rail, Rail.woken, Config.ms]
  · rw [if_neg same]
    unfold State.wakeRail
    split
    · simp [same]
    all_goals rfl

/-- A strip that is queued from another state wakes its rail, and no other rail is changed (R138, R139, R142). -/
theorem State.joinStart_rail (other : (s.strip i).motion ≠ .queued) (u : Purpose) (g : GroupId) :
    (s.joinStart i u).rail g =
      if g = groupOf i then (s.rail g).active.woken (s.clock + s.param .railWake * 4000) else s.rail g := by
  have entered : (s.enter i .queued).rail g = if g = groupOf i then (s.rail g).active else s.rail g := by
    simp only [State.enter, other, false_and, if_false]
    exact State.noteActivity_rail (State.groupActive_of_queued (by simp [Strip.enter, Strip.setDrive])) _ g
  have appended : ((s.enter i .queued).modDrive fun d => { d with queue := d.queue ++ [⟨i, u⟩] }).rail g =
      (s.enter i .queued).rail g := rfl
  have wake : ∀ f, ((s.enter i .queued).modDrive f).param .railWake = s.param .railWake := fun f =>
    State.enter_param s i .queued .railWake
  rw [State.joinStart, State.wakeRail_rail, appended, entered, wake, State.modDrive_clock, State.enter_clock]
  split <;> rfl

/-! ## A target arrival, by the strip's motion state (R73 to R77) -/

variable {code : Code} {travel : Nat} {c : ChanId}

/-- The strip's record once its target is recorded (R48). -/
def Strip.aimed (p : Strip) (code : Code) (travel : Nat) (c : ChanId) : Strip := { p with target := some ⟨code, travel, c⟩ }

/-- The target is recorded before the strip acts. -/
def State.aimed (s : State) (i : StripId) (code : Code) (travel : Nat) (c : ChanId) : State :=
  s.modStrip i fun p => p.aimed code travel c

theorem State.aimed_strip (s : State) (i : StripId) (code : Code) (travel : Nat) (c : ChanId) :
    (s.aimed i code travel c).strip i = (s.strip i).aimed code travel c := State.strip_modStrip_self ..

/-- An IDLE strip beyond deadband of its target is queued (R73). -/
theorem State.arrive_idle_far (idle : (s.strip i).motion = .idle) (motorised : (s.strip i).mode.motorised = true)
    (far : ¬ dist travel (s.strip i).m ≤ s.param .deadband) :
    s.arrive i code travel c = (s.aimed i code travel c).joinStart i
      (if (s.strip i).calibration.isSome then .move else .calibrate) := by
  simp only [State.arrive, idle, motorised, State.withinDeadband, far, decide_false, Bool.not_false, Bool.and_self, if_pos]
  rw [State.queueMove, State.strip_modStrip_self]
  rfl

/-- An IDLE strip that is not motorised, or is near its target, stays (R73). -/
theorem State.arrive_idle_stays (idle : (s.strip i).motion = .idle)
    (stays : (s.strip i).mode.motorised = false ∨ dist travel (s.strip i).m ≤ s.param .deadband) :
    s.arrive i code travel c = s.aimed i code travel c := by
  simp only [State.arrive, idle, State.withinDeadband]
  obtain fixed | near := stays
  · exact if_neg (by simp [fixed])
  · exact if_neg (by simp [near])

/-- A strip queued to move that is near its target comes to rest (R74). -/
theorem State.arrive_queued_near (queued : (s.strip i).motion = .queued) (move : s.purposeOf i = some .move)
    (near : dist travel (s.strip i).m ≤ s.param .deadband) :
    s.arrive i code travel c = (s.aimed i code travel c).rest i := by
  simp only [State.arrive, queued, State.withinDeadband, move, near, decide_true, Bool.and_self, if_pos]
  rfl

/-- Any other QUEUED strip stays queued (R74). -/
theorem State.arrive_queued_stays (queued : (s.strip i).motion = .queued)
    (stays : ¬ (s.purposeOf i = some .move ∧ dist travel (s.strip i).m ≤ s.param .deadband)) :
    s.arrive i code travel c = s.aimed i code travel c := by
  simp only [State.arrive, queued, State.withinDeadband]
  exact if_neg (by simpa using stays)

/-- A MOVING strip is retargeted (R75). -/
theorem State.arrive_moving (moving : (s.strip i).motion = .moving) : s.arrive i code travel c =
    (s.aimed i code travel c).retarget i (((s.strip i).target.map Target.travel).getD (s.strip i).r) travel := by
  simp only [State.arrive, moving]
  rfl

/-- A SETTLING strip whose target leaves its reference moves again (R76). -/
theorem State.arrive_settling (settling : (s.strip i).motion = .settling) : s.arrive i code travel c =
    if travel = (s.strip i).r then s.aimed i code travel c
    else ((s.aimed i code travel c).enter i .moving).modStrip i fun q => { q with v := 0 } := by
  simp only [State.arrive, settling]
  rfl

/-- A strip in any other state keeps to its state (R77). -/
theorem State.arrive_stays (idle : (s.strip i).motion ≠ .idle) (queued : (s.strip i).motion ≠ .queued)
    (moving : (s.strip i).motion ≠ .moving) (settling : (s.strip i).motion ≠ .settling) :
    s.arrive i code travel c = s.aimed i code travel c := by
  simp only [State.arrive]
  split
  · next at_ => exact absurd at_ idle
  · next at_ => exact absurd at_ queued
  · next at_ => exact absurd at_ moving
  · next at_ => exact absurd at_ settling
  all_goals rfl

/-- A retarget to the reference settles the strip; another keeps the speed when the new target lies ahead (R75). -/
theorem State.retarget_strip (s : State) (i : StripId) (old new : Nat) : (s.retarget i old new).strip i =
    if new = (s.strip i).r then (s.strip i).enter .settling s.ctl.time
    else { s.strip i with
      v := if ((s.strip i).r < old ∧ (s.strip i).r < new) ∨ (old < (s.strip i).r ∧ new < (s.strip i).r)
        then (s.strip i).v else 0 } := by
  have ahead : beyondInDirection (s.strip i).r old new = true ↔
      ((s.strip i).r < old ∧ (s.strip i).r < new) ∨ (old < (s.strip i).r ∧ new < (s.strip i).r) := by
    simp [beyondInDirection]
  simp only [State.retarget, ahead]
  split
  · exact State.enter_strip_self ..
  · split
    · rfl
    · exact State.strip_modStrip_self ..

/-- A MOVING strip settles where its reference stands, or keeps its speed when the new target lies ahead (R75). -/
theorem State.arrive_moving_strip (moving : (s.strip i).motion = .moving) :
    (s.arrive i code travel c).strip i =
      if travel = (s.strip i).r then ((s.strip i).aimed code travel c).enter .settling s.ctl.time
      else
        let old := ((s.strip i).target.map Target.travel).getD (s.strip i).r
        { (s.strip i).aimed code travel c with
          v := if ((s.strip i).r < old ∧ (s.strip i).r < travel) ∨ (old < (s.strip i).r ∧ travel < (s.strip i).r)
            then (s.strip i).v else 0 } := by
  rw [State.arrive_moving moving, State.retarget_strip, State.aimed_strip]
  rfl

/-- An arrival records the target, and leaves the rest of the strip's hand alone. -/
theorem State.arrive_sameHand (s : State) (i : StripId) (code : Code) (travel : Nat) (c : ChanId) :
    ((s.strip i).aimed code travel c).SameHand ((s.arrive i code travel c).strip i) := by
  have aimed := s.aimed_strip i code travel c
  cases motion : (s.strip i).motion with
  | idle =>
    by_cases far : (s.strip i).mode.motorised = true ∧ ¬ dist travel (s.strip i).m ≤ s.param .deadband
    · rw [State.arrive_idle_far motion far.1 far.2, State.joinStart_strip_self, aimed]
      exact Strip.enter_sameHand ..
    · rw [State.arrive_idle_stays motion (by simpa [imp_iff_not_or] using far), aimed]
      exact {}
  | queued =>
    by_cases near : s.purposeOf i = some .move ∧ dist travel (s.strip i).m ≤ s.param .deadband
    · rw [State.arrive_queued_near motion near.1 near.2, State.rest]
      have entered := ((s.strip i).aimed code travel c).enter_sameHand .idle (s.aimed i code travel c).ctl.time
      rw [← aimed, ← State.enter_strip_self] at entered
      exact aimed ▸ entered.trans (State.recalAtRest_sameHand ..)
    · rw [State.arrive_queued_stays motion near, aimed]
      exact {}
  | moving =>
    rw [State.arrive_moving_strip motion]
    split
    · exact Strip.enter_sameHand ..
    · exact {}
  | settling =>
    rw [State.arrive_settling motion]
    split
    · rw [aimed]
      exact {}
    · rw [State.strip_modStrip_self, State.enter_strip_self, aimed]
      exact {}
  | touched | latched | calibrating | stalled | parked =>
    rw [State.arrive_stays (by simp [motion]) (by simp [motion]) (by simp [motion]) (by simp [motion]), aimed]
    exact {}

end arrival

/-! ## The delivery of a level-to-travel result (R54) -/

/-- A result of a channel that is UNSEEN, has another sequence number or is not shown is discarded. -/
theorem State.deliverTravel_discarded {s : State} {c : ChanId} {seq : BitVec 8}
    (stale : (s.chan c).image = none ∨ (s.chan c).seq ≠ seq ∨ s.shownBy c = none) (code : Code) (travel : Nat) :
    s.deliverTravel c code seq travel = s := by
  unfold State.deliverTravel
  split
  · next i shown =>
    refine if_neg fun live => ?_
    simp_all
  · rfl

/-- A result that is delivered is a target arrival. -/
theorem State.deliverTravel_arrives {s : State} {c : ChanId} {seq : BitVec 8} {i : StripId} (seen : (s.chan c).image ≠ none)
    (current : (s.chan c).seq = seq) (shown : s.shownBy c = some i) (code : Code) (travel : Nat) :
    s.deliverTravel c code seq travel = s.arrive i code travel c := by
  simp [State.deliverTravel, shown, current, Option.isSome_iff_ne_none.mpr seen]

/-- Delivering a result takes no time. -/
theorem State.deliverTravel_clock (s : State) (c : ChanId) (code : Code) (seq : BitVec 8) (travel : Nat) :
    (s.deliverTravel c code seq travel).clock = s.clock := by
  unfold State.deliverTravel
  (repeat' split) <;> simp

/-- Settles O40: the completion leaves the strips and the start queue as the delivery does, which is a target arrival or nothing. -/
theorem deliveredTravelIsATargetArrival : Obligations.DeliveredTravelIsATargetArrival := by
  intro run c code seq o rest s live running queue
  refine ⟨_, exec_completion live running queue, ?_⟩
  obtain ⟨clock, strips, drive⟩ := s.completion_frame run (.levelToTravel c code seq) rest
  generalize ((s.delivered run (.levelToTravel c code seq) rest).serveSlots).taperCheck = t at *
  rw [State.deliver, State.deliverTravel_clock] at clock
  rw [State.deliver] at strips drive
  refine ⟨clock, fun stale => ?_, fun i seen current shown => ?_⟩
  · rw [State.deliverTravel_discarded (s := s.vacated run rest) stale] at strips drive
    exact ⟨strips, drive⟩
  rw [State.deliverTravel_arrives (s := s.vacated run rest) seen current shown] at strips drive
  have strip : ∀ j, t.strip j = ((s.vacated run rest).arrive i code (levelToTravel run.table code) c).strip j :=
    State.strip_congr strips
  have rail : ∀ g, t.rail g = ((s.vacated run rest).arrive i code (levelToTravel run.table code) c).rail g :=
    fun g => congrArg (fun d : DriveSup => d.rails[g.val]) drive
  intro p p' T near old
  have aimed : ∀ {u : State}, (s.vacated run rest).arrive i code T c = u →
      u = (s.vacated run rest).aimed i code T c → p' = { p with target := p'.target } ∧ t.drive = s.drive :=
    fun arrives stays => by
      have record : p' = p.aimed code T c := by
        rw [show p' = _ from strip i, arrives, stays, State.aimed_strip]
        rfl
      exact ⟨by rw [record]; rfl, by rw [drive, arrives, stays]; rfl⟩
  obtain ⟨⟨shows, mode, -⟩, target, m, r, moveMarked⟩ := (s.vacated run rest).arrive_sameHand i code T c
  rw [← strip i] at target mode m r moveMarked shows
  refine ⟨target, mode, m, r, moveMarked, shows, fun idle motorised far => ?_, fun idle stays => ?_,
    fun queued move close => ?_, fun queued stays => ?_, fun moving at_ => ?_, fun moving away => ?_,
    fun settling at_ => ?_, fun settling away => ?_, fun idle queued moving settling => ?_, fun j other => ?_⟩
  · have arrives := State.arrive_idle_far (s := s.vacated run rest) (code := code) (c := c) idle motorised far
    have notQueued : (((s.vacated run rest).aimed i code T c).strip i).motion ≠ .queued := by
      rw [State.aimed_strip]
      exact fun queued => by simp [Strip.aimed] at queued; cases idle.symm.trans queued
    have woken : ∀ g, t.rail g =
        if g = groupOf i then (s.rail g).active.woken (t.clock + s.param .railWake * 4000) else s.rail g := fun g => by
      rw [rail, arrives, State.joinStart_rail notQueued, clock]
      rfl
    have record : p' = (p.aimed code T c).enter .queued s.ctl.time := by
      rw [show p' = _ from strip i, arrives, State.joinStart_strip_self, State.aimed_strip]
      rfl
    refine ⟨by rw [record]; rfl, by rw [record]; rfl, ?_, ?_, ?_, fun g other => by rw [woken, if_neg other]⟩
    · rw [drive, arrives, State.joinStart_drive_queue]
      rfl
    · have enabled : t.railEnabled (groupOf i) = (t.rail (groupOf i) != .off) := rfl
      rw [enabled, woken, if_pos rfl]
      cases s.rail (groupOf i) <;> rfl
    · rw [woken, if_pos rfl]
      cases s.rail (groupOf i) <;> rfl
  · exact (aimed rfl (State.arrive_idle_stays (s := s.vacated run rest) idle stays)).1
  · have arrives := State.arrive_queued_near (s := s.vacated run rest) (code := code) (c := c) queued move close
    have atRest := State.rest_spec (s := (s.vacated run rest).aimed i code T c) (i := i)
      (by rw [State.aimed_strip]; exact queued)
    rw [show p' = _ from strip i, arrives, atRest.1, State.aimed_strip]
    rfl
  · exact aimed rfl (State.arrive_queued_stays (s := s.vacated run rest) queued stays)
  · have record := (strip i).trans ((State.arrive_moving_strip (s := s.vacated run rest) moving).trans (if_pos at_))
    rw [show p' = _ from record]
    exact ⟨rfl, rfl, rfl, rfl, rfl⟩
  · have record := (strip i).trans ((State.arrive_moving_strip (s := s.vacated run rest) moving).trans (if_neg away))
    rw [target]
    exact record
  · exact (aimed (State.arrive_settling (s := s.vacated run rest) settling) (if_pos at_)).1
  · have arrives := (State.arrive_settling (s := s.vacated run rest) (code := code) (c := c) settling).trans (if_neg away)
    rw [show p' = _ from strip i, arrives, State.strip_modStrip_self, State.enter_strip_self, State.aimed_strip]
    exact ⟨rfl, rfl, rfl⟩
  · exact aimed rfl (State.arrive_stays (s := s.vacated run rest) idle queued moving settling)
  · rw [strip, State.arrive_strip_ne _ other]
    rfl

end Sys2Proof.Machine
end

section
namespace Sys2Proof.Machine

open Sys2Proof

/-! ## The taper unit is no input of a delivery (R54 to R56) -/

namespace State

variable (s : State) (f : TaperUnit → TaperUnit)

theorem modStrip_modTaper (i : StripId) (g : Strip → Strip) :
    (s.modTaper f).modStrip i g = (s.modStrip i g).modTaper f := rfl

theorem modCtl_modTaper (g : Control → Control) : (s.modTaper f).modCtl g = (s.modCtl g).modTaper f := rfl

theorem modPort_modTaper (g : ImagePort → ImagePort) : (s.modTaper f).modPort g = (s.modPort g).modTaper f := rfl

theorem setRail_modTaper (g : GroupId) (r : Rail) : (s.modTaper f).setRail g r = (s.setRail g r).modTaper f := rfl

theorem pushEntry_modTaper (a : Nat) (body : InjBody) : (s.modTaper f).pushEntry a body = (s.pushEntry a body).modTaper f :=
  rfl

theorem pushStatus_modTaper (w : StatusWord) : (s.modTaper f).pushStatus w = (s.pushStatus w).modTaper f := rfl

theorem ite_modTaper (p : Prop) [Decidable p] (t u : State) :
    (if p then t.modTaper f else u.modTaper f) = (if p then t else u).modTaper f := (apply_ite (State.modTaper · f) ..).symm

theorem putResult_modTaper (tag : BitVec 8) (code : ResultCode) (v : BitVec 16) :
    (s.modTaper f).putResult tag code v = (s.putResult tag code v).modTaper f := by
  simp only [State.putResult, State.modCtl_modTaper, State.pushStatus_modTaper]
  exact State.ite_modTaper ..

theorem syncCheck_modTaper : (s.modTaper f).syncCheck = s.syncCheck.modTaper f := by
  have awaits : ∀ n, (s.modTaper f).awaits n = s.awaits n := fun _ => rfl
  rcases busy : s.ctl.busy with _ | (_ | _) <;>
    simp only [State.syncCheck, State.modTaper_ctl, busy, awaits, State.modCtl_modTaper, State.putResult_modTaper,
      State.ite_modTaper]

theorem requestStatus_modTaper (w : StatusWord) : (s.modTaper f).requestStatus w = (s.requestStatus w).modTaper f := by
  rw [State.requestStatus, State.pushStatus_modTaper, State.syncCheck_modTaper, State.requestStatus]

theorem modCauses_modTaper (g : Control → Control) : (s.modTaper f).modCauses g = (s.modCauses g).modTaper f := by
  simp only [State.modCauses, State.noteCauses, State.modCtl_modTaper, State.requestStatus_modTaper, State.modTaper_ctl,
    State.ite_modTaper]

theorem loseEvent_modTaper : (s.modTaper f).loseEvent = s.loseEvent.modTaper f := by
  simp only [State.loseEvent, State.modCtl_modTaper, State.requestStatus_modTaper, State.modTaper_ctl, State.ite_modTaper,
    State.modCauses_modTaper]

theorem deliverEvent_modTaper (kind : EventKind) (index : BitVec 8) (v n : BitVec 16) :
    (s.modTaper f).deliverEvent kind index v n = (s.deliverEvent kind index v n).modTaper f := by
  simp only [State.deliverEvent, State.pushEntry_modTaper, State.modCtl_modTaper, State.requestStatus_modTaper,
    State.modTaper_ctl, State.ite_modTaper]

theorem createEvent_modTaper (kind : EventKind) (index : BitVec 8) (v : BitVec 16) :
    (s.modTaper f).createEvent kind index v = (s.createEvent kind index v).modTaper f := by
  have lost : (s.modTaper f).eventWouldBeLost = s.eventWouldBeLost := rfl
  simp only [State.createEvent, lost, State.modCtl_modTaper, State.modTaper_ctl, State.loseEvent_modTaper,
    State.deliverEvent_modTaper, State.ite_modTaper]

theorem writeBack_modTaper (c : ChanId) (code : Code) : (s.modTaper f).writeBack c code = (s.writeBack c code).modTaper f := by
  have differs : (s.modTaper f).mayDiffer c code = s.mayDiffer c code := rfl
  have home : (s.modTaper f).home c = s.home c := rfl
  rcases at_ : s.home c with _ | ⟨a, o⟩ <;>
    simp only [State.writeBack, differs, State.requestPosition, home, at_, State.modTaper_port, State.modPort_modTaper,
      State.pushEntry_modTaper, State.createEvent_modTaper, State.ite_modTaper]

theorem forceLine_modTaper (i : StripId) : (s.modTaper f).forceLine i = (s.forceLine i).modTaper f := by
  simp only [State.forceLine, State.setLine, State.strip_modTaper, State.modStrip_modTaper, State.stripEvent,
    State.createEvent_modTaper, State.ite_modTaper]

theorem groupActive_modTaper (g : GroupId) : (s.modTaper f).groupActive g = s.groupActive g := rfl

theorem rail_modTaper (g : GroupId) : (s.modTaper f).rail g = s.rail g := rfl

theorem noteActivity_modTaper (g : GroupId) (b : Bool) :
    (s.modTaper f).noteActivity g b = (s.noteActivity g b).modTaper f := by
  cases rail : s.rail g <;>
    simp only [State.noteActivity, State.rail_modTaper, rail, State.groupActive_modTaper, State.setRail_modTaper,
      State.modTaper_clock, State.ite_modTaper]

theorem enter_modTaper (i : StripId) (dest : Motion) : (s.modTaper f).enter i dest = (s.enter i dest).modTaper f := by
  have dropped : ∀ t : State, (t.modTaper f).dropStart i = (t.dropStart i).modTaper f := fun _ => rfl
  simp only [State.enter, State.groupActive_modTaper, State.strip_modTaper, State.modTaper_ctl, State.modStrip_modTaper,
    dropped, State.ite_modTaper, State.noteActivity_modTaper]

theorem joinStart_modTaper (i : StripId) (u : Purpose) :
    (s.modTaper f).joinStart i u = (s.joinStart i u).modTaper f := by
  have woken : ∀ (t : State) (g : GroupId), (t.modTaper f).wakeRail g = (t.wakeRail g).modTaper f := by
    intro t g
    cases rail : t.rail g <;> simp only [State.wakeRail, State.rail_modTaper, rail]; rfl
  have appended : ∀ (t : State) (g : DriveSup → DriveSup), (t.modTaper f).modDrive g = (t.modDrive g).modTaper f :=
    fun _ _ => rfl
  rw [State.joinStart, State.enter_modTaper, appended, woken, State.joinStart]

theorem queueMove_modTaper (i : StripId) : (s.modTaper f).queueMove i = (s.queueMove i).modTaper f := by
  rw [State.queueMove, State.joinStart_modTaper]
  rfl

theorem rest_modTaper (i : StripId) : (s.modTaper f).rest i = (s.rest i).modTaper f := by
  simp only [State.rest, State.recalAtRest, State.enter_modTaper, State.strip_modTaper, State.joinStart_modTaper,
    State.ite_modTaper]

theorem retarget_modTaper (i : StripId) (old new : Nat) :
    (s.modTaper f).retarget i old new = (s.retarget i old new).modTaper f := by
  simp only [State.retarget, State.strip_modTaper, State.enter_modTaper, State.modStrip_modTaper, apply_ite (State.modTaper · f)]
  rfl

theorem arrive_modTaper (i : StripId) (code : Code) (travel : Nat) (c : ChanId) :
    (s.modTaper f).arrive i code travel c = (s.arrive i code travel c).modTaper f := by
  have near : ∀ n, (s.modTaper f).withinDeadband i n = s.withinDeadband i n := fun _ => rfl
  have purpose : (s.modTaper f).purposeOf i = s.purposeOf i := rfl
  cases motion : (s.strip i).motion <;>
    simp only [State.arrive, State.strip_modTaper, motion, near, purpose, State.modStrip_modTaper, State.queueMove_modTaper,
      State.rest_modTaper, State.retarget_modTaper, State.enter_modTaper, State.ite_modTaper]

theorem deliver_modTaper (table : Taper) (w : ConvWork) :
    (s.modTaper f).deliver table w = (s.deliver table w).modTaper f := by
  cases w with
  | levelToTravel c code seq =>
    have shown : (s.modTaper f).shownBy c = s.shownBy c := rfl
    have chan : (s.modTaper f).chan c = s.chan c := rfl
    simp only [State.deliver, State.deliverTravel, shown, chan, State.arrive_modTaper]
    split <;> simp only [State.ite_modTaper]
  | travelToLevel i travel c =>
    have home : ∀ t : State, (t.modTaper f).home c = t.home c := fun _ => rfl
    simp only [State.deliver, State.deliverLevel, State.strip_modTaper, home, State.modStrip_modTaper,
      State.writeBack_modTaper, State.ite_modTaper]
  | threshold i on code =>
    rw [State.deliver, State.deliverThreshold, State.modStrip_modTaper, State.forceLine_modTaper]
    rfl

end State
end Sys2Proof.Machine
end

section
namespace Sys2Proof.Machine

open Sys2Proof

/-! ## A forced line (R135, R136) -/

namespace State

variable (s : State) (i : StripId)

theorem setLine_strip_self (on : Bool) : (s.setLine i on).strip i = { s.strip i with line := on } := by
  unfold State.setLine
  split
  · next same => rw [← same]
  · simp

theorem setLine_strip_ne {j : StripId} (other : j ≠ i) (on : Bool) : (s.setLine i on).strip j = s.strip j := by
  unfold State.setLine
  split
  · rfl
  · simp [other]

theorem forceLine_strip_self :
    (s.forceLine i).strip i = { s.strip i with line := (s.strip i).line && !(s.strip i).forcedOff } := by
  unfold State.forceLine
  split
  · next forced => simp [forced, State.setLine_strip_self]
  · next free => simp [free]

theorem forceLine_strip_ne {j : StripId} (other : j ≠ i) : (s.forceLine i).strip j = s.strip j := by
  unfold State.forceLine
  split
  · exact State.setLine_strip_ne s i other false
  · rfl

/-! ## What a delivery leaves alone (R54 to R56) -/

variable (table : Taper) (w : ConvWork)

theorem deliver_frame : s.deliver table w = { s with
    port := (s.deliver table w).port, strips := (s.deliver table w).strips
    drive := (s.deliver table w).drive, ctl := (s.deliver table w).ctl } := by
  cases w with
  | levelToTravel c code seq =>
    simp only [State.deliver, State.deliverTravel]
    (repeat' split) <;> exact State.eq_of_port_strips_drive_ctl
  | travelToLevel i travel c =>
    simp only [State.deliver, State.deliverLevel]
    (repeat' split) <;> exact State.eq_of_port_strips_drive_ctl
  | threshold i on code =>
    simp only [State.deliver, State.deliverThreshold]
    exact State.eq_of_port_strips_drive_ctl

theorem deliver_sameLines : s.port.SameLines (s.deliver table w).port := by
  cases w with
  | levelToTravel c code seq =>
    simp only [State.deliver, State.deliverTravel]
    (repeat' split) <;> exact {}
  | travelToLevel i travel c =>
    simp only [State.deliver, State.deliverLevel]
    (repeat' split) <;> exact {}
  | threshold i on code =>
    simp only [State.deliver, State.deliverThreshold]
    exact {}

/-- A result is delivered to targets, thresholds and codes of the hand, not to a strip's settings. -/
theorem deliver_settings (j : StripId) : (s.strip j).SameSettings ((s.deliver table w).strip j) := by
  cases w with
  | levelToTravel c code seq =>
    simp only [State.deliver, State.deliverTravel]
    split
    · next i _ =>
      split
      · by_cases own : j = i
        · subst own
          exact Strip.SameSettings.trans {} (s.arrive_sameHand j code _ c).toSameSettings
        · rw [State.arrive_strip_ne s own]
          exact {}
      · exact {}
    · exact {}
  | travelToLevel i travel c =>
    have set : ∀ f : Strip → Strip, (s.strip i).SameSettings (f (s.strip i)) →
        (s.strip j).SameSettings ((s.modStrip i f).strip j) := fun f same => by
      by_cases own : j = i
      · subst own
        rwa [State.strip_modStrip_self]
      · rw [State.strip_modStrip_ne s own]
        exact {}
    simp only [State.deliver, State.deliverLevel]
    split
    · split
      · rw [State.writeBack_strip]
        exact set _ {}
      · exact set _ {}
    · exact {}
  | threshold i on code =>
    simp only [State.deliver, State.deliverThreshold]
    by_cases own : j = i
    · subst own
      rw [State.forceLine_strip_self, State.strip_modStrip_self]
      cases on <;> exact {}
    · rw [State.forceLine_strip_ne _ i own, State.strip_modStrip_ne s own]
      exact {}

end State

theorem State.shownBy_of_shown {s t : State} (shown : ∀ i, (t.strip i).shown = (s.strip i).shown) (c : ChanId) :
    t.shownBy c = s.shownBy c := by
  simp only [State.shownBy, shown]

/-- A strip that answers by a conversion still does when its settings stand. -/
theorem Strip.SameSettings.converts {p p' : Strip} (h : p.SameSettings p') (converts : p.converts) : p'.converts := by
  obtain ⟨motorised, free, unlatched⟩ := converts
  exact ⟨h.mode ▸ motorised, h.touched ▸ free, fun mode =>
    Bool.eq_false_iff.mpr fun engaged => Bool.eq_false_iff.mp (unlatched (h.mode ▸ mode)) (h.latch engaged)⟩

/-! ## The start of a conversion (R50) -/

/-- An idle unit starts its head with the active table, to end 1 us later. -/
theorem State.startHead_of_idle {s : State} (idle : s.taper.running = none) (head : s.taper.queue ≠ []) :
    s.startHead = s.modTaper fun u => { u with running := some ⟨u.active, s.clock + 4⟩ } := by
  obtain ⟨q, rest, queue⟩ := List.exists_cons_of_ne_nil head
  simp only [State.startHead, idle, queue]
  rfl

/-- A unit that runs, or has no request, starts nothing. -/
theorem State.startHead_of_busy {s : State} (busy : s.taper.running ≠ none ∨ s.taper.queue = []) : s.startHead = s := by
  unfold State.startHead
  split
  · next idle queue => simp [idle, queue] at busy
  all_goals rfl

/-! ## The state the waiters are served in (R50, R53) -/

/-- The conversion that follows one: the next head's, with the table then active, to end 1 us later (R50). -/
def State.nextRun (s : State) (run : ConvRun) (rest : List ConvReq) : Option ConvRun :=
  if rest = [] then none else some ⟨s.taper.active, max s.clock run.due + 4⟩

section delivered

variable (s : State) (run : ConvRun) (work : ConvWork) (rest : List ConvReq)

theorem State.delivered_taper :
    (s.delivered run work rest).taper = { s.taper with queue := rest, running := s.nextRun run rest } := by
  have clock : ((s.vacated run rest).deliver run.table work).clock = max s.clock run.due := by
    rw [State.deliver_frame]
    rfl
  have taper := (s.vacated run rest).deliver_taper run.table work
  rw [State.delivered, State.nextRun]
  split
  · next last =>
    rw [State.startHead_of_busy (.inr (by rw [taper]; exact last)), taper]
    rfl
  · next more =>
    rw [State.startHead_of_idle (by rw [taper]; rfl) (by rw [taper]; exact more), State.modTaper_taper, taper, clock]
    rfl

theorem State.delivered_strip (i : StripId) : (s.strip i).SameSettings ((s.delivered run work rest).strip i) := by
  rw [State.delivered, State.startHead_strip]
  exact (s.vacated run rest).deliver_settings run.table work i

theorem State.delivered_chan (c : ChanId) : (s.delivered run work rest).chan c = s.chan c := by
  rw [State.delivered, State.startHead_chan, State.deliver_frame]
  rfl

theorem State.delivered_shownBy (c : ChanId) : (s.delivered run work rest).shownBy c = s.shownBy c :=
  State.shownBy_of_shown (fun i => (s.delivered_strip run work rest i).shown) c

/-- What a waiter asks for is what it asked for before the completion. -/
theorem State.delivered_requestOf (w : Waiter) : (s.delivered run work rest).requestOf w = s.requestOf w := by
  cases w with
  | beat => rfl
  | level c fromFetch o => simp only [State.requestOf, State.delivered_chan, State.delivered_shownBy]
  | threshold i on o =>
    have same := s.delivered_strip run work rest i
    simp only [State.requestOf, Strip.thresholdCode, same.onCode, same.offCode]

end delivered

end Sys2Proof.Machine
end

section
namespace Sys2Proof.Machine

open Sys2Proof

/-! ## A request that finds the unit running (R49) -/

section convert

variable {s : State} {r : ConvReq} {head : ConvRun} (runs : s.taper.running = some head)
include runs

/-- With no unstarted request of its key and a slot free, a request joins the queue. -/
theorem State.convert_appends (alone : ∀ x ∈ s.taper.queue.drop 1, x.work.key ≠ r.work.key)
    (room : s.taper.queue.length < 16) : s.convert r = some (s.modTaper fun u => { u with queue := u.queue ++ [r] }) := by
  have lacks : s.taper.hasUnstarted r.work.key = false := by
    simpa [TaperUnit.hasUnstarted, TaperUnit.unstarted, runs] using alone
  rw [State.convert, lacks, if_neg Bool.false_ne_true]
  exact (if_pos room).trans (congrArg some (State.startHead_of_running (run := head) runs))

/-- A request takes the place of the unstarted one of its key. -/
theorem State.convert_coalesces (other : ¬ ∀ x ∈ s.taper.queue.drop 1, x.work.key ≠ r.work.key) :
    s.convert r = some (s.modTaper fun u =>
      { u with queue := u.queue.take 1 ++ (u.queue.drop 1).map (ConvReq.coalesce r) }) := by
  have has : s.taper.hasUnstarted r.work.key = true := by
    simpa [TaperUnit.hasUnstarted, TaperUnit.unstarted, runs] using other
  refine (if_pos has).trans (congrArg (fun u => some { s with taper := u }) ?_)
  simp only [TaperUnit.started, TaperUnit.unstarted, runs]

end convert

/-- The hand-off to a strip that takes codes by conversion is a request (R34, R69). -/
theorem State.handOff_converts {s : State} {c : ChanId} {i : StripId} (shown : s.shownBy c = some i)
    (converts : (s.strip i).converts) (code : Code) :
    s.handOff c code = (s.convert ⟨.levelToTravel c code (s.chan c).seq, false⟩).getD s := by
  simp only [State.handOff, shown, Strip.treatment_of_converts converts]
  cases s.convert _ <;> rfl

/-! ## The end of LOAD_TAPER (R60) -/

section load

variable {s : State}

/-- An answer leaves its RESULT entry and the COMMAND cause (R192). -/
theorem State.putResult_answers (s : State) (tag : BitVec 8) (code : ResultCode) (v : BitVec 16) :
    (s.putResult tag code v).ctl.commandCause = true ∧ (s.putResult tag code v).standing .result := by
  unfold State.putResult
  dsimp only
  have answered := State.standing_modCtl (f := fun c => { c with commandCause := true }) rfl
    (State.pushStatus_standing (s.modCtl fun c => { c with result := resultWord tag code.number v }) .result)
  split
  · exact ⟨rfl, answered⟩
  · exact ⟨rfl, (State.pushStatus_requests _ _).stands _ answered⟩

theorem State.taperCheck_owned {tag : BitVec 8} {n : Nat} (busy : s.ctl.busy = some (.loadTaper tag n))
    (owned : s.taper.hasOwned = true) : s.taperCheck = s := by
  simp only [State.taperCheck, busy, owned, if_pos]

/-- With no owned request left LOAD_TAPER answers DONE with its re-seats. -/
theorem State.taperCheck_done {tag : BitVec 8} {n : Nat} (busy : s.ctl.busy = some (.loadTaper tag n))
    (finished : s.taper.hasOwned = false) :
    s.taperCheck.ctl.busy = none ∧ s.taperCheck.ctl.result = BitVec.ofNat 16 n ++ (1#8 ++ tag) ∧
    s.taperCheck.ctl.commandCause = true ∧
    ∃ e ∈ s.taperCheck.port.queue, e.body = .status .result s.taperCheck.ctl.result := by
  have done : s.taperCheck = (s.modCtl fun c => { c with busy := none }).putResult tag .done (field16 n) := by
    simp only [State.taperCheck, busy, finished, Bool.false_eq_true, if_false]
    exact State.writeResult_of_idle rfl ..
  obtain ⟨cause, answered⟩ := (s.modCtl fun c => { c with busy := none }).putResult_answers tag .done (field16 n)
  rw [done]
  exact ⟨State.putResult_busy .., State.putResult_result .., cause, answered⟩

/-- The end of LOAD_TAPER leaves the entries that are no STATUS. -/
theorem State.mem_taperCheck {e : InjEntry} (other : e.isStatus = false) :
    e ∈ s.taperCheck.port.queue ↔ e ∈ s.port.queue := by
  have others : s.taperCheck.port.others = s.port.others := by
    unfold State.taperCheck
    split
    · split
      · rfl
      · exact State.writeResult_others ..
    · rfl
  simpa [ImagePort.mem_others, other] using congrArg (e ∈ ·) others

end load

/-! ## The results of a readback and of a threshold (R55, R56, R116, R117, R136) -/

section results

variable {s : State} {i : StripId} {c : ChanId} {travel : Nat} {code : Code}

theorem State.deliverLevel_strip (s : State) (i : StripId) (c : ChanId) (travel : Nat) (code : Code) :
    (s.deliverLevel i c travel code).strip i =
      if (s.strip i).shown = some c then (s.strip i).readAs code travel else s.strip i := by
  unfold State.deliverLevel
  dsimp only
  split
  · split <;> simp [Strip.readAs]
  · rfl

theorem State.deliverLevel_strip_ne {j : StripId} (other : j ≠ i) : (s.deliverLevel i c travel code).strip j = s.strip j := by
  unfold State.deliverLevel
  dsimp only
  (repeat' split) <;> simp [other]

/-- An operator-owned strip whose channel has a home writes its code back (R55, R116). -/
theorem State.deliverLevel_writes (shown : (s.strip i).shown = some c) (owned : (s.strip i).operatorOwned = true)
    (home : s.home c ≠ none) :
    s.deliverLevel i c travel code = (s.modStrip i fun p => p.readAs code travel).writeBack c code := by
  have owns : ((s.modStrip i fun p => p.readAs code travel).strip i).operatorOwned = true := by
    rw [State.strip_modStrip_self]
    exact owned
  rw [State.deliverLevel, if_pos shown]
  exact if_pos (by rw [Bool.and_eq_true]; exact ⟨owns, Option.isSome_iff_ne_none.mpr home⟩)

/-- Elsewhere, or where memory holds the code, nothing is written back. -/
theorem State.deliverLevel_port (silent : ¬ ((s.strip i).shown = some c ∧ (s.strip i).operatorOwned = true ∧
    s.home c ≠ none ∧ ((s.chan c).image ≠ some code ∨ s.positionStands c = true))) : (s.deliverLevel i c travel code).port = s.port := by
  by_cases shown : (s.strip i).shown = some c
  · by_cases writes : (s.strip i).operatorOwned = true ∧ s.home c ≠ none
    · rw [State.deliverLevel_writes shown writes.1 writes.2, State.writeBack_held]
      · rfl
      · exact fun may => silent ⟨shown, writes.1, writes.2, may⟩
    · rw [State.deliverLevel, if_pos shown]
      dsimp only
      rw [if_neg]
      · rfl
      · intro both
        rw [Bool.and_eq_true, State.strip_modStrip_self] at both
        exact writes ⟨both.1, Option.isSome_iff_ne_none.mp both.2⟩
  · rw [State.deliverLevel, if_neg shown]

end results

/-! ## The entries that stand after a completion -/

/-- With no beat held the completion leaves the entries that the delivery leaves, STATUS apart (R53, R60). -/
theorem State.mem_completion {s : State} (free : s.port.heldBeat = none) (run : ConvRun) (work : ConvWork)
    (rest : List ConvReq) {e : InjEntry} (other : e.isStatus = false) :
    e ∈ (s.delivered run work rest).serveSlots.taperCheck.port.queue ↔
      e ∈ ((s.vacated run rest).deliver run.table work).port.queue := by
  have port : (s.delivered run work rest).port = ((s.vacated run rest).deliver run.table work).port :=
    State.startHead_port _
  have unheld : (s.delivered run work rest).port.heldBeat = none := by
    rw [port, State.deliver_port_heldBeat]
    exact free
  rw [State.mem_taperCheck other, (State.Served.serveSlots _).unheld unheld, ← port]

/-! ## A waiter in the freed slot (R53) -/

/-- The completion of a state with another queue and another wait list: the delivery does not see them. -/
theorem State.delivered_retaper (s : State) (run : ConvRun) (work : ConvWork) {rest Q : List ConvReq} (q : ConvReq)
    (ws : List Waiter) (same : Q = [] ↔ rest = []) :
    State.delivered { s with taper := { s.taper with queue := q :: Q, waiters := ws } } run work Q =
      (s.delivered run work rest).modTaper fun u => { u with queue := Q, waiters := ws } := by
  have vacated : State.vacated { s with taper := { s.taper with queue := q :: Q, waiters := ws } } run Q =
      (s.vacated run rest).modTaper fun u => { u with queue := Q, waiters := ws } := rfl
  have taper := (s.vacated run rest).deliver_taper run.table work
  rw [State.delivered, State.delivered, vacated, State.deliver_modTaper]
  by_cases last : rest = []
  · rw [State.startHead_of_busy (.inr (same.mpr last)), State.startHead_of_busy (.inr (by rw [taper]; exact last))]
  · rw [State.startHead_of_idle (by rw [State.modTaper_taper, taper]; rfl) (mt same.mp last),
      State.startHead_of_idle (by rw [taper]; rfl) (by rw [taper]; exact last)]
    rfl

/-- The waiter that is served has left the list, the freed slot before it (R53). -/
def State.freed (s : State) (run : ConvRun) (work : ConvWork) (rest : List ConvReq) (ws : List Waiter) : State :=
  (s.delivered run work rest).setWaiters ws

theorem State.modTaper_queue_self {s : State} {Q : List ConvReq} (queue : s.taper.queue = Q) :
    (s.modTaper fun u => { u with queue := Q }) = s := by
  subst queue
  rfl

section freed

variable {s : State} {run : ConvRun} {q : ConvReq} {rest : List ConvReq} {w : Waiter} {ws : List Waiter} {r : ConvReq}

theorem State.freed_taper (full : rest.length = 15) : (s.freed run q.work rest ws).taper = { s.taper with
    queue := rest, running := some ⟨s.taper.active, max s.clock run.due + 4⟩, waiters := ws } := by
  have more : rest ≠ [] := List.ne_nil_of_length_eq_add_one full
  rw [State.freed, State.modTaper_taper, State.delivered_taper, State.nextRun, if_neg more]

theorem State.freed_room (full : rest.length = 15) : (s.freed run q.work rest ws).taper.queue.length < 16 := by
  rw [State.freed_taper full]
  exact full.trans_lt (by decide)

theorem State.freed_runs (full : rest.length = 15) :
    (s.freed run q.work rest ws).taper.running = some ⟨s.taper.active, max s.clock run.due + 4⟩ := by
  rw [State.freed_taper full]

theorem State.freed_requestOf (w : Waiter) : (s.freed run q.work rest ws).requestOf w = s.requestOf w :=
  Eq.trans (by cases w <;> rfl) (s.delivered_requestOf run q.work rest w)

variable (waits : s.taper.waiters = w :: ws) (full : rest.length = 15)
include waits full

/-- The oldest waiter is served first. -/
theorem State.delivered_serveSlots : (s.delivered run q.work rest).serveSlots =
    ((s.freed run q.work rest ws).serveOne w).serveWaiters ws.length := by
  refine State.serveSlots_head ?_ ?_
  · rw [State.delivered_taper]
    exact waits
  · rw [State.delivered_taper]
    exact full.trans_lt (by decide)

/-- A request alone of its key takes the freed slot, and no other waiter is served. -/
theorem State.served_takes (asks : s.requestOf w = some r) (alone : ∀ x ∈ rest.drop 1, x.work.key ≠ r.work.key) :
    (s.delivered run q.work rest).serveSlots.taperCheck.taper = { s.taper with
      queue := rest ++ [r], running := some ⟨s.taper.active, max s.clock run.due + 4⟩, waiters := ws } := by
  have taper := State.freed_taper (s := s) (run := run) (q := q) (ws := ws) full
  have joins := State.convert_appends (r := r) (State.freed_runs (s := s) (run := run) (q := q) (ws := ws) full)
    (by rw [taper]; exact alone) (State.freed_room full)
  rw [State.taperCheck_taper, State.delivered_serveSlots waits full,
    State.serveOne_request ((State.freed_requestOf w).trans asks), joins, Option.getD_some, State.serveWaiters_idle,
    State.modTaper_taper, taper]
  right
  rw [State.modTaper_taper, taper, List.length_append, full]
  exact Nat.le_refl _

/-- What is left when the oldest waiter adds no request: the next are served. -/
theorem State.served_passes {Q : List ConvReq} (same : Q = [] ↔ rest = [])
    (serves : (s.freed run q.work rest ws).serveOne w =
      (s.freed run q.work rest ws).modTaper fun u => { u with queue := Q }) :
    (s.delivered run q.work rest).serveSlots =
      (State.delivered { s with taper := { s.taper with queue := q :: Q, waiters := ws } } run q.work Q).serveSlots := by
  rw [State.delivered_serveSlots waits full, serves, State.delivered_retaper s run q.work q ws same]
  rfl

/-- A request that coalesces leaves the slot to the next waiter. -/
theorem State.served_coalesces (asks : s.requestOf w = some r) (other : ¬ ∀ x ∈ rest.drop 1, x.work.key ≠ r.work.key) :
    let Q := rest.take 1 ++ (rest.drop 1).map (ConvReq.coalesce r)
    (s.delivered run q.work rest).serveSlots =
      (State.delivered { s with taper := { s.taper with queue := q :: Q, waiters := ws } } run q.work Q).serveSlots := by
  intro Q
  have taper := State.freed_taper (s := s) (run := run) (q := q) (ws := ws) full
  have joins := State.convert_coalesces (r := r) (State.freed_runs (s := s) (run := run) (q := q) (ws := ws) full)
    (by rw [taper]; exact other)
  refine State.served_passes waits full ?_ ?_
  · obtain ⟨x, xs, rfl⟩ := List.exists_cons_of_ne_nil (List.ne_nil_of_length_eq_add_one full)
    simp [Q]
  · rw [State.serveOne_request ((State.freed_requestOf w).trans asks), joins, Option.getD_some]
    simp only [State.modTaper, taper, Q]

/-- A waiter that is dropped leaves the slot to the next one. -/
theorem State.served_dropped (asks : s.requestOf w = none) (other : w ≠ .beat) :
    (s.delivered run q.work rest).serveSlots =
      (State.delivered { s with taper := { s.taper with queue := q :: rest, waiters := ws } } run q.work rest).serveSlots := by
  have taper := State.freed_taper (s := s) (run := run) (q := q) (ws := ws) full
  refine State.served_passes waits full Iff.rfl ?_
  rw [State.serveOne_dropped ((State.freed_requestOf w).trans asks) other]
  exact (State.modTaper_queue_self (by rw [taper])).symm

end freed

/-! ## A held beat in the freed slot (R5, R53) -/

theorem State.decodeBeat_congr {s t : State} (windows : t.windows = s.windows) (strap : t.strap = s.strap) (addr : Nat) :
    t.decodeBeat addr = s.decodeBeat addr := by
  unfold State.decodeBeat State.controlBase
  rw [windows, strap]

/-- What follows the service of a held beat leaves the channels, the port's held beat and its lines alone. -/
theorem State.rest_of_service {s : State} (free : s.port.heldBeat = none) (n : Nat) :
    (s.serveWaiters n).taperCheck.chans = s.chans ∧ s.port.SameLines (s.serveWaiters n).taperCheck.port := by
  have stood := (State.Served.serveWaiters n s).unheld free
  have lines := (s.serveWaiters n).taperCheck_sameLines
  refine ⟨?_, ?_⟩
  · rw [State.taperCheck_eq, stood]
  · rw [stood] at lines ⊢
    exact lines

/-- The channel table once a code is recorded, the hand-off still to come (R33). -/
def State.recorded (s : State) (c : ChanId) (code : Code) : State := s.setChan c ((s.chan c).take code)

/-- A held beat that converts for a strip that shows its channel takes the slot. -/
theorem State.dataBeat_converts {s : State} {b : PortRequest} {data : Word} {e : Enables} {k : ChanId} {order : WordOrder}
    {i : StripId} {head : ConvRun} (fader : s.decodeBeat b.beatAddr = .fader k order) (covers : coversCode order e = true)
    (shown : s.shownBy k = some i) (converts : (s.strip i).converts) (runs : s.taper.running = some head)
    (alone : ∀ x ∈ s.taper.queue.drop 1, x.work.key ≠ .level k) (room : s.taper.queue.length < 16) :
    let t := (s.modPort fun p => p.passBeat b data e).dataBeat b.beatAddr data e
    t.taper = { s.taper with
      queue := s.taper.queue ++ [⟨.levelToTravel k (codeHalf order data) (t.chan k).seq, false⟩] } := by
  intro t
  obtain ⟨whole, parts⟩ := s.acceptBeat_fader fader data e
  have made : t = ((s.beatWork b data e).recorded k (codeHalf order data)).handOff k (codeHalf order data) := by
    rw [show t = _ from whole.symm.trans parts, State.faderBeat, beatCode_of_covers covers]
    rfl
  have taper : ((s.beatWork b data e).recorded k (codeHalf order data)).taper = s.taper := by simp [State.recorded]
  have shows : ((s.beatWork b data e).recorded k (codeHalf order data)).shownBy k = some i :=
    (State.beatWork_shownBy ..).trans shown
  have takes : (((s.beatWork b data e).recorded k (codeHalf order data)).strip i).converts := by
    simpa [State.recorded] using converts
  generalize (s.beatWork b data e).recorded k (codeHalf order data) = u at made taper shows takes
  rw [State.handOff_converts shows takes, State.convert_appends (head := head) (by rw [taper]; exact runs)
    (by rw [taper]; exact alone) (by rw [taper]; exact room), Option.getD_some] at made
  have record : t.chan k = u.chan k := by
    rw [made]
    rfl
  rw [record, made, State.modTaper_taper, taper]

section heldBeat

variable {s : State} {run : ConvRun} {q : ConvReq} {rest : List ConvReq} {ws : List Waiter}

/-- The delivery leaves the request and the held beat of the port alone. -/
theorem State.freed_sameLines : s.port.SameLines (s.freed run q.work rest ws).port := by
  have port : (s.freed run q.work rest ws).port = ((s.vacated run rest).deliver run.table q.work).port :=
    State.startHead_port _
  rw [port]
  exact (s.vacated run rest).deliver_sameLines run.table q.work

theorem State.freed_decodeBeat (addr : Nat) : (s.freed run q.work rest ws).decodeBeat addr = s.decodeBeat addr := by
  refine State.decodeBeat_congr ?_ ?_ addr
  · exact (State.startHead_windows _).trans (by rw [State.deliver_frame]; rfl)
  · exact (State.startHead_strap _).trans (by rw [State.deliver_frame]; rfl)

/-- A held beat that waits first is accepted; its conversion takes the freed slot (R5, R34, R53). -/
theorem State.served_beat {b : PortRequest} {data : Word} {e : Enables} (waits : s.taper.waiters = .beat :: ws)
    (full : rest.length = 15) (req : s.port.req = some b) (held : s.port.heldBeat = some (data, e)) :
    let t := (s.delivered run q.work rest).serveSlots.taperCheck
    t.port.heldBeat = none ∧ t.port.toMemory = s.port.toMemory ++ [MOut.writeBeat data e] ∧
    ∀ k order, s.decodeBeat b.beatAddr = .fader k order → coversCode order e = true →
      (t.chan k).image = some (codeHalf order data) ∧
      ∀ i, s.shownBy k = some i → (s.strip i).converts → (∀ x ∈ rest.drop 1, x.work.key ≠ .level k) →
        t.taper = { s.taper with
          queue := rest ++ [⟨.levelToTravel k (codeHalf order data) (t.chan k).seq, false⟩]
          running := some ⟨s.taper.active, max s.clock run.due + 4⟩, waiters := ws } := by
  intro t
  have taper := State.freed_taper (s := s) (run := run) (q := q) (ws := ws) full
  have lines := State.freed_sameLines (s := s) (run := run) (q := q) (rest := rest) (ws := ws)
  obtain ⟨passed, sent⟩ := (s.freed run q.work rest ws).served_beat_port b data e
  obtain ⟨chans, after⟩ := State.rest_of_service passed ws.length
  have served : t = ((((s.freed run q.work rest ws).modPort fun p =>
      p.passBeat b data e).dataBeat b.beatAddr data e).serveWaiters ws.length).taperCheck := by
    rw [← State.serveOne_beat (lines.req.trans req) (lines.heldBeat.trans held), ← State.delivered_serveSlots waits full]
  rw [← served] at chans after
  refine ⟨after.heldBeat.trans passed, after.toMemory.trans (sent.trans (by rw [lines.toMemory])),
    fun k order fader covers => ?_⟩
  have decoded := (State.freed_decodeBeat (s := s) (run := run) (q := q) (rest := rest) (ws := ws) b.beatAddr).trans fader
  refine ⟨?_, fun i shown converts alone => ?_⟩
  · rw [State.chan_congr chans]
    exact State.dataBeat_image (s := (s.freed run q.work rest ws).modPort _) decoded covers
  · have joins := State.dataBeat_converts (data := data) decoded covers
      ((s.delivered_shownBy run q.work rest k).trans shown) ((s.delivered_strip run q.work rest i).converts converts)
      (State.freed_runs full) (by rw [taper]; exact alone) (State.freed_room full)
    have idle := State.serveWaiters_idle (s := ((s.freed run q.work rest ws).modPort fun p =>
      p.passBeat b data e).dataBeat b.beatAddr data e) (.inr (by
        rw [joins, taper]
        simp [full])) ws.length
    rw [State.chan_congr chans, served, State.taperCheck_taper, idle, joins, taper]

end heldBeat

/-! ## LOAD_TAPER in progress at a completion (R60) -/

/-- Before the completion asks whether it finishes LOAD_TAPER, the command is in progress as it was. -/
theorem State.completion_steady (s : State) (run : ConvRun) (work : ConvWork) (rest : List ConvReq) :
    s.Steady (s.delivered run work rest).serveSlots :=
  have delivered : s.Steady (s.delivered run work rest) :=
    ((.of_ctl rfl : s.Steady (s.vacated run rest)).trans (.deliver _ _ _)).trans (.of_ctl (State.startHead_ctl _))
  delivered.trans (State.Served.serveSlots _).steady

/-- LOAD_TAPER goes on while an owned request is left, and else answers in the completion. -/
theorem State.completion_load {s : State} {tag : BitVec 8} {n : Nat} (busy : s.ctl.busy = some (.loadTaper tag n))
    (run : ConvRun) (work : ConvWork) (rest : List ConvReq) :
    let t := (s.delivered run work rest).serveSlots.taperCheck
    (t.taper.hasOwned = true → t.ctl.busy = some (.loadTaper tag n) ∧ t.ctl.result = s.ctl.result) ∧
    (t.taper.hasOwned = false → t.ctl.busy = none ∧ t.ctl.result = BitVec.ofNat 16 n ++ (1#8 ++ tag) ∧
      t.ctl.commandCause = true ∧ ∃ e ∈ t.port.queue, e.body = .status .result t.ctl.result) := by
  obtain ⟨stays, result⟩ := (s.completion_steady run work rest).stands (by simp [busy])
  have going := stays.trans busy
  dsimp only
  rw [State.taperCheck_taper]
  refine ⟨fun owned => ?_, State.taperCheck_done going⟩
  rw [State.taperCheck_owned going owned]
  exact ⟨going, result⟩

/-! ## The results (R55, R56, R116, R117, R136) -/

section results

variable {s : State} {run : ConvRun} {i : StripId} {rest : List ConvReq}

/-- A readback's result: the strip, and the POSITION of its write-back (R55, R116, R117). -/
theorem State.completion_readback (travel : Nat) (c : ChanId) :
    let k := travelToLevel run.table travel
    let t := (s.delivered run (.travelToLevel i travel c) rest).serveSlots.taperCheck
    t.strip i = (if (s.strip i).shown = some c then
      { s.strip i with opCode := some k, lastReadback := some travel } else s.strip i) ∧
    (∀ j, j ≠ i → t.strip j = s.strip j) ∧
    (s.port.heldBeat = none → (s.strip i).shown = some c → (s.strip i).operatorOwned = true →
      s.home c ≠ none → (s.chan c).image ≠ some k ∨ s.positionStands c = true →
      s.port.queue.countP InjEntry.isPosition < 32 ∨ s.port.queue.any (InjEntry.isPositionOf c) = true →
      ∃ e ∈ t.port.queue, ∃ a w, s.home c = some (a, w) ∧ e.addr = a ∧ e.body = .position c k w) ∧
    (s.port.heldBeat = none →
      ¬ ((s.strip i).shown = some c ∧ (s.strip i).operatorOwned = true ∧ s.home c ≠ none ∧
        ((s.chan c).image ≠ some k ∨ s.positionStands c = true)) →
      ∀ e, e.isPosition = true → (e ∈ t.port.queue ↔ e ∈ s.port.queue)) := by
  intro k t
  obtain ⟨-, strips, -⟩ := s.completion_frame run (.travelToLevel i travel c) rest
  have strip : ∀ j, t.strip j = ((s.vacated run rest).deliverLevel i c travel k).strip j := State.strip_congr strips
  refine ⟨?_, fun j other => ?_, fun free shown owned home may place => ?_, fun free silent e position => ?_⟩
  · rw [strip, State.deliverLevel_strip]
    rfl
  · rw [strip, State.deliverLevel_strip_ne other]
    rfl
  · obtain ⟨e, mem, a, w, at_, addr, body⟩ := State.writeBack_placed (code := k)
      (s := (s.vacated run rest).modStrip i fun p => p.readAs k travel) home may place
    rw [← State.deliverLevel_writes (s := s.vacated run rest) shown owned home] at mem
    exact ⟨e, (State.mem_completion free run _ rest (by simp [InjEntry.isStatus, body])).mpr mem, a, w, at_, addr, body⟩
  · rw [State.mem_completion free run _ rest (InjEntry.isStatus_of_isPosition position), State.deliver,
      State.deliverLevel_port (s := s.vacated run rest) silent]
    rfl

/-- A threshold's result: it becomes the strip's, and a line it leaves no span is OFF (R56, R136). -/
theorem State.completion_threshold (on : Bool) (code : Code) :
    let x := levelToTravel run.table code
    let t := (s.delivered run (.threshold i on code) rest).serveSlots.taperCheck
    (let p := s.strip i
     let n := if on then x else p.onTravel
     let f := if on then p.offTravel else x
     t.strip i = { p with
      onTravel := n, offTravel := f
      line := p.line && !(p.mode == .parked || !p.fsEnable || p.onCode.sle p.offCode || decide (n ≤ f)) }) ∧
    (∀ j, j ≠ i → t.strip j = s.strip j) := by
  intro x t
  obtain ⟨-, strips, -⟩ := s.completion_frame run (.threshold i on code) rest
  have strip : ∀ j, t.strip j = ((s.vacated run rest).deliverThreshold i on x).strip j := State.strip_congr strips
  refine ⟨?_, fun j other => ?_⟩
  · rw [strip, State.deliverThreshold, State.forceLine_strip_self, State.strip_modStrip_self]
    cases on <;> rfl
  · rw [strip, State.deliverThreshold, State.forceLine_strip_ne _ i other, State.strip_modStrip_ne _ other]
    rfl

end results

theorem exec_conversionStart {s : State} (live : s.inReset = false) : exec .conversionStart s = .next s.startHead :=
  live_running (f := State.startHead) live

/-- Settles O41: what a completion leaves is read off its parts, the delivery, the next head, the waiters and LOAD_TAPER's end. -/
theorem otherConversionsAreDelivered : Obligations.OtherConversionsAreDelivered := by
  refine ⟨fun run i travel c o rest s live running queue => ?_, fun run i on code o rest s live running queue => ?_,
    fun run q rest c s live running queue names => ?_, fun s live => ⟨fun idle head => ?_, fun busy => ?_⟩⟩
  · exact ⟨_, exec_completion live running queue, State.completion_readback travel c⟩
  · exact ⟨_, exec_completion live running queue, State.completion_threshold on code⟩
  · intro head request
    have completes : c = q.work.completion := by
      split at names <;> next work => rw [names, work]; rfl
    subst completes
    have asks : request = s.requestOf := by
      funext w
      cases w <;> rfl
    clear_value request
    subst asks
    refine ⟨_, exec_completion live running queue, fun none => ?_, fun w ws waits full => ?_,
      fun tag n busy => State.completion_load busy run q.work rest⟩
    · rw [State.taperCheck_taper, State.serveSlots_idle (.inl (by rw [State.delivered_taper]; exact none)),
        State.delivered_taper, State.nextRun]
    · refine ⟨fun r asks alone => State.served_takes waits full asks alone, fun r asks other => ?_,
        fun asks other => ?_, fun b data e beat req held => State.served_beat (beat ▸ waits) full req held⟩
      · rw [exec_completion live running queue, State.served_coalesces waits full asks other]
        exact (exec_completion (s := { s with taper := { s.taper with queue := _, waiters := ws } }) live running rfl).symm
      · rw [exec_completion live running queue, State.served_dropped waits full asks other, ← queue]
        exact (exec_completion (s := { s with taper := { s.taper with waiters := ws } }) live running queue).symm
  · rw [exec_conversionStart live, State.startHead_of_idle idle head]
    rfl
  · rw [exec_conversionStart live, State.startHead_of_busy busy]

end Sys2Proof.Machine
end

section
namespace Sys2Proof.Machine

open Sys2Proof

/-! ## Works that leave strips, drive, parameters and tables alone -/

/-- From `s` to `t` the strips, the drive supervisor, the live parameters and the active taper table stand, the ring stays safe, and a conversion that was
started since took the active table. -/
structure State.Quiet (s t : State) : Prop where
  strips : t.strips = s.strips
  drive : t.drive = s.drive
  params : t.ctl.params = s.ctl.params
  ring : s.ctl.ringSafe → t.ctl.ringSafe
  active : t.taper.active = s.taper.active
  running : ∀ run, t.taper.running = some run → s.taper.running = some run ∨ run.table = s.taper.active

namespace State.Quiet

variable {s t u : State}

/-- What leaves the strips, the drive supervisor, the control unit and the taper unit alone is quiet. -/
theorem of_eq (strips : t.strips = s.strips := by simp) (drive : t.drive = s.drive := by simp)
    (ctl : t.ctl = s.ctl := by simp) (taper : t.taper = s.taper := by simp) : s.Quiet t where
  strips := strips
  drive := drive
  params := by rw [ctl]
  ring := by rw [ctl]; exact id
  active := by rw [taper]
  running := by rw [taper]; exact fun _ => .inl

theorem refl : s.Quiet s := of_eq rfl rfl rfl rfl

theorem trans (h : s.Quiet t) (h' : t.Quiet u) : s.Quiet u where
  strips := h'.strips.trans h.strips
  drive := h'.drive.trans h.drive
  params := h'.params.trans h.params
  ring := h'.ring ∘ h.ring
  active := h'.active.trans h.active
  running run runs := by
    obtain was | table := h'.running run runs
    · exact h.running run was
    · exact .inr (table.trans h.active)

/-- A change of the control unit that keeps the parameters and the ring's safety. -/
theorem modCtl {f : Control → Control} (params : (f s.ctl).params = s.ctl.params := by rfl)
    (ring : s.ctl.ringSafe → (f s.ctl).ringSafe := by exact id) : s.Quiet (s.modCtl f) :=
  ⟨rfl, rfl, params, ring, rfl, fun _ => .inl⟩

/-- A change of the taper unit that keeps the active table, and the running conversion or ends it. -/
theorem modTaper {f : TaperUnit → TaperUnit} (active : (f s.taper).active = s.taper.active := by rfl)
    (running : (f s.taper).running = s.taper.running ∨ (f s.taper).running = none := by exact .inl rfl) :
    s.Quiet (s.modTaper f) := by
  refine ⟨rfl, rfl, rfl, id, active, fun run runs => .inl ?_⟩
  obtain same | ends := running
  · exact same.symm.trans runs
  · cases ends.symm.trans runs

/-! ### Status words, results and events (R14, R192, R200, R203) -/

theorem pushStatus (s : State) (w : StatusWord) : s.Quiet (s.pushStatus w) := of_eq

theorem putResult (s : State) (tag : BitVec 8) (code : ResultCode) (v : BitVec 16) : s.Quiet (s.putResult tag code v) := by
  have answered : s.Quiet (((s.modCtl fun c => { c with result := resultWord tag code.number v }).pushStatus .result).modCtl
      fun c => { c with commandCause := true }) := ((modCtl).trans (pushStatus ..)).trans modCtl
  unfold State.putResult
  dsimp only
  split
  · exact answered
  · exact answered.trans (pushStatus ..)

theorem syncCheck (s : State) : s.Quiet s.syncCheck := by
  unfold State.syncCheck
  split
  · split
    · exact refl
    · exact (modCtl).trans (putResult ..)
  · exact refl

theorem requestStatus (s : State) (w : StatusWord) : s.Quiet (s.requestStatus w) := (pushStatus s w).trans (syncCheck _)

theorem writeResult (s : State) (tag : BitVec 8) (code : ResultCode) (v : BitVec 16) :
    s.Quiet (s.writeResult tag code v) := (putResult s tag code v).trans (syncCheck _)

theorem modCauses {f : Control → Control} (params : (f s.ctl).params = s.ctl.params := by rfl)
    (ring : s.ctl.ringSafe → (f s.ctl).ringSafe := by exact id) : s.Quiet (s.modCauses f) := by
  unfold State.modCauses State.noteCauses
  split
  · exact modCtl params ring
  · exact (modCtl params ring).trans (requestStatus ..)

theorem setFault (s : State) : s.Quiet s.setFault := modCauses

theorem keepEntries (s : State) (keep : InjEntry → Bool) : s.Quiet (s.keepEntries keep) :=
  (of_eq).trans (syncCheck (s.modPort _))

theorem loseEvent (s : State) : s.Quiet s.loseEvent := by
  have counted : s.Quiet ((s.modCtl fun c => { c with lostCount := c.lostCount + 1 }).requestStatus .counters) :=
    (modCtl).trans (requestStatus ..)
  unfold State.loseEvent
  dsimp only
  split
  · exact counted.trans modCauses
  · exact modCauses

theorem deliverEvent (on : s.ctl.ringCapacity ≠ 0) (kind : EventKind) (index : BitVec 8) (v n : BitVec 16) :
    s.Quiet (s.deliverEvent kind index v n) := by
  have advanced : s.Quiet (((s.pushEntry (s.ctl.slotAddr s.ctl.producer)
      (.event (eventWord0 kind index n) (eventWord1 v s.ctl.time))).modCtl fun c =>
        { c with producer := c.nextProducer }).requestStatus .producer) := by
    refine ((of_eq).trans (modCtl (ring := fun safe => ?_))).trans (requestStatus ..)
    obtain ⟨off, -, -⟩ | ⟨low, high, -, consumer⟩ := safe
    · exact absurd off (by simpa using on)
    · exact .inr ⟨low, high, Nat.mod_lt _ (Nat.lt_of_lt_of_le (by decide) low), consumer⟩
  unfold State.deliverEvent
  dsimp only
  split
  · exact advanced
  · exact advanced.trans (requestStatus ..)

theorem createEvent (s : State) (kind : EventKind) (index : BitVec 8) (v : BitVec 16) :
    s.Quiet (s.createEvent kind index v) := by
  have numbered : s.Quiet (s.modCtl fun c => { c with serial := c.serial + 1#16 }) := modCtl
  unfold State.createEvent
  dsimp only
  split
  · exact numbered
  · next on =>
    split
    · exact numbered.trans (loseEvent _)
    · exact numbered.trans (deliverEvent (s := s.modCtl fun c => { c with serial := c.serial + 1#16 }) on ..)

theorem stripEvent (s : State) (kind : EventKind) (i : StripId) (v : BitVec 16) : s.Quiet (s.stripEvent kind i v) :=
  createEvent ..

/-! ### Requests for entries and conversions (R12, R49 to R53) -/

theorem requestPosition (s : State) (c : ChanId) (code : Code) : s.Quiet (s.requestPosition c code) := by
  unfold State.requestPosition
  split
  · exact refl
  · split
    · exact of_eq
    · split
      · exact of_eq
      · exact createEvent ..

theorem writeBack (s : State) (c : ChanId) (code : Code) : s.Quiet (s.writeBack c code) := by
  unfold State.writeBack
  split
  · exact requestPosition ..
  · exact refl

theorem startHead (s : State) : s.Quiet s.startHead := by
  unfold State.startHead
  split
  · refine ⟨rfl, rfl, rfl, id, rfl, fun run runs => .inr ?_⟩
    cases runs
    rfl
  all_goals exact refl

theorem convert {q : ConvReq} (made : s.convert q = some t) : s.Quiet t := by
  unfold State.convert at made
  split at made
  · cases made
    exact modTaper
  · split at made
    · cases made
      exact (modTaper).trans (startHead _)
    · cases made

theorem wait (s : State) (w : Waiter) : s.Quiet (s.wait w) := by
  have same : (s.wait w).taper.active = s.taper.active ∧ (s.wait w).taper.running = s.taper.running := by
    rw [State.wait_taper_eq]
    exact ⟨rfl, rfl⟩
  exact ⟨by simp, by simp, by simp, by simp, same.1, by rw [same.2]; exact fun _ => .inl⟩

theorem convertOrWait (s : State) (q : ConvReq) (w : Waiter) : s.Quiet (s.convertOrWait q w) := by
  unfold State.convertOrWait
  split
  · next made => exact convert made
  · exact wait ..

theorem convertChannel (s : State) (c : ChanId) (o : Bool) : s.Quiet (s.convertChannel c o) := by
  unfold State.convertChannel
  split
  · exact convertOrWait ..
  · exact refl

theorem convertThreshold (s : State) (i : StripId) (on o : Bool) : s.Quiet (s.convertThreshold i on o) :=
  convertOrWait ..

theorem convertShown (s : State) (i : StripId) (o : Bool) : s.Quiet (s.convertShown i o) := by
  unfold State.convertShown
  split
  · exact convertChannel ..
  · exact refl

/-! ### Beats and the slot wait list (R5, R33 to R35, R53) -/

theorem handOff (s : State) (c : ChanId) (code : Code) : s.Quiet (s.handOff c code) := by
  unfold State.handOff
  split
  · exact refl
  · split
    · exact refl
    · split
      · next made => exact convert made
      · exact refl
    · split
      · exact requestPosition ..
      · exact refl

theorem dataBeat (s : State) (addr : Nat) (data : Word) (e : Enables) : s.Quiet (s.dataBeat addr data e) := by
  have work : s.Quiet (s.portWork addr e) := (of_eq).trans (keepEntries (s.modPort _) _)
  unfold State.dataBeat
  dsimp only
  split
  · refine work.trans ?_
    unfold State.faderBeat
    split
    · exact (of_eq).trans (handOff (State.setChan ..) ..)
    · exact refl
  · refine work.trans ?_
    unfold State.captureMeter
    split
    · exact of_eq
    · exact refl
  · exact work
  · exact work

theorem serveOne (s : State) (w : Waiter) : s.Quiet (s.serveOne w) := by
  cases w with
  | beat =>
    simp only [State.serveOne, State.serveBeat]
    split
    · exact (of_eq).trans (dataBeat (s.modPort _) ..)
    · exact refl
  | level c fromFetch owned =>
    simp only [State.serveOne]
    split
    · split
      · next made => exact convert made
      · exact refl
    · exact refl
  | threshold i on owned =>
    simp only [State.serveOne]
    split
    · next made => exact convert made
    · exact refl

theorem serveWaiters (n : Nat) (s : State) : s.Quiet (s.serveWaiters n) := by
  induction n generalizing s with
  | zero => exact refl
  | succ n ih =>
    unfold State.serveWaiters
    split
    · exact refl
    · split
      · exact ((modTaper).trans (serveOne ..)).trans (ih _)
      · exact refl

theorem serveSlots (s : State) : s.Quiet s.serveSlots := serveWaiters ..

theorem taperCheck (s : State) : s.Quiet s.taperCheck := by
  unfold State.taperCheck
  split
  · split
    · exact refl
    · exact (modCtl).trans (writeResult ..)
  · exact refl

/-! ### Words and commands that leave the strips alone (R17, R57, R183, R188, R198 to R204) -/

/-- A ring set up anew is empty (R202). -/
theorem reconfigureRing {f : Control → Control} (params : (f s.ctl).params = s.ctl.params)
    (capacity : s.ctl.ringSafe → (f s.ctl).ringCapacity = 0 ∨ 16 ≤ (f s.ctl).ringCapacity ∧ (f s.ctl).ringCapacity ≤ 1024) :
    s.Quiet (s.reconfigureRing f) := by
  have emptied : s.Quiet (((s.modCtl fun c => { f c with producer := 0, consumer := 0 }).keepEntries
      fun e => !e.isEvent).requestStatus .producer) := by
    refine ((modCtl (f := fun c => { f c with producer := 0, consumer := 0 }) params fun safe => ?_).trans
      (keepEntries ..)).trans (requestStatus ..)
    obtain off | ⟨low, high⟩ := capacity safe
    · exact .inl ⟨off, rfl, rfl⟩
    · exact .inr ⟨low, high, Nat.lt_of_lt_of_le (Nat.succ_pos 15) low, Nat.lt_of_lt_of_le (Nat.succ_pos 15) low⟩
  unfold State.reconfigureRing
  dsimp only
  split
  · exact emptied.trans (requestStatus ..)
  · exact emptied

theorem setRingBase (s : State) (w : Word) : s.Quiet (s.setRingBase w) :=
  reconfigureRing (f := fun c => { c with ringBase := (w.extractLsb' 0 24).toNat }) rfl fun safe =>
    safe.imp (fun ⟨off, _⟩ => off) fun ⟨low, high, _⟩ => ⟨low, high⟩

theorem setRingCapacity (s : State) (w : Word) : s.Quiet (s.setRingCapacity w) :=
  reconfigureRing (f := fun c => { c with ringCapacity := ringCapacityOf w }) rfl fun _ => by
    dsimp only [ringCapacityOf, clampNat]
    (repeat' split) <;> omega

theorem setConsumer (s : State) (w : Word) : s.Quiet (s.setConsumer w) := by
  unfold State.setConsumer
  split
  · next below =>
    refine modCauses (ring := fun safe => ?_)
    obtain ⟨off, -, -⟩ | ⟨low, high, producer, -⟩ := safe
    · simp [off] at below
    · exact .inr ⟨low, high, producer, below⟩
  · exact refl

theorem ack (s : State) (w : Word) : s.Quiet (s.ack w) := modCauses

theorem stage (s : State) (o : Nat) (w : Word) : s.Quiet (s.stage o w) := by
  unfold State.stage
  split
  · exact of_eq rfl rfl rfl rfl
  · split
    · exact of_eq rfl rfl rfl rfl
    · split
      · exact modTaper
      · (repeat' split) <;> exact of_eq rfl rfl rfl rfl

theorem queryStrip (s : State) (tag : BitVec 8) (arg : BitVec 16) : s.Quiet (s.queryStrip tag arg) := by
  unfold State.queryStrip
  split
  · exact writeResult ..
  · split <;> exact writeResult ..

theorem startSync (s : State) (tag : BitVec 8) : s.Quiet (s.startSync tag) := (modCtl).trans (syncCheck _)

theorem loadMeterSetup (s : State) (tag : BitVec 8) : s.Quiet (s.loadMeterSetup tag) := by
  unfold State.loadMeterSetup
  split
  · exact writeResult ..
  · exact (of_eq).trans (writeResult (s.modMeter _) ..)

theorem applyWindows (s : State) (ws : Vector Window 16) : s.Quiet (s.applyWindows ws) := by
  unfold State.applyWindows
  dsimp only
  refine trans ?_ (keepEntries ..)
  exact ⟨rfl, rfl, rfl, id, rfl, fun _ => .inl⟩

theorem resetChannels (s : State) : s.Quiet s.resetChannels := by
  unfold State.resetChannels
  dsimp only
  refine trans ?_ (keepEntries ..)
  exact of_eq rfl rfl rfl rfl

theorem resetTaper (s : State) : s.Quiet s.resetTaper := by
  have refill : ∀ (l : List (StripId × Bool)) (t : State),
      t.Quiet (l.foldl (fun t k => t.convertThreshold k.1 k.2 false) t) := by
    intro l
    induction l with
    | nil => exact fun _ => refl
    | cons k l ih => exact fun t => (convertThreshold ..).trans (ih _)
  exact (modTaper rfl (.inr rfl)).trans (refill ..)

theorem reseat (s : State) (i : StripId) : s.Quiet (s.reseat i) :=
  ((convertShown ..).trans (convertThreshold ..)).trans (convertThreshold ..)

/-! ### The image port's commands (R4 to R8, R18 to R24) -/

theorem arriveRequest (s : State) (kind : ReqKind) (addr : BitVec 24) (len : BitVec 2) (par : Bool) :
    s.Quiet (s.arriveRequest kind addr len par) := by
  have report : ∀ t : State, t.Quiet (t.reportParity addr) := by
    intro t
    have made := createEvent t .parityError (addr.extractLsb' 16 8) (addr.extractLsb' 0 16)
    rw [State.reportParity_eq]
    split
    · exact ((made.trans modCtl).trans (requestStatus ..)).trans modCauses
    · exact made.trans modCauses
  unfold State.arriveRequest
  split
  · exact refl
  · split
    · exact of_eq
    · refine trans ?_ (report _)
      exact of_eq rfl rfl rfl rfl

theorem endAlert (s : State) : s.Quiet s.endAlert := by
  unfold State.endAlert
  split
  · exact of_eq
  · exact refl

theorem grantPassing (s : State) : s.Quiet s.grantPassing := by
  unfold State.grantPassing
  split
  · split
    · exact of_eq
    · exact refl
  · exact refl

theorem issueHead (s : State) : s.Quiet s.issueHead := by
  unfold State.issueHead
  split
  · split
    · exact (of_eq).trans (syncCheck (s.modPort _))
    · exact refl
  · exact refl

theorem holdBeat (s : State) (data : Word) (e : Enables) : s.Quiet (s.holdBeat data e) :=
  (of_eq).trans (wait (s.modPort _) _)

theorem readReturns (s : State) (data : Word) (st : RespStatus) : s.Quiet (s.readReturns data st) := by
  unfold State.readReturns
  split
  · split
    · exact refl
    · exact of_eq
  · exact refl

theorem writeAnswered (s : State) (st : RespStatus) : s.Quiet (s.writeAnswered st) := by
  unfold State.writeAnswered
  split
  · exact of_eq
  · exact refl

theorem positionAnswered (s : State) (st : RespStatus) : s.Quiet (s.positionAnswered st) := by
  unfold State.positionAnswered
  split
  · dsimp only
    split
    · unfold State.positionLands
      split <;> exact of_eq rfl rfl rfl rfl
    · exact (of_eq).trans (createEvent (s.modPort _) ..)
  · exact refl

theorem applyFetch (s : State) (c : ChanId) (seq : BitVec 8) (code : Code) : s.Quiet (s.applyFetch c seq code) := by
  unfold State.applyFetch
  split
  · dsimp only
    split
    · exact (of_eq).trans (convertOrWait (s.setChan ..) ..)
    · exact of_eq
  · exact refl

theorem statusAnswered (s : State) : s.Quiet s.statusAnswered := by
  unfold State.statusAnswered
  split
  · exact of_eq
  · exact of_eq
  · exact refl

/-! ### Frames (R172 to R181) -/

theorem finishShift (s : State) : s.Quiet s.finishShift := by
  unfold State.finishShift
  split <;> exact of_eq rfl rfl rfl rfl

theorem frameChannel (s : State) (k : MeterId) : s.Quiet (s.frameChannel k) := by
  unfold State.frameChannel
  dsimp only
  split
  · refine trans ?_ (createEvent ..)
    exact of_eq rfl rfl rfl rfl
  · exact of_eq rfl rfl rfl rfl

theorem frame (s : State) : s.Quiet s.frame := by
  have process : ∀ (l : List MeterId) (t : State), t.Quiet (l.foldl State.frameChannel t) := by
    intro l
    induction l with
    | nil => exact fun _ => refl
    | cons k l ih => exact fun t => (frameChannel t k).trans (ih _)
  have opened : s.Quiet s.openFrame := (finishShift s).trans (of_eq rfl rfl rfl rfl)
  have shown : ∀ t : State, t.Quiet (t.modMeter fun e => e.computeOutputs.beginShift t.clock) := fun _ => of_eq
  exact (opened.trans (process allMeters _)).trans (shown _)

end State.Quiet
end Sys2Proof.Machine
end

section
namespace Sys2Proof.Machine

open Sys2Proof

/-- All of a strip's record that its coherence speaks of is as it was. -/
structure Strip.SameMotion (p p' : Strip) : Prop where
  mode : p'.mode = p.mode := by rfl
  motion : p'.motion = p.motion := by rfl
  touched : p'.touched = p.touched := by rfl
  latch : p'.latch = p.latch := by rfl
  drive : p'.drive = p.drive := by rfl
  cal : p'.cal = p.cal := by rfl
  calibration : p'.calibration = p.calibration := by rfl

/-- All of a strip's record that says how it is driven, and where, is as it was. -/
structure Strip.SameDrive (p p' : Strip) : Prop extends Strip.SameMotion p p' where
  m : p'.m = p.m := by rfl
  r : p'.r = p.r := by rfl
  v : p'.v = p.v := by rfl
  target : p'.target = p.target := by rfl
  onTravel : p'.onTravel = p.onTravel := by rfl
  offTravel : p'.offTravel = p.offTravel := by rfl

/-- A property of the machine that quiet works, the fields of a strip's record beside its drive, and holds keep: so do layers, fader start and
readback (06, 07). -/
structure LayerLaw (P : State → Prop) : Prop where
  quiet {s t : State} : P s → s.Quiet t → P t
  label {s : State} : P s → ∀ i f, (s.strip i).SameDrive (f (s.strip i)) → P (s.modStrip i f)
  hold {s : State} : P s → ∀ i, P (s.hold i)

/-- A property of the machine that the works on motion, drive, parameters and tables keep, each as a whole; `T` is what it says of a taper table. -/
structure StripLaw (P : State → Prop) (T : Taper → Prop) : Prop extends LayerLaw P where
  reset (s : State) : P s.fallReset
  param {s : State} : P s → ∀ p w, P (s.writeParam p w)
  load {s : State} : P s → (∀ k, s.taper.pointOffends k = false) → P (s.modTaper fun u => { u with active := u.stagedTable })
  table {s : State} {run : ConvRun} : P s → s.taper.running = some run → T run.table
  arrive {s : State} {tp : Taper} : P s → T tp → ∀ i code c, P (s.arrive i code (levelToTravel tp code) c)
  threshold {s : State} {tp : Taper} : P s → T tp → ∀ i on code, P (s.deliverThreshold i on (levelToTravel tp code))
  measure {s : State} {raw : Nat} : P s → raw ≤ 4095 → ∀ i, P (s.measure i raw)
  sampleWork {s : State} : P s → ∀ i raw, P (s.sampleWork i raw)
  setRecal {s : State} : P s → ∀ i, P (s.setRecal i)
  armOnWake {s : State} : P s → ∀ i, P (s.armOnWake i)
  press {s : State} : P s → ∀ i, P ((s.modStrip i fun p => { p with debounce := none, touched := true }).takeTouch i)
  release {s : State} : P s → ∀ i, P ((s.modStrip i fun p => { p with debounce := none, touched := false }).takeRelease i)
  setModeOf {s : State} : P s → ∀ mode i, P (s.setModeOf mode i)
  unlatchOf {s : State} : P s → ∀ i, P (s.unlatchOf i)
  clearFaultOf {s : State} : P s → ∀ i, P (s.clearFaultOf i)
  park {s : State} : P s → P ((s.forStrips allStrips State.parkStrip).modDrive fun d => { d with queue := [] })
  grant {s : State} : P s → P s.grantOldest
  wake {s : State} {g : GroupId} {n : Nat} : P s → s.rail g = .waking n →
    P ((s.reach n).setRail g (.on (if (s.reach n).groupActive g then none else some n)))
  idleOff {s : State} : P s → ∀ g, P (s.idleOff g)

variable {P : State → Prop} {T : Taper → Prop} {s t : State}

/-- A work on each of some strips keeps what the work on one strip keeps. -/
theorem State.forStrips_induct {f : StripId → State → State} (hf : ∀ i t, P t → P (f i t)) (l : List StripId) (h : P s) :
    P (s.forStrips l f) := by
  induction l generalizing s with
  | nil => exact h
  | cons i l ih => exact ih (hf i s h)

namespace LayerLaw

variable (L : LayerLaw P) (h : P s)
include L h

/-! ## Layers, adoption and fader start (R39, R40, R125 to R136) -/

theorem setLine (i : StripId) (on : Bool) : P (s.setLine i on) := by
  unfold State.setLine
  split
  · exact h
  · exact L.quiet (L.label h i (fun p => { p with line := on }) {}) (.stripEvent ..)

theorem forceLine (i : StripId) : P (s.forceLine i) := by
  unfold State.forceLine
  split
  · exact L.setLine h ..
  · exact h

theorem fetchFailed (c : ChanId) (v : BitVec 16) : P (s.fetchFailed c v) := by
  have told := L.quiet h (.createEvent s .fetchError (BitVec.ofNat 8 c.val) v)
  unfold State.fetchFailed
  dsimp only
  split
  · exact L.hold told _
  · exact told

theorem requestFetch (c : ChanId) : P (s.requestFetch c) := by
  unfold State.requestFetch
  split
  · exact h
  · split
    · exact h
    · split
      · exact L.quiet h .of_eq
      · exact L.fetchFailed h ..

theorem unmapped (i : StripId) (c : ChanId) : P (s.unmapped i c) := L.hold (L.quiet h (.stripEvent ..)) i

theorem takeChannel (i : StripId) (x : Option ChanId) : P (s.takeChannel i x) := by
  have taken := L.label h i (fun p => { p with shown := x, opCode := none, lastReadback := none, waiting := none }) {}
  unfold State.takeChannel
  dsimp only
  split
  · exact L.hold taken i
  · split
    · exact L.quiet taken (.convertChannel ..)
    · split
      · exact L.hold (L.requestFetch taken _) i
      · exact L.unmapped taken ..

theorem blank (i : StripId) (c : ChanId) :
    P ((s.takeChannel i none).modStrip i fun p => { p with conflict := some c }) :=
  L.label (L.takeChannel h ..) i _ {}

theorem adopt (i : StripId) (x : Option ChanId) : P (s.adopt i x) := by
  unfold State.adopt
  split
  · split
    · exact L.blank h ..
    · exact L.takeChannel h ..
  · exact L.takeChannel h ..

theorem releaseConflict (x : ChanId) : P (s.releaseConflict x) := by
  unfold State.releaseConflict
  split
  · exact h
  · next k _ =>
    split
    · exact L.label h k (fun p => { p with conflict := none, waiting := some (some x) }) {}
    · exact L.quiet (L.adopt (L.label h k (fun p => { p with conflict := none }) {}) ..) (.stripEvent ..)

theorem giveUp (i : StripId) (old : Option ChanId) : P (s.giveUp i old) := by
  unfold State.giveUp
  split
  · split
    · exact h
    · exact L.releaseConflict h _
  · exact h

theorem adoptPending (i : StripId) (x : Option ChanId) : P (s.adoptPending i x) :=
  L.giveUp (L.quiet (L.adopt h i x) (.stripEvent ..)) ..

theorem deferredAdoption (i : StripId) : P (s.deferredAdoption i) := by
  unfold State.deferredAdoption
  split
  · split
    · exact h
    · exact L.adoptPending h ..
  · exact h

theorem classify (n : LayerId) (i : StripId) : P (s.classify n i) := by
  unfold State.classify
  dsimp only
  split
  · exact h
  · split
    · exact L.label h i _ {}
    · exact L.label h i _ {}

theorem takeEntry (n : LayerId) (keeping : List StripId) (i : StripId) : P (s.takeEntry n keeping i) := by
  unfold State.takeEntry
  split
  · exact L.takeChannel h ..
  · split
    · exact L.blank h ..
    · exact L.takeChannel h ..

theorem chooseLayer (tag : BitVec 8) (n : LayerId) : P (s.chooseLayer tag n) := by
  have chosen : P { s with layers := { s.layers with active := n } } := L.quiet h (.of_eq rfl rfl rfl rfl)
  have classified := State.forStrips_induct (P := P) (f := fun i v => v.classify n i) (fun i _ ht => L.classify ht n i)
    allStrips chosen
  have taken := State.forStrips_induct (P := P) (f := State.takeEntry n (allStrips.filter s.keeps))
    (fun i _ ht => L.takeEntry ht n _ i) (allStrips.filter fun i => !s.keeps i) classified
  exact L.quiet (L.quiet taken (.createEvent ..)) (.writeResult ..)

theorem selectLayer (tag : BitVec 8) (arg : BitVec 16) : P (s.selectLayer tag arg) := by
  unfold State.selectLayer
  split
  · exact L.quiet h (.writeResult ..)
  · exact L.chooseLayer h ..

theorem loadLayerMap (tag : BitVec 8) (arg : BitVec 16) : P (s.loadLayerMap tag arg) := by
  have loaded : ∀ l, P { s with layers := l } := fun _ => L.quiet h (.of_eq rfl rfl rfl rfl)
  unfold State.loadLayerMap
  split
  · exact L.quiet h (.writeResult ..)
  · split
    · exact L.quiet h (.writeResult ..)
    · dsimp only
      split
      · exact L.chooseLayer (loaded _) ..
      · exact L.quiet (loaded _) (.writeResult ..)

theorem rejoin (i : StripId) : P (s.rejoin i) := by
  have joined := L.label h i (fun p => { p with isolated := false }) {}
  unfold State.rejoin
  dsimp only
  split
  · exact L.adopt joined ..
  · split
    · exact L.label joined i _ {}
    · exact L.giveUp (L.adopt joined ..) ..

theorem isolate (tag : BitVec 8) (arg : BitVec 16) : P (s.isolate tag arg) := by
  unfold State.isolate State.isolateOn State.isolateOff
  split
  · split
    · exact L.quiet h (.writeResult ..)
    · dsimp only
      split
      · exact L.quiet h (.writeResult ..)
      · exact L.quiet (L.label h _ _ {}) (.writeResult ..)
  · split
    · exact L.quiet h (.writeResult ..)
    · dsimp only
      split
      · exact L.quiet (L.rejoin h _) (.writeResult ..)
      · exact L.quiet h (.writeResult ..)

theorem convertIfChanged (i : StripId) (on : Bool) (old : Code) : P (s.convertIfChanged i on old) := by
  unfold State.convertIfChanged
  split
  · exact h
  · exact L.quiet h (.convertThreshold ..)

theorem writeSettings (i : StripId) (second : Bool) (w : Word) : P (s.writeSettings i second w) := by
  unfold State.writeSettings State.writeFlags State.writeCodes
  split
  · exact L.forceLine (L.label h i _ {}) i
  · exact L.forceLine (L.convertIfChanged (L.convertIfChanged (L.label h i _ {}) ..) ..) i

/-! ## Windows and fetches (R20, R23, R31, R41) -/

theorem examineStrip (old : Vector Window 16) (i : StripId) : P (s.examineStrip old i) := by
  unfold State.examineStrip
  split
  · exact h
  · split
    · split
      · exact L.requestFetch h _
      · exact h
    · exact L.unmapped h ..

theorem loadWindows (tag : BitVec 8) : P (s.loadWindows tag) := by
  unfold State.loadWindows
  split
  · exact L.quiet h (.writeResult ..)
  · have examined := State.forStrips_induct (P := P) (f := State.examineStrip s.windows.active)
      (fun i _ ht => L.examineStrip ht _ i) allStrips (L.quiet h (.applyWindows s s.windows.stagedSet))
    exact L.quiet examined (.writeResult ..)

theorem refetch (i : StripId) : P (s.refetch i) := by
  unfold State.refetch
  split
  · exact L.requestFetch h _
  · exact h

theorem fetchAnswered (data : Word) (st : RespStatus) : P (s.fetchAnswered data st) := by
  have dropped : P (s.modPort fun p => { p.dropMember with holder := .nobody }) := L.quiet h .of_eq
  unfold State.fetchAnswered
  split
  · dsimp only
    split
    · split
      · exact L.quiet dropped (.applyFetch ..)
      · exact dropped
    · exact L.fetchFailed dropped ..
  · exact h

/-! ## Samples, readback and timers beside the drive (R87, R103, R115, R116, R154) -/

theorem comeDue (i : StripId) : P (s.comeDue i) := by
  have started : P (s.startSamples i) := by
    unfold State.startSamples
    split
    · exact h
    · exact State.forStrips_induct (P := P) (fun j _ ht => L.label ht j _ {}) allStrips h
  have reached : ∀ n, P ((s.startSamples i).reach n) := fun n => L.quiet started .of_eq
  unfold State.comeDue
  exact L.label (reached _) i _ {}

theorem readback (i : StripId) (c : ChanId) : P (s.readback i c) := by
  unfold State.readback
  dsimp only
  split
  · exact L.quiet (L.label h i _ {}) (.writeBack ..)
  · split
    · next made => exact L.quiet h (.convert made)
    · exact h

theorem readbackExpires (i : StripId) : P (s.readbackExpires i) := by
  have again : ∀ n m, P ((s.reach n).modStrip i fun p => { p with readbackDue := some m }) := fun n m =>
    L.label (L.quiet h (.of_eq (t := s.reach n))) i _ {}
  unfold State.readbackExpires
  dsimp only
  split
  · exact h
  · split
    · split
      · exact L.readback (again _ _) ..
      · exact again _ _
    · exact again _ _

theorem startDebounce (i : StripId) (b : Bool) : P (s.startDebounce i b) := by
  unfold State.startDebounce
  exact L.label h i _ {}

theorem touchInput (i : StripId) (b : Bool) : P (s.touchInput i b) := by
  have followed := L.label h i (fun p => { p with rawTouch := b }) {}
  unfold State.touchInput State.rawChange
  dsimp only
  split
  · exact h
  · split
    · exact followed
    · split
      · exact L.label followed i _ {}
      · split
        · exact followed
        · exact L.startDebounce followed ..

theorem riseReset : P s.riseReset := by
  have pressed : ∀ i t, P t → P (State.pressAtRelease i t) := by
    intro i t ht
    unfold State.pressAtRelease
    split
    · exact L.startDebounce ht ..
    · exact ht
  unfold State.riseReset
  dsimp only
  refine State.forStrips_induct pressed allStrips (L.quiet h ?_)
  exact ⟨rfl, rfl, rfl, id, rfl, fun _ => .inl⟩

theorem turnSlices (n m : Nat) : P (State.forStrips { s.reach n with sliceDue := m } allStrips
    fun i u => u.modStrip i Strip.turnSlices) :=
  State.forStrips_induct (P := P) (fun i _ ht => L.label ht i Strip.turnSlices {}) allStrips (L.quiet h (.of_eq rfl rfl rfl rfl))

theorem deliverLevel (i : StripId) (c : ChanId) (travel : Nat) (code : Code) : P (s.deliverLevel i c travel code) := by
  unfold State.deliverLevel
  dsimp only
  split
  · have read := L.label h i (fun p => { p with opCode := some code, lastReadback := some travel }) {}
    split
    · exact L.quiet read (.writeBack ..)
    · exact read
  · exact h

end LayerLaw

namespace StripLaw

variable (L : StripLaw P T) (h : P s)
include L h

/-! ## Conversions and samples (R50 to R60, R88) -/

theorem deliver {table : Taper} (ok : T table) (w : ConvWork) : P (s.deliver table w) := by
  cases w with
  | levelToTravel c code seq =>
    simp only [State.deliver, State.deliverTravel]
    split
    · split
      · exact L.arrive h ok ..
      · exact h
    · exact h
  | travelToLevel i travel c => exact L.deliverLevel h ..
  | threshold i on code => exact L.threshold h ok ..

theorem finishConversion : P s.finishConversion := by
  unfold State.finishConversion
  split
  · next run q rest runs _ =>
    have vacated : P ((s.reach run.due).modTaper fun u => { u with running := none, queue := rest }) :=
      L.quiet (L.quiet h (.of_eq (t := s.reach run.due))) (.modTaper rfl (.inr rfl))
    have delivered := L.deliver vacated (L.table h runs) q.work
    exact L.quiet (L.quiet (L.quiet delivered (.startHead _)) (.serveSlots _)) (.taperCheck _)
  · exact h

theorem sample (i : StripId) : P (s.sample i) := by
  have raw : s.rawOf i ≤ 4095 := by
    unfold State.rawOf
    cases (s.strip i).reading with
    | none => exact Nat.zero_le _
    | some r => exact Nat.le_of_lt_succ r.isLt
  have worked := L.sampleWork (L.measure (L.comeDue h i) raw i) i (s.rawOf i)
  exact L.deferredAdoption (L.setLine worked ..) i

theorem debounced (i : StripId) (d : Debounce) : P (s.debounced i d) := by
  have reached : P (s.reach d.expiry) := L.quiet h .of_eq
  obtain ⟨pressed, expiry⟩ := d
  unfold State.debounced
  dsimp only
  cases pressed with
  | true => exact L.quiet (L.press reached i) (.stripEvent ..)
  | false => exact L.quiet (L.release reached i) (.stripEvent ..)

theorem endWake {g : GroupId} {n : Nat} (waking : s.rail g = .waking n) : P (s.endWake g n) := by
  unfold State.endWake
  exact State.forStrips_induct (P := P) (f := State.armOnWake) (fun i _ ht => L.armOnWake ht i) _ (L.wake h waking)

/-! ## Processor commands (R191 to R198) -/

/-- A work on each strip that a command names, then its answer (R193). -/
theorem forNamed {f : StripId → State → State} (hf : ∀ i t, P t → P (f i t)) {g : List StripId → State}
    (answers : ∀ l, (s.forStrips l f).Quiet (g l)) (tag : BitVec 8) (arg : BitVec 16) : P (s.forNamed tag arg g) := by
  unfold State.forNamed
  split
  · exact L.quiet h (.writeResult ..)
  · exact L.quiet (State.forStrips_induct hf _ h) (answers _)

theorem unlatch (tag : BitVec 8) (arg : BitVec 16) : P (s.unlatch tag arg) :=
  L.forNamed h (f := State.unlatchOf) (fun i _ ht => L.unlatchOf ht i) (fun _ => .writeResult ..) ..

theorem recalibrate (tag : BitVec 8) (arg : BitVec 16) : P (s.recalibrate tag arg) :=
  L.forNamed h (f := fun i u => u.setRecal i) (fun i _ ht => L.setRecal ht i) (fun _ => .writeResult ..) ..

theorem clearFault (tag : BitVec 8) (arg : BitVec 16) : P (s.clearFault tag arg) :=
  L.forNamed h (f := State.clearFaultOf) (fun i _ ht => L.clearFaultOf ht i) (fun _ => .writeResult ..) ..

theorem clearErrors (tag : BitVec 8) (arg : BitVec 16) : P (s.clearErrors tag arg) := by
  have zeroed : ∀ t : State, t.Quiet (t.modCtl fun c => { c with lostCount := 0, parityCount := 0 }) := fun _ => .modCtl
  refine L.forNamed h (f := fun i u => u.modStrip i Strip.clearErrors) (fun i _ ht => L.label ht i _ {}) (fun l => ?_) ..
  dsimp only
  split
  · exact .trans ((zeroed _).trans (.requestStatus ..)) (.writeResult ..)
  · exact .writeResult ..

theorem setMode (tag : BitVec 8) (arg : BitVec 16) : P (s.setMode tag arg) := by
  unfold State.setMode
  split
  · next mode _ _ =>
    have changed := fun l => State.forStrips_induct (P := P) (f := State.setModeOf mode)
      (fun i _ ht => L.setModeOf ht mode i) l h
    exact L.quiet (changed _) (.writeResult ..)
  · exact L.quiet h (.writeResult ..)

theorem loadTaper (tag : BitVec 8) : P (s.loadTaper tag) := by
  have begun : ∀ (t : State) b, t.Quiet (t.modCtl fun c => { c with busy := b }) := fun _ _ => .modCtl
  unfold State.loadTaper
  split
  · exact L.quiet h (.writeResult ..)
  · next sound =>
    have loaded := L.load h fun k => by simpa using List.find?_eq_none.mp sound k (List.mem_finRange k)
    have reseated := State.forStrips_induct (P := P) (f := State.reseat) (fun i _ ht => L.quiet ht (.reseat _ i)) allStrips
      loaded
    exact L.quiet reseated (begun _ _)

theorem surfaceReset (tag : BitVec 8) : P (s.surfaceReset tag) := by
  have emptied : P (s.resetChannels.resetTaper.modMeter MeterEngine.surfaceReset) :=
    L.quiet h (.trans (.trans (.resetChannels _) (.resetTaper _)) .of_eq)
  have fetched := State.forStrips_induct (P := P) (f := State.refetch) (fun i _ ht => L.refetch ht i) allStrips (L.park emptied)
  exact L.quiet fetched (.writeResult ..)

theorem runCommand (code tag : BitVec 8) (arg : BitVec 16) : P (s.runCommand code tag arg) := by
  unfold State.runCommand
  split
  · exact L.selectLayer h ..
  · exact L.setMode h ..
  · exact L.unlatch h ..
  · exact L.isolate h ..
  · exact L.recalibrate h ..
  · exact L.clearFault h ..
  · exact L.clearErrors h ..
  · exact L.loadWindows h _
  · exact L.loadLayerMap h ..
  · exact L.loadTaper h _
  · exact L.quiet h (.loadMeterSetup ..)
  · exact L.quiet h (.queryStrip ..)
  · exact L.quiet h (.startSync ..)
  · exact L.surfaceReset h _
  · exact L.quiet h (.writeResult ..)

theorem takeCommand (code tag : BitVec 8) (arg : BitVec 16) : P (s.takeCommand code tag arg) := by
  unfold State.takeCommand
  split
  · exact L.quiet h (.writeResult ..)
  · exact L.runCommand h ..

theorem controlWrite (o : Nat) (w : Word) : P (s.controlWrite o w) := by
  unfold State.controlWrite
  repeat' split
  · exact L.takeCommand h ..
  · exact L.quiet h (.ack ..)
  · exact L.quiet h .modCtl
  · exact L.quiet h (.setRingBase ..)
  · exact L.quiet h (.setRingCapacity ..)
  · exact L.quiet h (.setConsumer ..)
  · exact L.param h ..
  · exact L.writeSettings h ..
  · exact L.quiet h (.stage ..)

theorem presentBeat (data : Word) (e : Enables) : P (s.presentBeat data e) := by
  unfold State.presentBeat
  split
  · next q _ =>
    split
    · exact L.quiet h (.holdBeat ..)
    · have passed : P ((s.modPort fun p => p.passBeat q data e).dataBeat q.beatAddr data e) :=
        L.quiet h (.trans .of_eq (.dataBeat (s.modPort _) ..))
      unfold State.acceptBeat
      dsimp only
      split
      · split
        · exact L.controlWrite passed ..
        · exact passed
      all_goals exact passed
  · exact h

/-! ## Every command -/

theorem exec (c : Instr) (e : Machine.exec c s = .next t) : P t := by
  have running : ∀ {f : State → State}, live f s = .next t → P (f s) → P t := by
    intro f e hf
    cases e
    split
    · exact h
    · exact hf
  have quietly : ∀ {f : State → State}, live f s = .next t → s.Quiet (f s) → P t := fun e q => running e (L.quiet h q)
  have onlyIf : ∀ (b : Prop) [Decidable b] (v : State), P v → P (if b then v else s) := by
    intro b _ v hv
    split
    · exact hv
    · exact h
  cases c <;> simp only [Machine.exec] at e
  case powerOnReset => cases e; exact L.reset _
  case poresetRelease =>
    cases e
    split
    · exact L.riseReset h
    · exact h
  case surfaceTimeTick => exact quietly e (.trans (.of_eq (t := s.reach _)) .modCtl)
  case sensorReading i raw => exact running e (L.label h i _ {})
  case pportRequest kind addr len par => exact quietly e (.arriveRequest ..)
  case alertTimeout => exact quietly e (.endAlert _)
  case passingGrant => exact quietly e (.grantPassing _)
  case injectionIssue => exact quietly e (.issueHead _)
  case writeBeatAccept data en => exact running e (L.presentBeat h data en)
  case readBeatReturn data st => exact quietly e (.readReturns ..)
  case memoryWriteResponse st => exact quietly e (.writeAnswered ..)
  case positionResponse st => exact quietly e (.positionAnswered ..)
  case fetchResponse data st => exact running e (L.fetchAnswered h data st)
  case statusEventResponse st => exact quietly e (.statusAnswered _)
  case controlAreaWrite o data => exact running e (L.controlWrite h ..)
  case liveParameterWrite p data => exact running e (L.param h ..)
  case stripSettingsWrite i second data => exact running e (L.writeSettings h ..)
  case ackWrite data => exact quietly e (.ack ..)
  case quietWrite data => exact quietly e .modCtl
  case ringBaseWrite data => exact quietly e (.setRingBase ..)
  case ringCapacityWrite data => exact quietly e (.setRingCapacity ..)
  case consumerWrite data => exact quietly e (.setConsumer ..)
  case loadTaperComplete => exact quietly e (.taperCheck _)
  case syncComplete => exact quietly e (.syncCheck _)
  case conversionStart => exact quietly e (.startHead _)
  case levelToTravelComplete => exact running e (onlyIf _ _ (L.finishConversion h))
  case travelToLevelComplete => exact running e (onlyIf _ _ (L.finishConversion h))
  case thresholdComplete => exact running e (onlyIf _ _ (L.finishConversion h))
  case slotWaiterServe => exact quietly e (.trans (.serveSlots _) (.taperCheck _))
  case servoSample i => exact running e (onlyIf _ _ (L.sample h i))
  case settled i => exact running e (onlyIf _ _ (L.sample h i))
  case settleTimeout i => exact running e (onlyIf _ _ (L.sample h i))
  case calStopFound i => exact running e (onlyIf _ _ (L.sample h i))
  case calPhaseTimeout i => exact running e (onlyIf _ _ (L.sample h i))
  case touchInputChange i b => cases e; exact L.touchInput h i b
  case debounceExpiry i => exact running e (by split; exacts [L.debounced h .., h])
  case readbackExpiry i => exact running e (L.readbackExpires h i)
  case grant => exact running e (L.grant h)
  case railWakeEnd g => exact running e (by split; exacts [L.endWake h ‹_›, h, h])
  case railIdleOff g => exact running e (L.idleOff h g)
  case sliceTimerExpiry => exact running e (L.turnSlices h ..)
  case frameExpiry => exact quietly e (.frame _)
  case peakHoldEnd k => exact running e (onlyIf _ _ (L.quiet h (.frame _)))
  case overLatchEnd k => exact running e (onlyIf _ _ (L.quiet h (.frame _)))
  case staleEntry k => exact running e (onlyIf _ _ (L.quiet h (.frame _)))
  case droppedRequestBeat => exact quietly e .of_eq
  case meterShiftEnd => exact quietly e (.finishShift _)
  all_goals exact running e (L.takeCommand h ..)

/-- A step keeps the property. -/
theorem step (e : Machine.step s = .next t) : P t := by
  unfold Machine.step at e
  split at e
  · cases e
    exact L.quiet h (.of_eq rfl rfl rfl rfl)
  · next rest _ => exact L.exec (s := { s with pending := rest }) (L.quiet h (.of_eq rfl rfl rfl rfl)) _ e

end StripLaw
end Sys2Proof.Machine
end

section
namespace Sys2Proof.Machine

open Sys2Proof

/-! ## One strip's quantities (R63) -/

/-- From `p` to `p'` a strip is driven no further: each quantity stands, or is the rest value that stopping and following the hand give it (R64, R65,
R100). -/
structure Strip.Rests (p p' : Strip) : Prop where
  drive : p'.drive = p.drive ∨ p'.drive = 0 := by exact .inl rfl
  m : p'.m = p.m := by rfl
  r : p'.r = p.r ∨ p'.r = p.m := by exact .inl rfl
  target : p'.target = p.target ∨ p'.target = none := by exact .inl rfl
  v : p'.v = p.v ∨ p'.v = 0 := by exact .inl rfl
  onTravel : p'.onTravel = p.onTravel := by rfl
  offTravel : p'.offTravel = p.offTravel := by rfl

theorem Strip.inRange.rests {p p' : Strip} (h : p.inRange) (c : p.Rests p') : p'.inRange := by
  obtain ⟨drive, m, r, target, v, on, off⟩ := h
  refine ⟨?_, c.m ▸ m, ?_, fun t aims => ?_, ?_, c.onTravel ▸ on, c.offTravel ▸ off⟩
  · obtain same | zero := c.drive <;> simp [*]
  · obtain same | same := c.r <;> simp [*]
  · obtain same | none := c.target
    · exact target t (same ▸ aims)
    · simp [none] at aims
  · obtain same | zero := c.v <;> simp [*]

theorem Strip.enter_rests (p : Strip) (dest : Motion) (time : BitVec 16) : p.Rests (p.enter dest time) := by
  cases dest with
  | moving | calibrating => exact {}
  | queued => exact { drive := .inr rfl }
  | settling => exact { v := .inr rfl }
  | idle | touched | latched | stalled | parked => exact { drive := .inr rfl, v := .inr rfl }

theorem Strip.SameDrive.rests {p p' : Strip} (h : p.SameDrive p') : p.Rests p' :=
  ⟨.inl h.drive, h.m, .inl h.r, .inl h.target, .inl h.v, h.onTravel, h.offTravel⟩

/-- Another drive in range (R95). -/
theorem Strip.inRange.setDrive {p : Strip} (h : p.inRange) {d : Int} (range : d.natAbs ≤ 1023) : (p.setDrive d).inRange := by
  obtain ⟨-, rest⟩ := h
  exact ⟨range, rest⟩

/-! ## What the servo computes (R89 to R94) -/

theorem clampInt_mem {low high : Int} (le : low ≤ high) (x : Int) : low ≤ clampInt low high x ∧ clampInt low high x ≤ high := by
  unfold clampInt
  (repeat' split) <;> omega

theorem clampNat_mem {low high : Nat} (le : low ≤ high) (x : Nat) : low ≤ clampNat low high x ∧ clampNat low high x ≤ high := by
  unfold clampNat
  (repeat' split) <;> omega

theorem measured_le (cal : Option Calibration) {raw : Nat} (range : raw ≤ 4095) : measured cal raw ≤ 4095 := by
  cases cal with
  | none => exact range
  | some c =>
    have clamped := clampInt_mem (low := 0) (high := Config.travelTop) (by decide)
      (divNearest (((raw : Int) - c.low) * Config.travelTop) ((c.high : Int) - c.low))
    exact Int.toNat_le.mpr clamped.2

theorem driveLaw_le (kp kv : Nat) (e u : Int) : (driveLaw kp kv e u).natAbs ≤ 1023 := by
  have clamped := clampInt_mem (low := -Config.driveMax) (high := Config.driveMax) (by decide)
    (floorDiv ((kp : Int) * e + (kv : Int) * u + 32) 64)
  have top : Config.driveMax = 1023 := rfl
  rw [driveLaw]
  omega

/-- A step toward a point goes not beyond it (R91). -/
theorem toward_le {r t high : Nat} (near : r ≤ high) (far : t ≤ high) (step : Nat) : toward r t step ≤ high := by
  unfold toward
  split <;> omega

theorem levelToTravel_le {tp : Taper} (h : tp.wellFormed) (code : Code) : levelToTravel tp code ≤ 4095 := by
  obtain ⟨-, -, -, range, -⟩ := taperLawInterpolates tp h
  exact range code

/-- A staged table that passes is well formed (R42, R58). -/
theorem TaperUnit.stagedTable_wellFormed {u : TaperUnit} (sound : ∀ k, u.pointOffends k = false) : u.stagedTable.wellFormed := by
  have point : ∀ k : Fin 17, u.stagedTable[k.val] = u.stagedPoint k := fun k => Vector.getElem_map ..
  have keeps : ∀ k, ¬ u.breaksRules k := fun k breaks => by
    rw [← TaperUnit.pointOffends_iff, sound k] at breaks
    cases breaks
  simp only [TaperUnit.breaksRules, not_or, not_and, not_exists, not_not, not_lt, not_le] at keeps
  have first := keeps 0
  have last := keeps 16
  refine ⟨(congrArg _ (point 0)).trans (first.2.2.2.1 rfl), (congrArg _ (point 16)).trans (last.2.2.2.2.1 rfl), ?_, ?_, fun i => ?_⟩
  · exact (congrArg Breakpoint.level (point 0)) ▸ first.2.1
  · exact (congrArg Breakpoint.level (point 16)) ▸ last.2.2.1
  · have rises := (keeps i.succ).2.2.2.2.2 i.castSucc rfl
    rw [← point, ← point] at rises
    exact rises

/-! ## The whole part's quantities -/

/-- The law of O55, by its parts. -/
structure State.InRange (s : State) : Prop where
  params : s.paramsInRange
  ring : s.ctl.ringSafe
  tapers : s.tapersWellFormed
  strips : s.stripsInRange

namespace State.InRange

variable {s t : State}

theorem param_le (h : s.InRange) (p : Param) : s.param p ≤ p.spec.high := by
  have range := (h.params p.index).2
  rw [Param.ofIndex_index] at range
  exact range

/-- What leaves the control unit and the taper unit alone keeps the law while the strips stay in range. -/
theorem congr (h : s.InRange) (strips : ∀ j, (t.strip j).inRange) (ctl : t.ctl = s.ctl := by simp)
    (taper : t.taper = s.taper := by simp) : t.InRange where
  params := by rw [State.paramsInRange, ctl]; exact h.params
  ring := by rw [ctl]; exact h.ring
  tapers := by rw [State.tapersWellFormed, taper]; exact h.tapers
  strips := strips

theorem quiet (h : s.InRange) (q : s.Quiet t) : t.InRange where
  params := by rw [State.paramsInRange, q.params]; exact h.params
  ring := q.ring h.ring
  tapers := by
    obtain ⟨active, running⟩ := h.tapers
    refine ⟨q.active ▸ active, fun run runs => ?_⟩
    obtain was | table := q.running run runs
    · exact running run was
    · exact table ▸ active
  strips i := by rw [State.strip_congr q.strips]; exact h.strips i

variable (h : s.InRange)
include h

theorem modStrip (i : StripId) {f : Strip → Strip} (range : (f (s.strip i)).inRange) : (s.modStrip i f).InRange := by
  refine h.congr fun j => ?_
  rw [State.strip_modStrip]
  split
  · exact range
  · exact h.strips j

theorem rests (i : StripId) {f : Strip → Strip} (c : (s.strip i).Rests (f (s.strip i))) : (s.modStrip i f).InRange :=
  h.modStrip i ((h.strips i).rests c)

theorem modDrive (f : DriveSup → DriveSup) : (s.modDrive f).InRange := h.congr h.strips rfl rfl

theorem reach (n : Nat) : (s.reach n).InRange := h.congr h.strips rfl rfl

theorem setRail (g : GroupId) (r : Rail) : (s.setRail g r).InRange := h.congr h.strips rfl rfl

/-! ## The start queue and motion states (R64, R65, R73 to R78, R157) -/

theorem enter (i : StripId) (dest : Motion) : (s.enter i dest).InRange := by
  refine h.congr fun j => ?_
  by_cases own : j = i
  · subst own
    rw [State.enter_strip_self]
    exact (h.strips j).rests (Strip.enter_rests ..)
  · rw [State.enter_strip_ne s own]
    exact h.strips j

theorem joinStart (i : StripId) (u : Purpose) : (s.joinStart i u).InRange :=
  (h.enter i .queued).congr (fun j => by
    by_cases own : j = i
    · subst own
      rw [State.joinStart_strip_self, ← State.enter_strip_self]
      exact (h.enter j .queued).strips j
    · rw [State.joinStart_strip_ne s own]
      exact h.strips j)

theorem recalAtRest (i : StripId) : (s.recalAtRest i).InRange := by
  unfold State.recalAtRest
  dsimp only
  split
  · exact h.joinStart ..
  · exact h

theorem rest (i : StripId) : (s.rest i).InRange := (h.enter ..).recalAtRest i

theorem actOnRecal (i : StripId) : (s.actOnRecal i).InRange := by
  unfold State.actOnRecal
  dsimp only
  split
  · split
    · exact h.modDrive _
    · exact h
  · exact h.recalAtRest i

theorem setRecal (i : StripId) : (s.setRecal i).InRange := (h.rests i {}).actOnRecal i

theorem queueMove (i : StripId) : (s.queueMove i).InRange := h.joinStart ..

theorem hold (i : StripId) : (s.hold i).InRange := by
  have cleared := h.rests i (f := fun q => { q with target := none }) { target := .inr rfl }
  unfold State.hold
  dsimp only
  split
  · split
    · exact cleared.rest i
    · exact cleared
  · exact cleared.enter ..
  all_goals exact cleared

omit h in
theorem layerLaw : LayerLaw State.InRange where
  quiet := quiet
  label h i _ same := h.rests i same.rests
  hold := hold

theorem arrive {tp : Taper} (ok : tp.wellFormed) (i : StripId) (code : Code) (c : ChanId) :
    (s.arrive i code (levelToTravel tp code) c).InRange := by
  have aimed : (s.modStrip i fun q => { q with target := some ⟨code, levelToTravel tp code, c⟩ }).InRange := by
    obtain ⟨drive, m, r, -, rest⟩ := h.strips i
    refine h.modStrip i ⟨drive, m, r, fun t aims => ?_, rest⟩
    cases aims
    exact levelToTravel_le ok code
  unfold State.arrive
  dsimp only
  split
  · split
    · exact aimed.queueMove i
    · exact aimed
  · split
    · exact aimed.rest i
    · exact aimed
  · unfold State.retarget
    dsimp only
    split
    · exact aimed.enter ..
    · split
      · exact aimed
      · exact aimed.rests i { v := .inr rfl }
  · split
    · exact aimed
    · exact (aimed.enter ..).rests i { v := .inr rfl }
  all_goals exact aimed

theorem deliverThreshold {tp : Taper} (ok : tp.wellFormed) (i : StripId) (on : Bool) (code : Code) :
    (s.deliverThreshold i on (levelToTravel tp code)).InRange := by
  obtain ⟨drive, m, r, target, v, onTravel, offTravel⟩ := h.strips i
  refine layerLaw.forceLine (h.modStrip i ?_) i
  cases on with
  | true => exact ⟨drive, m, r, target, v, levelToTravel_le ok code, offTravel⟩
  | false => exact ⟨drive, m, r, target, v, onTravel, levelToTravel_le ok code⟩

/-! ## Samples (R88 to R98, R155, R158 to R163) -/

theorem measure {raw : Nat} (range : raw ≤ 4095) (i : StripId) : (s.measure i raw).InRange := by
  obtain ⟨drive, -, rest⟩ := h.strips i
  exact h.modStrip i ⟨drive, measured_le _ range, rest⟩

theorem countError (i : StripId) : (s.countError i).InRange := by
  have counted := h.rests i (f := Strip.countError) {}
  unfold State.countError
  dsimp only
  split
  · exact counted.setRecal i
  · exact counted

theorem trackTest (i : StripId) : (s.trackTest i).InRange := by
  unfold State.trackTest
  dsimp only
  split
  · exact (h.rests i (f := fun q => { q with moveMarked := true }) {}).countError i
  · exact h

theorem setDrive (i : StripId) {d : Int} (range : d.natAbs ≤ 1023) : (s.modStrip i fun p => p.setDrive d).InRange :=
  h.modStrip i ((h.strips i).setDrive range)

theorem driveWith (i : StripId) (u : Int) : (s.driveWith i u).InRange :=
  h.modStrip i ((h.strips i).setDrive (driveLaw_le ..))

theorem speedLimit_le (k : SpeedClass) : s.speedLimit k ≤ 255 := by
  cases k with
  | normal => exact h.param_le .vmax
  | ret => exact h.param_le .vret

theorem profileStep (i : StripId) : (s.profileStep i).InRange := by
  obtain ⟨drive, m, r, target, -, rest⟩ := h.strips i
  have goal : ((s.strip i).target.map Target.travel).getD (s.strip i).r ≤ 4095 := by
    cases aims : (s.strip i).target with
    | none => exact r
    | some t => exact target t aims
  have speed : ∀ a v d, profileSpeed a (s.speedLimit (s.strip i).speed) v d ≤ 255 := fun _ _ _ =>
    (min_le_left _ _).trans ((min_le_right _ _).trans (h.speedLimit_le _))
  have stepped : ∀ step a v d, (s.modStrip i fun q => { q with
      r := toward (s.strip i).r (((s.strip i).target.map Target.travel).getD (s.strip i).r) step
      v := profileSpeed a (s.speedLimit (s.strip i).speed) v d }).InRange := fun step a v d =>
    h.modStrip i ⟨drive, m, toward_le r goal step, target, speed a v d, rest⟩
  unfold State.profileStep
  dsimp only
  split
  · exact h.enter ..
  · split
    · exact (stepped ..).enter ..
    · exact stepped ..

theorem moveSample (i : StripId) : (s.moveSample i).InRange := ((h.profileStep i).driveWith i _).trackTest i

theorem settleDrive (i : StripId) : (s.settleDrive i).InRange := by
  unfold State.settleDrive
  split
  · exact h.rests i { drive := .inr rfl }
  · exact (h.rests i (f := fun p => { p with settled := 0 }) {}).driveWith i 0

theorem stall (i : StripId) : (s.stall i).InRange :=
  (((h.enter i .stalled).countError i).quiet (.stripEvent ..)).quiet (.setFault _)

theorem settleSample (i : StripId) : (s.settleSample i).InRange := by
  have tracked := (h.settleDrive i).trackTest i
  unfold State.settleSample
  dsimp only
  split
  · exact tracked.rest i
  · split
    · exact tracked.stall i
    · exact tracked

theorem calDrive_le : (s.param .calDrive : Int).natAbs ≤ 1023 := h.param_le .calDrive

theorem beginRun (i : StripId) : (s.beginRun i).InRange :=
  h.modStrip i (((h.strips i).rests {}).setDrive (by simpa using h.calDrive_le))

theorem runGoesOn (i : StripId) (c : CalRun) : (s.runGoesOn i c).InRange := by
  refine h.modStrip i (((h.strips i).rests {}).setDrive ?_)
  cases c.phase with
  | lowSeek => simpa [CalPhase.drive] using h.calDrive_le
  | highSeek low => simpa [CalPhase.drive] using h.calDrive_le

theorem runSucceeds (i : StripId) (low high : Nat) : (s.runSucceeds i low high).InRange := by
  have recorded := h.rests i (f := fun p => { p with
    calibration := some ⟨low, high⟩, slices := [0, 0, 0, 0, 0, 0, 0, 0], attempts := 0, recalPending := false }) {}
  have told := recorded.quiet (.stripEvent _ .calDone i (field16 (high - low)))
  have stopped := told.rests i (f := fun p => { p with r := p.m, v := 0, moveMarked := false }.setDrive 0)
    { drive := .inr rfl, r := .inr rfl, v := .inr rfl }
  unfold State.runSucceeds
  exact stopped.enter ..

theorem runFails (i : StripId) : (s.runFails i).InRange := by
  have counted := fun n => h.rests i (f := fun p => { p with attempts := n }) {}
  unfold State.runFails
  dsimp only
  split
  · exact (counted _).beginRun i
  · exact ((((counted _).enter i .stalled).rests i (f := fun p => { p with recalPending := false }) {}).quiet
      (.stripEvent ..)).quiet (.setFault _)

theorem calSample (i : StripId) (raw : Nat) : (s.calSample i raw).InRange := by
  unfold State.calSample State.phaseEnds
  split
  · exact h
  · split
    · split
      · exact h.runGoesOn ..
      · split
        · exact h.runSucceeds ..
        · exact h.runFails i
    · split
      · exact h.runFails i
      · exact h.runGoesOn ..

theorem sampleWork (i : StripId) (raw : Nat) : (s.sampleWork i raw).InRange := by
  unfold State.sampleWork
  split
  · exact h.moveSample i
  · exact h.settleSample i
  · exact h.calSample i raw
  all_goals exact h

/-! ## Touch and release (R100, R107 to R114) -/

theorem takeTouch (i : StripId) : (s.takeTouch i).InRange := by
  have stopped := h.rests i (f := fun p =>
    { p with r := p.m, v := 0, latch := p.latch || p.mode == Mode.latch }.setDrive 0)
    { drive := .inr rfl, r := .inr rfl, v := .inr rfl }
  unfold State.takeTouch
  dsimp only
  split
  · exact stopped
  · exact stopped
  all_goals exact stopped.enter ..

theorem releaseRestore (i : StripId) : (s.releaseRestore i).InRange := by
  unfold State.releaseRestore
  split
  · split
    · exact h.quiet (.writeBack ..)
    · exact h
  · exact h

theorem returnToChannel (i : StripId) : (s.returnToChannel i).InRange := by
  have speeds : ∀ k, (s.setSpeed i k).InRange := fun _ => h.rests i {}
  unfold State.returnToChannel
  split
  · exact speeds _
  · split
    · split
      · exact speeds _
      · exact (speeds _).queueMove i
    · exact (speeds _).quiet (.convertChannel ..)

theorem stalledRelease (i : StripId) : (s.stalledRelease i).InRange := by
  have restored := h.releaseRestore i
  unfold State.stalledRelease
  dsimp only
  split
  · split
    · split
      · exact restored
      · exact restored.quiet (.convertChannel ..)
    · exact restored
  · exact h

theorem ordinaryRelease (i : StripId) : (s.ordinaryRelease i).InRange := by
  have idle := h.enter i .idle
  unfold State.ordinaryRelease
  dsimp only
  split
  · exact h.stalledRelease i
  · split
    · exact h
    · exact idle
    · exact idle.returnToChannel i
    · exact (idle.releaseRestore i).returnToChannel i
    · split
      · exact h.enter ..
      · exact (idle.releaseRestore i).returnToChannel i

theorem adoptedRelease (i : StripId) : (s.adoptedRelease i).InRange := by
  unfold State.adoptedRelease
  dsimp only
  split
  · exact h.rests i {}
  · split
    · exact h.enter ..
    · exact (h.enter ..).rests i {}

theorem takeRelease (i : StripId) : (s.takeRelease i).InRange := by
  have recal : ∀ {t : State}, t.InRange → (t.releaseRecal i).InRange := by
    intro t ht
    unfold State.releaseRecal
    split
    · exact ht.actOnRecal i
    · exact ht
  unfold State.takeRelease
  dsimp only
  split
  · split
    · exact recal (h.ordinaryRelease i)
    · exact recal ((layerLaw.adoptPending h i _).adoptedRelease i)
  · exact recal (h.ordinaryRelease i)

/-! ## Modes, UNLATCH, CLEAR_FAULT and SURFACE_RESET (R80 to R86, R166) -/

theorem convertShown (i : StripId) (o : Bool) : (s.convertShown i o).InRange := h.quiet (.convertShown ..)

theorem enterAtHand (i : StripId) : (s.enterAtHand i).InRange := by
  unfold State.enterAtHand
  split <;> exact h.enter ..

theorem toWrite (i : StripId) : (s.toWrite i).InRange := by
  unfold State.toWrite
  split
  case h_6 => exact h.enterAtHand i
  case h_7 | h_8 | h_9 => exact h
  all_goals exact h.enter ..

theorem toMotorised (i : StripId) : (s.toMotorised i).InRange := by
  have atHand := (h.enterAtHand i).rests i (f := fun p => { p with speed := .normal }) {}
  unfold State.toMotorised
  dsimp only
  split
  · exact (atHand.recalAtRest i).convertShown ..
  · exact ((atHand.rests i (f := fun p => { p with recalPending := true }) {}).recalAtRest i).convertShown ..

theorem leaveLatched (i : StripId) : (s.leaveLatched i).InRange :=
  (((h.rests i (f := fun p => { p with latch := false }) {}).rests i (f := fun p => { p with speed := .ret }) {}).rest
    i).convertShown ..

theorem setModeOf (mode : Mode) (i : StripId) : (s.setModeOf mode i).InRange := by
  have taken := h.rests i (f := fun p => p.takeMode mode) {}
  have motorised : ∀ was : Strip, State.InRange
      (if was.mode.motorised then (s.modStrip i fun p => p.takeMode mode).betweenMotorised i was
        else (s.modStrip i fun p => p.takeMode mode).toMotorised i) := by
    intro was
    unfold State.betweenMotorised
    split
    · split
      · exact taken.leaveLatched i
      · exact taken
    · exact taken.toMotorised i
  unfold State.setModeOf
  dsimp only
  split
  · exact h
  · refine layerLaw.forceLine ?_ i
    split
    · exact taken
    · cases mode with
      | parked => exact taken.enter ..
      | write => exact taken.toWrite i
      | read | touch | latch => exact motorised _

theorem unlatchOf (i : StripId) : (s.unlatchOf i).InRange := by
  unfold State.unlatchOf
  split
  · exact h.leaveLatched i
  · exact h.rests i {}

theorem clearFaultOf (i : StripId) : (s.clearFaultOf i).InRange := by
  have cleared := h.rests i (f := fun p => { p with attempts := 0 }) {}
  unfold State.clearFaultOf
  split
  · exact h
  · extract_lets t p u w q
    have left : u.InRange := by
      simp only [u]
      split
      · exact cleared.enter ..
      · split
        · exact (cleared.enter ..).takeTouch i
        · exact cleared.enter ..
    have judged : w.InRange := by
      simp only [w]
      split
      · exact left
      · exact left.rests i {}
    split
    · split
      · exact judged.joinStart ..
      · split
        · split
          · exact judged
          · exact judged.joinStart ..
        · exact judged
    · exact judged

theorem parkStrip (i : StripId) : (s.parkStrip i).InRange :=
  layerLaw.forceLine ((h.enter i .parked).rests i (f := Strip.surfaceReset)
    { r := .inr rfl, v := .inr rfl, target := .inr rfl }) i

/-! ## The drive supervisor (R140 to R142, R149) -/

theorem armOnWake (i : StripId) : (s.armOnWake i).InRange := by
  unfold State.armOnWake
  dsimp only
  split
  · exact h.setRecal i
  · split
    · exact h.actOnRecal i
    · exact h

theorem grantOldest : s.grantOldest.InRange := by
  unfold State.grantOldest
  split
  · exact h
  · next n _ =>
    split
    · next e _ =>
      have granted := fun f => (h.reach (n * Config.us)).modDrive f
      unfold State.grantEntry
      dsimp only
      split
      · exact ((granted _).enter ..).rests _ { r := .inr rfl, v := .inr rfl }
      · exact ((granted _).enter ..).beginRun _
    · exact h

theorem idleOff (g : GroupId) : (s.idleOff g).InRange := by
  unfold State.idleOff
  split
  · split
    · exact h
    · exact (h.reach _).setRail ..
  all_goals exact h

/-! ## Words, tables and reset (R3, R58, R189) -/

theorem writeParam (p : Param) (w : Word) : (s.writeParam p w).InRange := by
  refine ⟨fun k => ?_, h.ring, h.tapers, h.strips⟩
  have range : p.spec.low ≤ p.spec.high := by cases p <;> decide
  have set : (s.writeParam p w).ctl.params[k.val] = if p.index.val = k.val then clampNat p.spec.low p.spec.high w.toNat
      else s.ctl.params[k.val] := Vector.getElem_set p.index.isLt k.isLt
  rw [set]
  split
  · next same =>
    rw [← Fin.ext same, Param.ofIndex_index]
    exact clampNat_mem range _
  · exact h.params k

theorem load (sound : ∀ k, s.taper.pointOffends k = false) :
    (s.modTaper fun u => { u with active := u.stagedTable }).InRange :=
  ⟨h.params, h.ring, ⟨TaperUnit.stagedTable_wellFormed sound, h.tapers.2⟩, h.strips⟩

omit h in
theorem fallReset (s : State) : s.fallReset.InRange where
  params := State.reset_paramsInRange
  ring := .inl ⟨rfl, rfl, rfl⟩
  tapers := ⟨Taper.powerOn_rises, nofun⟩
  strips i := by
    have record : s.fallReset.strip i = { Strip.powerOn with rawTouch := (s.strip i).rawTouch } := Vector.getElem_map ..
    rw [record]
    exact Strip.powerOn_inRange.rests {}

omit h in
/-- Every work on motion, drive, parameters and tables keeps the quantities in range. -/
theorem stripLaw : StripLaw State.InRange Taper.wellFormed where
  toLayerLaw := layerLaw
  reset := fallReset
  param := writeParam
  load := load
  table h runs := h.tapers.2 _ runs
  arrive h ok i code c := h.arrive ok i code c
  threshold h ok i on code := h.deliverThreshold ok i on code
  measure h range i := h.measure range i
  sampleWork := sampleWork
  setRecal := setRecal
  armOnWake := armOnWake
  press h i := (h.rests i {}).takeTouch i
  release h i := (h.rests i {}).takeRelease i
  setModeOf := setModeOf
  unlatchOf := unlatchOf
  clearFaultOf := clearFaultOf
  park h := (State.forStrips_induct (f := State.parkStrip) (fun i _ ht => ht.parkStrip i) allStrips h).modDrive _
  grant := grantOldest
  wake h _ := (h.reach _).setRail ..
  idleOff := idleOff

end State.InRange

/-- Settles O55: the law is one that every work on motion, drive, parameters and tables keeps. -/
theorem quantitiesStayInRange : Obligations.QuantitiesStayInRange := by
  rintro s t ⟨params, ring, tapers, strips⟩ taken
  obtain ⟨params, ring, tapers, strips⟩ := State.InRange.stripLaw.step ⟨params, ring, tapers, strips⟩ taken
  exact ⟨params, ring, tapers, strips⟩

end Sys2Proof.Machine
end

section
namespace Sys2Proof.Machine

open Sys2Proof

/-! ## The start queue and the rails match the motion states (R138, R139, R142, R144) -/

@[simp] theorem Strip.enter_motion (p : Strip) (dest : Motion) (time : BitVec 16) : (p.enter dest time).motion = dest := by
  cases dest <;> rfl

@[simp] theorem Strip.enter_calibration (p : Strip) (dest : Motion) (time : BitVec 16) :
    (p.enter dest time).calibration = p.calibration := by
  cases dest <;> rfl

@[simp] theorem Strip.enter_mode (p : Strip) (dest : Motion) (time : BitVec 16) : (p.enter dest time).mode = p.mode := by
  cases dest <;> rfl

@[simp] theorem Strip.enter_touched (p : Strip) (dest : Motion) (time : BitVec 16) : (p.enter dest time).touched = p.touched := by
  cases dest <;> rfl

section rails

variable {s t : State} {i : StripId}

theorem State.groupActive_iff {g : GroupId} :
    s.groupActive g = true ↔ ∃ i, groupOf i = g ∧ (s.strip i).motion.active = true := by
  simp [State.groupActive, allStrips]

theorem State.groupActive_congr {g : GroupId} (same : ∀ i, groupOf i = g → (t.strip i).motion = (s.strip i).motion) :
    t.groupActive g = s.groupActive g := by
  rw [Bool.eq_iff_iff, State.groupActive_iff, State.groupActive_iff]
  refine exists_congr fun i => and_congr_right fun own => ?_
  rw [same i own]

theorem State.railOn_iff {g : GroupId} : s.railOn g = true ↔ ∃ idle, s.rail g = .on idle := by
  unfold State.railOn
  split <;> simp_all

/-- A rail that follows its group's activity stays OFF, WAKING or ON, and idles only when the group is inactive (R142). -/
theorem State.noteActivity_follows (g : GroupId) (before : Bool) (h : GroupId) :
    (h ≠ g → (s.noteActivity g before).rail h = s.rail h) ∧
    ((s.noteActivity g before).rail h = .off ↔ s.rail h = .off) ∧
    (s.noteActivity g before).railOn h = s.railOn h ∧
    (∀ idle, (s.noteActivity g before).rail g = .on idle → (∃ was, s.rail g = .on was ∧ (was = none ↔ before = true)) →
      (idle = none ↔ s.groupActive g = true)) := by
  unfold State.noteActivity
  split
  · next was on =>
    have set : ∀ r : Rail, (∃ idle, r = .on idle) → (h ≠ g → (s.setRail g r).rail h = s.rail h) ∧
        ((s.setRail g r).rail h = .off ↔ s.rail h = .off) ∧ (s.setRail g r).railOn h = s.railOn h := by
      rintro _ ⟨idle, rfl⟩
      by_cases own : h = g
      · subst own
        simp [State.railOn, on]
      · simp [State.railOn, own]
    split
    · next active =>
      obtain ⟨other, off, ons⟩ := set _ ⟨none, rfl⟩
      exact ⟨other, off, ons, by simp [active]⟩
    · split
      · next rested _ =>
        obtain ⟨other, off, ons⟩ := set _ ⟨some s.clock, rfl⟩
        exact ⟨other, off, ons, by simp [rested]⟩
      · next inactive rested =>
        obtain ⟨other, off, ons⟩ := set _ ⟨was, rfl⟩
        exact ⟨other, off, ons, by simp [on, inactive, rested]⟩
  all_goals
    next rail => exact ⟨fun _ => rfl, .rfl, rfl, by simp [rail]⟩

end rails

/-- The start queue and the rails match the strips' motion states. -/
structure State.Supervised (s : State) : Prop where
  starts : s.startsMatch
  rails : s.railsMatch

namespace State.Supervised

variable {s t : State} {i : StripId}

/-- Supervision speaks of motion states, valid calibration, the start queue and the rails. -/
theorem congr (h : s.Supervised) (motion : ∀ j, (t.strip j).motion = (s.strip j).motion)
    (calibrated : ∀ j, (s.strip j).calibration.isSome = true → (t.strip j).calibration.isSome = true)
    (queue : t.drive.queue = s.drive.queue) (rails : t.drive.rails = s.drive.rails) : t.Supervised := by
  obtain ⟨⟨nodup, queued, moves⟩, on, woken, idle⟩ := h
  have rail : ∀ g, t.rail g = s.rail g := fun g => by simp [State.rail, rails]
  refine ⟨⟨?_, ?_, ?_⟩, ?_, ?_, ?_⟩
  · rw [queue]
    exact nodup
  · intro j
    rw [queue, motion]
    exact queued j
  · intro e mem move
    rw [queue] at mem
    exact calibrated _ (moves e mem move)
  · intro j driven
    rw [motion] at driven
    simpa [State.railOn, rail] using on j driven
  · intro j waits
    rw [motion] at waits
    rw [rail]
    exact woken j waits
  · intro g from_ at_
    rw [rail] at at_
    rw [State.groupActive_congr fun j _ => motion j]
    exact idle g from_ at_

theorem modStrip (h : s.Supervised) {f : Strip → Strip} (motion : (f (s.strip i)).motion = (s.strip i).motion)
    (calibrated : (s.strip i).calibration.isSome = true → (f (s.strip i)).calibration.isSome = true) :
    (s.modStrip i f).Supervised := by
  refine h.congr (fun j => ?_) (fun j => ?_) rfl rfl
  · rw [State.strip_modStrip]
    split
    · next own => rw [own, motion]
    · rfl
  · rw [State.strip_modStrip]
    split
    · next own =>
      subst own
      exact calibrated
    · exact id

/-- A driven strip's rail is ON (R64). -/
theorem railOn (h : s.Supervised) (driven : (s.strip i).motion.driven = true) : s.railOn (groupOf i) = true :=
  h.rails.1 i driven

/-- The strip of an entry is QUEUED (R144). -/
theorem queued_of_mem (h : s.Supervised) {e : StartEntry} (mem : e ∈ s.drive.queue) : (s.strip e.strip).motion = .queued :=
  (h.starts.2.1 e.strip).mpr (List.mem_map_of_mem mem)

theorem enter_motion (s : State) (i : StripId) (dest : Motion) (j : StripId) :
    ((s.enter i dest).strip j).motion = if j = i then dest else (s.strip j).motion := by
  split
  · next own => rw [own, State.enter_strip_self, Strip.enter_motion]
  · next own => rw [State.enter_strip_ne s own]

/-- A strip that enters a state other than QUEUED stands in the start queue no more (R65, R144). -/
theorem enter_starts (h : s.startsMatch) {dest : Motion} (other : dest ≠ .queued) : (s.enter i dest).startsMatch := by
  obtain ⟨nodup, queued, moves⟩ := h
  have queue := s.enter_drive_queue i dest
  refine ⟨?_, fun j => ?_, fun e mem move => ?_⟩
  · rw [queue]
    split
    · exact nodup.sublist (List.filter_sublist.map _)
    · exact nodup
  · rw [enter_motion, queue]
    by_cases own : j = i
    · subst own
      simp only [if_true, other, ne_eq, not_false_eq_true, and_true, false_iff]
      split
      · simp
      · next was => exact mt (queued j).mpr was
    · rw [if_neg own, queued]
      split
      · simp only [List.mem_map, List.mem_filter, bne_iff_ne]
        refine exists_congr fun e => ⟨fun ⟨mem, named⟩ => ⟨⟨mem, named ▸ own⟩, named⟩, fun ⟨⟨mem, _⟩, named⟩ => ⟨mem, named⟩⟩
      · rfl
  · have calibration : ((s.enter i dest).strip e.strip).calibration = (s.strip e.strip).calibration := by
      by_cases own : e.strip = i
      · rw [own, State.enter_strip_self, Strip.enter_calibration]
      · rw [State.enter_strip_ne s own]
    rw [calibration]
    refine moves e ?_ move
    rw [queue] at mem
    split at mem
    · exact List.mem_of_mem_filter mem
    · exact mem

/-- A strip that enters a driven state on an ON rail, or a state of rest, leaves the rails in order (R64, R142). -/
theorem enter_rails (h : s.railsMatch) {dest : Motion} (other : dest ≠ .queued)
    (on : dest.driven = true → s.railOn (groupOf i) = true) : (s.enter i dest).railsMatch := by
  obtain ⟨driven, woken, idle⟩ := h
  -- `v` is the state before its group's activity is followed: motion states as at the end, rails as at the start.
  obtain ⟨v, follows, strips, drive⟩ : ∃ v : State, s.enter i dest = v.noteActivity (groupOf i) (s.groupActive (groupOf i)) ∧
      v.strips = (s.enter i dest).strips ∧ v.drive.rails = s.drive.rails := by
    refine ⟨_, rfl, (State.noteActivity_strips ..).symm, ?_⟩
    split <;> rfl
  have before : ∀ g, v.rail g = s.rail g := fun g => by simp [State.rail, drive]
  have active : ∀ g, v.groupActive g = (s.enter i dest).groupActive g := fun g =>
    State.groupActive_congr fun j _ => by rw [State.strip_congr strips]
  have rail := fun g => State.noteActivity_follows (s := v) (groupOf i) (s.groupActive (groupOf i)) g
  simp only [← follows, before, active] at rail
  refine ⟨fun j drives => ?_, fun j waits => ?_, fun g since at_ => ?_⟩
  · obtain ⟨-, -, same, -⟩ := rail (groupOf j)
    have kept : v.railOn (groupOf j) = s.railOn (groupOf j) := by simp [State.railOn, before]
    rw [same, kept]
    rw [enter_motion] at drives
    split at drives
    · next own => exact own ▸ on drives
    · exact driven j drives
  · obtain ⟨-, off, -⟩ := rail (groupOf j)
    rw [enter_motion] at waits
    split at waits
    · exact absurd waits other
    · exact mt off.mp (woken j waits)
  · by_cases own : g = groupOf i
    · subst own
      obtain ⟨-, -, same, idles⟩ := rail (groupOf i)
      refine idles since at_ ?_
      obtain ⟨was, on⟩ := State.railOn_iff.mp (same ▸ State.railOn_iff.mpr ⟨_, at_⟩ : v.railOn (groupOf i) = true)
      rw [before] at on
      exact ⟨was, on, idle _ _ on⟩
    · obtain ⟨other, -⟩ := rail g
      rw [other own] at at_
      rw [idle g since at_, State.groupActive_congr fun j at_ => ?_]
      rw [enter_motion, if_neg fun same => own (at_.symm.trans (congrArg groupOf same))]

theorem enter (h : s.Supervised) {dest : Motion} (other : dest ≠ .queued)
    (on : dest.driven = true → s.railOn (groupOf i) = true) : (s.enter i dest).Supervised :=
  ⟨enter_starts h.starts other, enter_rails h.rails other on⟩

theorem joinStart_motion (s : State) (i : StripId) (u : Purpose) (j : StripId) :
    ((s.joinStart i u).strip j).motion = if j = i then .queued else (s.strip j).motion := by
  split
  · next own => rw [own, State.joinStart_strip_self, Strip.enter_motion]
  · next own => rw [State.joinStart_strip_ne s own]

/-- A strip that is queued has its one entry at the tail (R144). -/
theorem joinStart_starts (h : s.startsMatch) (other : (s.strip i).motion ≠ .queued) {u : Purpose}
    (move : u = .move → (s.strip i).calibration.isSome = true) : (s.joinStart i u).startsMatch := by
  obtain ⟨nodup, queued, moves⟩ := h
  have absent := mt (queued i).mpr other
  have queue := s.joinStart_drive_queue i u
  have calibration : ∀ j, ((s.joinStart i u).strip j).calibration = (s.strip j).calibration := fun j => by
    by_cases own : j = i
    · rw [own, State.joinStart_strip_self, Strip.enter_calibration]
    · rw [State.joinStart_strip_ne s own]
  refine ⟨?_, fun j => ?_, fun e mem moving => ?_⟩
  · rw [queue, List.map_append]
    exact List.nodup_append.mpr ⟨nodup, List.nodup_singleton _, fun j mem k own same => by
      cases List.mem_singleton.mp own
      exact absent ((show j = i from same) ▸ mem)⟩
  · rw [joinStart_motion, queue, List.map_append, List.mem_append, ← queued]
    by_cases own : j = i <;> simp [own]
  · rw [calibration]
    rw [queue] at mem
    obtain old | new := List.mem_append.mp mem
    · exact moves e old moving
    · cases List.mem_singleton.mp new
      exact move moving

/-- A strip that is queued has a WAKING or ON rail, and its group is active (R138, R139, R142). -/
theorem joinStart_rails (h : s.railsMatch) (other : (s.strip i).motion ≠ .queued) (u : Purpose) : (s.joinStart i u).railsMatch := by
  obtain ⟨driven, woken, idle⟩ := h
  have rail := fun g => State.joinStart_rail (s := s) other u g
  have active : (s.joinStart i u).groupActive (groupOf i) = true :=
    State.groupActive_iff.mpr ⟨i, rfl, by rw [joinStart_motion, if_pos rfl]; rfl⟩
  refine ⟨fun j drives => ?_, fun j waits => ?_, fun g since at_ => ?_⟩
  · rw [joinStart_motion] at drives
    split at drives
    · cases drives
    · obtain ⟨was, on⟩ := State.railOn_iff.mp (driven j drives)
      rw [State.railOn_iff, rail, on]
      split <;> exact ⟨_, rfl⟩
  · rw [rail]
    split
    · cases s.rail (groupOf j) <;> exact nofun
    · next apart =>
      rw [joinStart_motion, if_neg fun own => apart (congrArg groupOf own)] at waits
      exact woken j waits
  · by_cases own : g = groupOf i
    · subst own
      rw [rail, if_pos rfl] at at_
      cases was : s.rail (groupOf i) <;> simp_all [Rail.active, Rail.woken]
    · rw [rail, if_neg own] at at_
      rw [idle g since at_, State.groupActive_congr fun j at_ => ?_]
      rw [joinStart_motion, if_neg fun same => own (at_.symm.trans (congrArg groupOf same))]

theorem joinStart (h : s.Supervised) (other : (s.strip i).motion ≠ .queued) {u : Purpose}
    (move : u = .move → (s.strip i).calibration.isSome = true) : (s.joinStart i u).Supervised :=
  ⟨joinStart_starts h.starts other move, joinStart_rails h.rails other u⟩

/-- An entry that calibrates instead asks for no more than it did (R145). -/
theorem toCalibrate (h : s.Supervised) (i : StripId) : (s.toCalibrate i).Supervised := by
  obtain ⟨⟨nodup, queued, moves⟩, rails⟩ := h
  have names : (s.toCalibrate i).drive.queue.map StartEntry.strip = s.drive.queue.map StartEntry.strip := by
    rw [State.toCalibrate, State.modDrive, List.map_map]
    refine List.map_congr_left fun e _ => ?_
    dsimp only [Function.comp_apply]
    split <;> rfl
  refine ⟨⟨names ▸ nodup, fun j => ?_, fun e mem move => ?_⟩, rails⟩
  · rw [names, State.toCalibrate_strip]
    exact queued j
  · obtain ⟨old, was, rfl⟩ := List.mem_map.mp mem
    split at move
    · cases move
    · next other =>
      rw [if_neg other, State.toCalibrate_strip]
      exact moves old was move

/-- A rail takes a new state that fits its group (R140 to R142). -/
theorem setRail (h : s.Supervised) {g : GroupId} {r : Rail} (on : s.groupActive g = true → s.railOn g = true → ∃ idle, r = .on idle)
    (off : r = .off → s.groupActive g = false) (idle : ∀ since, r = .on since → (since = none ↔ s.groupActive g = true)) :
    (s.setRail g r).Supervised := by
  obtain ⟨starts, driven, woken, idles⟩ := h
  refine ⟨starts, fun j drives => ?_, fun j waits => ?_, fun k since at_ => ?_⟩
  · rw [State.railOn_iff, State.setRail_rail]
    split
    · next own =>
      have active : s.groupActive (groupOf j) = true := State.groupActive_iff.mpr ⟨j, rfl, by
        rw [Motion.active, show (s.strip j).motion.driven = true from drives, Bool.or_true]⟩
      exact on (own ▸ active) (own ▸ driven j drives)
    · exact State.railOn_iff.mp (driven j drives)
  · rw [State.setRail_rail]
    split
    · next own =>
      intro gone
      have active : s.groupActive (groupOf j) = true := State.groupActive_iff.mpr ⟨j, rfl, by
        rw [show (s.strip j).motion = .queued from waits]
        rfl⟩
      rw [own, off gone] at active
      cases active
    · exact woken j waits
  · have active : (s.setRail g r).groupActive k = s.groupActive k := State.groupActive_congr fun _ _ => rfl
    rw [active]
    rw [State.setRail_rail] at at_
    split at at_
    · next own => exact own ▸ idle since at_
    · exact idles k since at_

end State.Supervised
end Sys2Proof.Machine
end

section
namespace Sys2Proof.Machine

open Sys2Proof

/-! ## One strip's coherence (R62 to R66, R72) -/

/-- A strip's coherence by its parts, but for the one that a strip whose touch was lifted breaks until its motion state follows: that a TOUCHED strip is
touched. -/
structure Strip.Sound (p : Strip) : Prop where
  parked : p.mode = .parked → p.motion = .parked ∨ p.motion = .stalled
  unparked : p.motion = .parked → p.mode = .parked
  touched : p.touched = true → p.motion = .touched ∨ p.motion = .parked ∨ p.motion = .stalled
  active : p.motion.active = true → p.mode.motorised = true
  latched : p.motion = .latched → p.latch = true
  latch : p.latch = true → p.mode = .latch
  drive : p.drive ≠ 0 → p.motion.driven = true
  cal : p.cal.isSome = true ↔ p.motion = .calibrating
  calibrated : p.motion = .moving ∨ p.motion = .settling → p.calibration.isSome = true

/-- A strip is coherent, or its touch was lifted and its motion state does not follow yet (R109). -/
def Strip.CoherentBut (lifted : Bool) (p : Strip) : Prop :=
  p.Sound ∧ if lifted then p.touched = false else p.motion = .touched → p.touched = true

theorem Strip.coherent_iff (p : Strip) : p.coherent ↔ p.CoherentBut false := by
  constructor
  · rintro ⟨parked, unparked, touched, hand, active, latched, latch, drive, cal, calibrated⟩
    exact ⟨⟨parked, unparked, touched, active, latched, latch, drive, cal, calibrated⟩, hand⟩
  · rintro ⟨⟨parked, unparked, touched, active, latched, latch, drive, cal, calibrated⟩, hand⟩
    exact ⟨parked, unparked, touched, hand, active, latched, latch, drive, cal, calibrated⟩

section strip

variable {p p' : Strip} {lifted : Bool}

theorem Strip.CoherentBut.sound (h : p.CoherentBut lifted) : p.Sound := h.1

theorem Strip.CoherentBut.same (h : p.CoherentBut lifted) (s : p.SameMotion p') : p'.CoherentBut lifted := by
  obtain ⟨mode, motion, touched, latch, drive, cal, calibration⟩ := s
  obtain ⟨h, hand⟩ := h
  refine ⟨⟨?_, ?_, ?_, ?_, ?_, ?_, ?_, ?_, ?_⟩, ?_⟩ <;> simp only [mode, motion, touched, latch, drive, cal, calibration]
  exacts [h.parked, h.unparked, h.touched, h.active, h.latched, h.latch, h.drive, h.cal, h.calibrated, hand]

/-- Another drive in a driven state, or none (R64). -/
theorem Strip.CoherentBut.setDrive (h : p.CoherentBut lifted) {d : Int} (driven : d ≠ 0 → p.motion.driven = true) :
    (p.setDrive d).CoherentBut lifted := by
  obtain ⟨⟨parked, unparked, touched, active, latched, latch, -, cal, calibrated⟩, hand⟩ := h
  exact ⟨⟨parked, unparked, touched, active, latched, latch, driven, cal, calibrated⟩, hand⟩

/-- What a strip's record must be for the strip to enter a state and be coherent there. -/
def Strip.mayEnter (p : Strip) : Motion → Prop
  | .parked => p.mode = .parked ∧ p.latch = false
  | .idle => p.mode ≠ .parked ∧ p.touched = false
  | .queued => p.mode.motorised = true ∧ p.touched = false ∧ (p.latch = true → p.mode = .latch)
  | .moving => p.mode.motorised = true ∧ p.touched = false ∧ (p.latch = true → p.mode = .latch) ∧ p.calibration.isSome = true
  | .settling => p.mode.motorised = true ∧ p.touched = false ∧ (p.latch = true → p.mode = .latch) ∧ p.calibration.isSome = true
  | .touched => p.mode ≠ .parked ∧ p.touched = true ∧ (p.latch = true → p.mode = .latch)
  | .latched => p.mode = .latch ∧ p.latch = true ∧ p.touched = false
  | .calibrating => p.mode.motorised = true ∧ p.touched = false ∧ (p.latch = true → p.mode = .latch) ∧ p.cal.isSome = true
  | .stalled => p.latch = true → p.mode = .latch

theorem Mode.ne_parked_of_motorised {m : Mode} (h : m.motorised = true) : m ≠ .parked := by
  rintro rfl
  cases h

theorem Strip.enter_coherent {dest : Motion} (may : p.mayEnter dest) (time : BitVec 16) :
    (p.enter dest time).CoherentBut false := by
  cases dest with
  | parked | idle | touched | latched | stalled =>
    simp only [Strip.mayEnter] at may
    constructor
    · constructor <;> simp_all [Strip.enter, Strip.setDrive, Motion.active, Motion.driven]
    · simp_all [Strip.enter, Strip.setDrive]
  | queued | moving | settling | calibrating =>
    simp only [Strip.mayEnter] at may
    have mode := Mode.ne_parked_of_motorised may.1
    constructor
    · constructor <;> simp_all [Strip.enter, Strip.setDrive, Motion.active, Motion.driven]
    · simp [Strip.enter, Strip.setDrive]

/-- An untouched strip that enters a state is coherent there, its touch lifted or not. -/
theorem Strip.enter_coherentBut {dest : Motion} (may : p.mayEnter dest) (free : p.touched = false) (time : BitVec 16)
    (lifted : Bool) : (p.enter dest time).CoherentBut lifted := by
  have h := Strip.enter_coherent may time
  cases lifted with
  | false => exact h
  | true => exact ⟨h.sound, by simpa using free⟩

/-- A touched strip stands TOUCHED, PARKED or STALLED: in any other state it is untouched (R72). -/
theorem Strip.Sound.untouched (h : p.Sound) (touched : p.motion ≠ .touched) (parked : p.motion ≠ .parked)
    (stalled : p.motion ≠ .stalled) : p.touched = false := by
  cases hand : p.touched with
  | false => rfl
  | true =>
    obtain at_ | at_ | at_ := h.touched hand
    exacts [absurd at_ touched, absurd at_ parked, absurd at_ stalled]

/-- An active strip is motorised and untouched. -/
theorem Strip.Sound.of_active (h : p.Sound) (active : p.motion.active = true) :
    p.mode.motorised = true ∧ p.touched = false ∧ (p.latch = true → p.mode = .latch) := by
  refine ⟨h.active active, h.untouched ?_ ?_ ?_, h.latch⟩ <;>
    exact fun at_ => absurd active (by rw [at_]; decide)

end strip

/-! ## Coherent strips, supervised -/

/-- The other strips than `i` are coherent, but for the lifted one, and all are supervised. -/
structure State.SafeBeside (lifted : Option StripId) (i : StripId) (s : State) : Prop where
  supervised : s.Supervised
  others : ∀ j, j ≠ i → (s.strip j).CoherentBut (lifted == some j)

/-- The law of O56, but for the motion state of a strip whose touch was lifted. -/
structure State.SafeBut (lifted : Option StripId) (s : State) : Prop where
  supervised : s.Supervised
  strips : ∀ j, (s.strip j).CoherentBut (lifted == some j)

theorem State.motionSafe_iff (s : State) : s.motionSafe ↔ s.SafeBut none := by
  constructor
  · rintro ⟨strips, starts, rails⟩
    exact ⟨⟨starts, rails⟩, fun j => (Strip.coherent_iff _).mp (strips j)⟩
  · rintro ⟨⟨starts, rails⟩, strips⟩
    exact ⟨fun j => (Strip.coherent_iff _).mpr (strips j), starts, rails⟩

namespace State.SafeBeside

variable {s : State} {i : StripId} {lifted : Option StripId} (h : s.SafeBeside lifted i)
include h

theorem modStrip {f : Strip → Strip} (motion : (f (s.strip i)).motion = (s.strip i).motion := by rfl)
    (calibrated : (s.strip i).calibration.isSome = true → (f (s.strip i)).calibration.isSome = true := by exact id) :
    (s.modStrip i f).SafeBeside lifted i where
  supervised := h.supervised.modStrip motion calibrated
  others j other := by
    rw [State.strip_modStrip_ne s other]
    exact h.others j other

theorem enter {dest : Motion} (other : dest ≠ .queued) (on : dest.driven = true → s.railOn (groupOf i) = true) :
    (s.enter i dest).SafeBeside lifted i where
  supervised := h.supervised.enter other on
  others j other := by
    rw [State.enter_strip_ne s other]
    exact h.others j other

theorem joinStart (other : (s.strip i).motion ≠ .queued) {u : Purpose}
    (move : u = .move → (s.strip i).calibration.isSome = true) : (s.joinStart i u).SafeBeside lifted i where
  supervised := h.supervised.joinStart other move
  others j other := by
    rw [State.joinStart_strip_ne s other]
    exact h.others j other

/-- The strip itself is coherent, too. -/
theorem safe (own : (s.strip i).CoherentBut (lifted == some i)) : s.SafeBut lifted where
  supervised := h.supervised
  strips j := by
    by_cases same : j = i
    · exact same ▸ own
    · exact h.others j same

theorem quiet {t : State} (q : s.Quiet t) : t.SafeBeside lifted i where
  supervised := h.supervised.congr (fun j => by rw [State.strip_congr q.strips]) (fun j => by rw [State.strip_congr q.strips]; exact id)
    (by rw [q.drive]) (by rw [q.drive])
  others j other := by
    rw [State.strip_congr q.strips]
    exact h.others j other

end State.SafeBeside

namespace State.SafeBut

variable {s t : State} {lifted : Option StripId} (h : s.SafeBut lifted)
include h

theorem beside (i : StripId) : s.SafeBeside lifted i := ⟨h.supervised, fun j _ => h.strips j⟩

theorem sound (i : StripId) : (s.strip i).Sound := (h.strips i).sound

theorem quiet (q : s.Quiet t) : t.SafeBut lifted where
  supervised := ((h.beside 0).quiet q).supervised
  strips j := by
    rw [State.strip_congr q.strips]
    exact h.strips j

theorem modStrip (i : StripId) {f : Strip → Strip} (own : (f (s.strip i)).CoherentBut (lifted == some i))
    (motion : (f (s.strip i)).motion = (s.strip i).motion := by rfl)
    (calibrated : (s.strip i).calibration.isSome = true → (f (s.strip i)).calibration.isSome = true := by exact id) :
    (s.modStrip i f).SafeBut lifted :=
  ((h.beside i).modStrip motion calibrated).safe (by
    rw [State.strip_modStrip_self]
    exact own)

theorem same (i : StripId) {f : Strip → Strip} (m : (s.strip i).SameMotion (f (s.strip i))) : (s.modStrip i f).SafeBut lifted :=
  h.modStrip i ((h.strips i).same m) m.motion (by rw [m.calibration]; exact id)

theorem setDrive (i : StripId) {d : Int} (driven : d ≠ 0 → (s.strip i).motion.driven = true) :
    (s.modStrip i fun p => p.setDrive d).SafeBut lifted :=
  h.modStrip i ((h.strips i).setDrive driven)

/-- A strip enters a state that its record fits, on an ON rail if it is to be driven. -/
theorem enter {i : StripId} {dest : Motion} (other : dest ≠ .queued) (on : dest.driven = true → s.railOn (groupOf i) = true)
    (may : (s.strip i).mayEnter dest) (free : (s.strip i).touched = false) : (s.enter i dest).SafeBut lifted :=
  ((h.beside i).enter other on).safe (by
    rw [State.enter_strip_self]
    exact Strip.enter_coherentBut may free ..)

theorem joinStart {i : StripId} (other : (s.strip i).motion ≠ .queued) {u : Purpose}
    (move : u = .move → (s.strip i).calibration.isSome = true) (may : (s.strip i).mayEnter .queued) :
    (s.joinStart i u).SafeBut lifted :=
  ((h.beside i).joinStart other move).safe (by
    rw [State.joinStart_strip_self]
    exact Strip.enter_coherentBut may may.2.1 ..)

/-! ## Recalibration pending and rest (R65, R157) -/

theorem recalAtRest (i : StripId) : (s.recalAtRest i).SafeBut lifted := by
  unfold State.recalAtRest
  dsimp only
  split
  · next owed =>
    obtain ⟨idle, ready, -⟩ := owed
    obtain ⟨motorised, free⟩ := Bool.and_eq_true_iff.mp ready
    exact h.joinStart (by simp [idle]) nofun ⟨motorised, by simpa using free, (h.sound i).latch⟩
  · exact h

theorem actOnRecal (i : StripId) : (s.actOnRecal i).SafeBut lifted := by
  unfold State.actOnRecal
  dsimp only
  split
  · split
    · exact ⟨h.supervised.toCalibrate i, fun j => by rw [State.toCalibrate_strip]; exact h.strips j⟩
    · exact h
  · exact h.recalAtRest i

theorem setRecal (i : StripId) : (s.setRecal i).SafeBut lifted :=
  (h.same i (f := fun p => { p with recalPending := true }) {}).actOnRecal i

end State.SafeBut

/-- A strip that is untouched and not in PARKED mode comes to rest, whatever its record was (R65). -/
theorem State.SafeBeside.rest {s : State} {i : StripId} {lifted : Option StripId} (h : s.SafeBeside lifted i)
    (mode : (s.strip i).mode ≠ .parked) (free : (s.strip i).touched = false) : (s.rest i).SafeBut lifted := by
  have entered : (s.enter i .idle).SafeBut lifted := (h.enter (dest := .idle) nofun nofun).safe (by
    rw [State.enter_strip_self]
    exact Strip.enter_coherentBut (dest := .idle) ⟨mode, free⟩ free ..)
  exact entered.recalAtRest i

namespace State.SafeBut

variable {s t : State} {lifted : Option StripId} (h : s.SafeBut lifted)
include h

/-! ## Holds and arrivals (R73 to R78) -/

/-- What an active strip brings to a state of rest or of motion. -/
theorem of_active {i : StripId} (active : (s.strip i).motion.active = true) :
    (s.strip i).mode.motorised = true ∧ (s.strip i).touched = false ∧ ((s.strip i).latch = true → (s.strip i).mode = .latch) :=
  (h.sound i).of_active active

/-- A strip that is driven with valid calibration settles, or moves (R64, R66). -/
theorem enter_driven {i : StripId} (driven : (s.strip i).motion.driven = true)
    (calibrated : (s.strip i).calibration.isSome = true) {dest : Motion} (goes : dest = .moving ∨ dest = .settling) :
    (s.enter i dest).SafeBut lifted := by
  obtain ⟨motorised, free, latch⟩ := h.of_active (i := i) (by simp [Motion.active, driven])
  obtain rfl | rfl := goes
  · exact h.enter nofun (fun _ => h.supervised.railOn driven) ⟨motorised, free, latch, calibrated⟩ free
  · exact h.enter nofun (fun _ => h.supervised.railOn driven) ⟨motorised, free, latch, calibrated⟩ free

theorem hold (i : StripId) : (s.hold i).SafeBut lifted := by
  have cleared := h.same i (f := fun q => { q with target := none }) {}
  have record : (s.modStrip i fun q => { q with target := none }).strip i = { s.strip i with target := none } :=
    State.strip_modStrip_self ..
  unfold State.hold
  dsimp only
  split
  · next queued =>
    split
    · obtain ⟨motorised, free, -⟩ := cleared.of_active (i := i) (by rw [record]; simp [Motion.active, queued])
      exact (cleared.beside i).rest (Mode.ne_parked_of_motorised motorised) free
    · exact cleared
  · next moving =>
    refine cleared.enter_driven (i := i) ?_ ?_ (.inr rfl)
    · rw [record]
      simp [moving, Motion.driven]
    · rw [record]
      exact (h.sound i).calibrated (.inl moving)
  all_goals exact cleared

omit h in
theorem layerLaw : LayerLaw (State.SafeBut lifted) where
  quiet := quiet
  label h i _ d := h.same i d.toSameMotion
  hold := hold

theorem arrive (i : StripId) (code : Code) (travel : Nat) (c : ChanId) : (s.arrive i code travel c).SafeBut lifted := by
  have aimed : (s.aimed i code travel c).SafeBut lifted := h.same i {}
  have record := s.aimed_strip i code travel c
  have calibrated := (h.sound i).calibrated
  cases motion : (s.strip i).motion with
  | idle =>
    by_cases far : (s.strip i).mode.motorised = true ∧ ¬ dist travel (s.strip i).m ≤ s.param .deadband
    · obtain ⟨motorised, far⟩ := far
      have free := (h.sound i).untouched (by simp [motion]) (by simp [motion]) (by simp [motion])
      rw [State.arrive_idle_far motion motorised far]
      refine aimed.joinStart ?_ ?_ ?_
      · rw [record]
        exact motion ▸ nofun
      · rw [record]
        show _ → (s.strip i).calibration.isSome = true
        split <;> simp_all
      · rw [record]
        exact ⟨motorised, free, (h.sound i).latch⟩
    · rw [State.arrive_idle_stays motion (by simpa [imp_iff_not_or] using far)]
      exact aimed
  | queued =>
    by_cases near : s.purposeOf i = some .move ∧ dist travel (s.strip i).m ≤ s.param .deadband
    · obtain ⟨motorised, free, -⟩ := h.of_active (i := i) (by simp [motion, Motion.active])
      rw [State.arrive_queued_near motion near.1 near.2]
      refine (aimed.beside i).rest ?_ ?_
      · rw [record]
        exact Mode.ne_parked_of_motorised motorised
      · rw [record]
        exact free
    · rw [State.arrive_queued_stays motion near]
      exact aimed
  | moving =>
    rw [State.arrive_moving motion]
    unfold State.retarget
    dsimp only
    split
    · refine aimed.enter_driven (i := i) ?_ ?_ (.inr rfl)
      · rw [record]
        exact (congrArg Motion.driven motion).trans rfl
      · rw [record]
        exact calibrated (.inl motion)
    · split
      · exact aimed
      · exact aimed.same i {}
  | settling =>
    rw [State.arrive_settling motion]
    split
    · exact aimed
    · refine State.SafeBut.same ?_ i {}
      refine aimed.enter_driven (i := i) ?_ ?_ (.inl rfl)
      · rw [record]
        exact (congrArg Motion.driven motion).trans rfl
      · rw [record]
        exact calibrated (.inr motion)
  | touched | latched | calibrating | stalled | parked =>
    rw [State.arrive_stays (by simp [motion]) (by simp [motion]) (by simp [motion]) (by simp [motion])]
    exact aimed

theorem deliverThreshold (i : StripId) (on : Bool) (travel : Nat) : (s.deliverThreshold i on travel).SafeBut lifted := by
  refine layerLaw.forceLine (h.same i ?_) i
  cases on <;> exact {}

end State.SafeBut
end Sys2Proof.Machine
end

section
namespace Sys2Proof.Machine

open Sys2Proof

section away

variable {s : State} {i : StripId}

/-- A strip that is not IDLE is left where it is when recal pending is set (R157). -/
theorem State.setRecal_motion (away : (s.strip i).motion ≠ .idle) : ((s.setRecal i).strip i).motion = (s.strip i).motion := by
  unfold State.setRecal State.actOnRecal State.recalAtRest
  dsimp only
  repeat' split
  all_goals simp_all

theorem State.countError_motion (away : (s.strip i).motion ≠ .idle) : ((s.countError i).strip i).motion = (s.strip i).motion := by
  have counted : ((s.modStrip i Strip.countError).strip i).motion = (s.strip i).motion := by
    rw [State.strip_modStrip_self]
    rfl
  unfold State.countError
  dsimp only
  split
  · rw [State.setRecal_motion (counted ▸ away), counted]
  · exact counted

theorem State.trackTest_motion (away : (s.strip i).motion ≠ .idle) : ((s.trackTest i).strip i).motion = (s.strip i).motion := by
  have marked : ((s.modStrip i fun q => { q with moveMarked := true }).strip i).motion = (s.strip i).motion := by
    rw [State.strip_modStrip_self]
  unfold State.trackTest
  dsimp only
  split
  · rw [State.countError_motion (marked ▸ away), marked]
  · rfl

theorem State.settleDrive_motion (s : State) (i : StripId) : ((s.settleDrive i).strip i).motion = (s.strip i).motion := by
  unfold State.settleDrive State.driveWith
  split <;> simp [Strip.setDrive]

end away

namespace State.SafeBut

variable {s t : State} {lifted : Option StripId} {i : StripId} (h : s.SafeBut lifted)
include h

/-! ## Samples (R88 to R98, R155, R158 to R163) -/

theorem countError (i : StripId) : (s.countError i).SafeBut lifted := by
  have counted := h.same i (f := Strip.countError) {}
  unfold State.countError
  dsimp only
  split
  · exact counted.setRecal i
  · exact counted

theorem trackTest (i : StripId) : (s.trackTest i).SafeBut lifted := by
  unfold State.trackTest
  dsimp only
  split
  · exact (h.same i (f := fun q => { q with moveMarked := true }) {}).countError i
  · exact h

theorem driveWith (driven : (s.strip i).motion.driven = true) (u : Int) : (s.driveWith i u).SafeBut lifted :=
  h.setDrive i fun _ => driven

/-- An active strip stalls (R97, R163). -/
theorem enter_stalled (active : (s.strip i).motion.active = true) : (s.enter i .stalled).SafeBut lifted :=
  h.enter nofun nofun (h.sound i).latch (h.of_active active).2.1

theorem profileStep (moving : (s.strip i).motion = .moving) :
    (s.profileStep i).SafeBut lifted ∧ ((s.profileStep i).strip i).motion.driven = true := by
  have calibrated := (h.sound i).calibrated (.inl moving)
  have settled : ∀ {t : State}, t.SafeBut lifted → (t.strip i).motion = .moving → (t.enter i .settling).SafeBut lifted ∧
      ((t.enter i .settling).strip i).motion.driven = true := fun ht at_ =>
    ⟨ht.enter_driven (by rw [at_]; rfl) ((ht.sound i).calibrated (.inl at_)) (.inr rfl), by simp; rfl⟩
  have stepped : ∀ r v, (s.modStrip i fun q => { q with r := r, v := v }).SafeBut lifted := fun _ _ => h.same i {}
  have motion : ∀ r v, ((s.modStrip i fun q => { q with r := r, v := v }).strip i).motion = .moving := fun _ _ => by
    rw [State.strip_modStrip_self]
    exact moving
  unfold State.profileStep
  dsimp only
  split
  · exact settled h moving
  · split
    · exact settled (stepped ..) (motion ..)
    · exact ⟨stepped .., by rw [motion]; rfl⟩

theorem moveSample (moving : (s.strip i).motion = .moving) : (s.moveSample i).SafeBut lifted := by
  obtain ⟨stepped, driven⟩ := h.profileStep moving
  exact (stepped.driveWith driven _).trackTest i

theorem settleDrive (settling : (s.strip i).motion = .settling) : (s.settleDrive i).SafeBut lifted := by
  unfold State.settleDrive
  split
  · exact h.modStrip i (((h.strips i).same (p' := { s.strip i with settled := (s.strip i).settled + 1 }) {}).setDrive (d := 0)
      nofun)
  · exact (h.same i (f := fun p => { p with settled := 0 }) {}).driveWith (by rw [State.strip_modStrip_self]; simp [settling, Motion.driven]) 0

theorem settleSample (settling : (s.strip i).motion = .settling) : (s.settleSample i).SafeBut lifted := by
  have tracked := (h.settleDrive settling).trackTest i
  have motion : (((s.settleDrive i).trackTest i).strip i).motion = .settling := by
    rw [State.trackTest_motion] <;> rw [State.settleDrive_motion, settling]
    exact nofun
  have active : (((s.settleDrive i).trackTest i).strip i).motion.active = true := by rw [motion]; rfl
  obtain ⟨motorised, free, -⟩ := tracked.of_active active
  unfold State.settleSample
  dsimp only
  split
  · exact (tracked.beside i).rest (Mode.ne_parked_of_motorised motorised) free
  · split
    · exact (((tracked.enter_stalled active).countError i).quiet (.stripEvent ..)).quiet (.setFault _)
    · exact tracked

/-- The phase data and the drive of a strip that is CALIBRATING (R158, R159). -/
theorem setRun (calibrating : (s.strip i).motion = .calibrating) (c : CalRun) (d : Int) :
    (s.modStrip i fun p => { p with cal := some c }.setDrive d).SafeBut lifted := by
  obtain ⟨⟨parked, unparked, touched, active, latched, latch, -, -, calibrated⟩, hand⟩ := h.strips i
  exact h.modStrip i ⟨⟨parked, unparked, touched, active, latched, latch, fun _ => congrArg Motion.driven calibrating,
    iff_of_true rfl calibrating, calibrated⟩, hand⟩

theorem beginRun (calibrating : (s.strip i).motion = .calibrating) : (s.beginRun i).SafeBut lifted := h.setRun calibrating ..

theorem runGoesOn (calibrating : (s.strip i).motion = .calibrating) (c : CalRun) : (s.runGoesOn i c).SafeBut lifted :=
  h.setRun calibrating ..

theorem runSucceeds (calibrating : (s.strip i).motion = .calibrating) (low high : Nat) :
    (s.runSucceeds i low high).SafeBut lifted := by
  have driven : (s.strip i).motion.driven = true := congrArg Motion.driven calibrating
  obtain ⟨⟨parked, unparked, touched, active, latched, latch, drive, cal, -⟩, hand⟩ := h.strips i
  have recorded : (s.modStrip i fun p => { p with
      calibration := some ⟨low, high⟩, slices := [0, 0, 0, 0, 0, 0, 0, 0], attempts := 0, recalPending := false }).SafeBut lifted :=
    h.modStrip i ⟨⟨parked, unparked, touched, active, latched, latch, drive, cal, fun _ => rfl⟩, hand⟩ rfl fun _ => rfl
  have told := recorded.quiet (.stripEvent _ .calDone i (field16 (high - low)))
  have stopped := told.modStrip i (f := fun p => { p with r := p.m, v := 0, moveMarked := false }.setDrive 0)
    (((told.strips i).same {}).setDrive (d := 0) nofun)
  unfold State.runSucceeds
  refine stopped.enter_driven ?_ ?_ ?_
  · simpa [Strip.setDrive] using driven
  · simp [Strip.setDrive]
  · split
    · exact .inl rfl
    · exact .inr rfl

theorem runFails (calibrating : (s.strip i).motion = .calibrating) : (s.runFails i).SafeBut lifted := by
  have counted := h.same i (f := fun p => { p with attempts := (s.strip i).attempts + 1 }) {}
  have motion : ((s.modStrip i fun p => { p with attempts := (s.strip i).attempts + 1 }).strip i).motion = .calibrating := by
    rw [State.strip_modStrip_self]
    exact calibrating
  unfold State.runFails
  dsimp only
  split
  · exact counted.beginRun motion
  · have stalled := counted.enter_stalled (i := i) (by rw [motion]; rfl)
    exact ((stalled.same i (f := fun p => { p with recalPending := false }) {}).quiet (.stripEvent ..)).quiet (.setFault _)

theorem calSample (calibrating : (s.strip i).motion = .calibrating) (raw : Nat) : (s.calSample i raw).SafeBut lifted := by
  unfold State.calSample State.phaseEnds
  split
  · exact h
  · split
    · split
      · exact h.runGoesOn calibrating _
      · split
        · exact h.runSucceeds calibrating ..
        · exact h.runFails calibrating
    · split
      · exact h.runFails calibrating
      · exact h.runGoesOn calibrating _

theorem sampleWork (i : StripId) (raw : Nat) : (s.sampleWork i raw).SafeBut lifted := by
  unfold State.sampleWork
  split
  · next moving => exact h.moveSample moving
  · next settling => exact h.settleSample settling
  · next calibrating => exact h.calSample calibrating raw
  all_goals exact h

theorem armOnWake (i : StripId) : (s.armOnWake i).SafeBut lifted := by
  unfold State.armOnWake
  dsimp only
  split
  · exact h.setRecal i
  · split
    · exact h.actOnRecal i
    · exact h

end State.SafeBut
end Sys2Proof.Machine
end

section
namespace Sys2Proof.Machine

open Sys2Proof

theorem State.Quiet.releaseRestore (s : State) (i : StripId) : s.Quiet (s.releaseRestore i) := by
  unfold State.releaseRestore
  split
  · split
    · exact .writeBack ..
    · exact .refl
  · exact .refl

theorem State.Quiet.stalledRelease (s : State) (i : StripId) : s.Quiet (s.stalledRelease i) := by
  have restored := State.Quiet.releaseRestore s i
  unfold State.stalledRelease
  dsimp only
  split
  · split
    · split
      · exact restored
      · exact restored.trans (.convertChannel ..)
    · exact restored
  · exact .refl

/-- A state of the machine in which strip `i`'s touch was lifted says all that O56 asks of the other strips. -/
theorem State.SafeBut.landing {s : State} {i : StripId} (h : s.SafeBut (some i)) : s.SafeBeside none i where
  supervised := h.supervised
  others j other := by
    have own := h.strips j
    rwa [show (some i == some j) = false by simpa using other.symm] at own

/-- A strip whose touch was lifted, in a state other than TOUCHED, is coherent. -/
theorem State.SafeBut.landed {s : State} {i : StripId} (h : s.SafeBut (some i)) (away : (s.strip i).motion ≠ .touched) :
    s.SafeBut none :=
  h.landing.safe ⟨h.sound i, fun at_ => absurd at_ away⟩

theorem State.SafeBut.free {s : State} {i : StripId} (h : s.SafeBut (some i)) : (s.strip i).touched = false := by
  simpa using (h.strips i).2

namespace State.SafeBeside

variable {s : State} {i : StripId} (h : s.SafeBeside none i)
include h

theorem enter_safe {dest : Motion} (other : dest ≠ .queued) (on : dest.driven = true → s.railOn (groupOf i) = true)
    (may : (s.strip i).mayEnter dest) : (s.enter i dest).SafeBut none :=
  (h.enter other on).safe (by
    rw [State.enter_strip_self]
    exact Strip.enter_coherent may _)

/-! ## Touch (R100, R107, R108) -/

/-- A touch is taken by a strip that stands PARKED or STALLED, or may enter TOUCHED. -/
theorem takeTouch (touched : (s.strip i).touched = true) (latch : (s.strip i).latch = true → (s.strip i).mode = .latch)
    (stays : (s.strip i).motion = .parked ∨ (s.strip i).motion = .stalled → (s.strip i).Sound)
    (goes : (s.strip i).motion ≠ .parked → (s.strip i).motion ≠ .stalled → (s.strip i).mode ≠ .parked) :
    (s.takeTouch i).SafeBut none := by
  have stopped := h.modStrip (f := fun p =>
    { p with r := p.m, v := 0, latch := p.latch || p.mode == Mode.latch }.setDrive 0)
  have engaged : ((s.strip i).latch || (s.strip i).mode == Mode.latch) = true → (s.strip i).mode = .latch := by
    simpa [or_imp] using latch
  have rests : (s.strip i).motion = .parked ∨ (s.strip i).motion = .stalled → State.SafeBut none (s.modStrip i fun p =>
      { p with r := p.m, v := 0, latch := p.latch || p.mode == Mode.latch }.setDrive 0) := by
    intro at_
    obtain ⟨parked, unparked, touches, active, -, -, -, cal, calibrated⟩ := stays at_
    refine stopped.safe ?_
    rw [State.strip_modStrip_self]
    refine ⟨⟨parked, unparked, touches, active, fun latched => ?_, engaged, nofun, cal, calibrated⟩, fun _ => touched⟩
    obtain other | other := at_ <;> exact absurd (other.symm.trans latched) nofun
  have enters : (s.strip i).motion ≠ .parked → (s.strip i).motion ≠ .stalled → State.SafeBut none ((s.modStrip i fun p =>
      { p with r := p.m, v := 0, latch := p.latch || p.mode == Mode.latch }.setDrive 0).enter i .touched) := by
    intro unparked unstalled
    refine stopped.enter_safe nofun nofun ?_
    rw [State.strip_modStrip_self]
    exact ⟨goes unparked unstalled, touched, engaged⟩
  unfold State.takeTouch
  dsimp only
  split
  · next at_ => exact rests (.inl at_)
  · next at_ => exact rests (.inr at_)
  all_goals
    next at_ => exact enters (by rw [at_]; exact nofun) (by rw [at_]; exact nofun)

end State.SafeBeside

namespace State.SafeBut

section steady

variable {s t : State} {i : StripId} (h : s.SafeBut none)
include h

theorem press (i : StripId) : ((s.modStrip i fun p => { p with debounce := none, touched := true }).takeTouch i).SafeBut none := by
  obtain ⟨parked, unparked, -, active, latched, latch, drive, cal, calibrated⟩ := h.sound i
  have pressed := (h.beside i).modStrip (f := fun p => { p with debounce := none, touched := true })
  refine pressed.takeTouch ?_ ?_ ?_ ?_ <;> rw [State.strip_modStrip_self]
  · exact latch
  · exact fun at_ => ⟨parked, unparked, fun _ => .inr at_, active, latched, latch, drive, cal, calibrated⟩
  · intro away unstalled mode
    exact (parked mode).elim away unstalled

/-! ## Release (R109 to R114) -/

theorem setSpeed (i : StripId) (k : SpeedClass) : (s.setSpeed i k).SafeBut none := h.same i {}

/-- A strip at IDLE, free and motorised, returns to its channel (R111). -/
theorem returnToChannel (idle : (s.strip i).motion = .idle) (motorised : (s.strip i).mode.motorised = true) :
    (s.returnToChannel i).SafeBut none := by
  have free := (h.sound i).untouched (by simp [idle]) (by simp [idle]) (by simp [idle])
  have returning := h.setSpeed i .ret
  unfold State.returnToChannel
  split
  · exact h.setSpeed ..
  · split
    · split
      · exact h.setSpeed ..
      · refine returning.joinStart ?_ ?_ ?_
        · simp [State.setSpeed, idle]
        · split <;> simp_all
        · simpa [State.setSpeed] using ⟨motorised, free, (h.sound i).latch⟩
    · exact returning.quiet (.convertChannel ..)

theorem releaseRecal (i : StripId) : (s.releaseRecal i).SafeBut none := by
  unfold State.releaseRecal
  split
  · exact h.actOnRecal i
  · exact h

end steady

variable {s : State} {i : StripId}

/-- A strip in a motorised mode whose touch was lifted goes to IDLE, gives its level back and returns to its channel (R109, R111, R112). -/
theorem giveBack (h : s.SafeBut (some i)) (motorised : (s.strip i).mode.motorised = true) {t : State}
    (quiet : (s.enter i .idle).Quiet t) : (t.returnToChannel i).SafeBut none := by
  have idle := h.landing.enter_safe (dest := .idle) nofun nofun ⟨Mode.ne_parked_of_motorised motorised, h.free⟩
  refine (idle.quiet quiet).returnToChannel ?_ ?_ <;> rw [State.strip_congr quiet.strips]
  · simp
  · simpa using motorised

theorem ordinaryRelease (h : s.SafeBut (some i)) : (s.ordinaryRelease i).SafeBut none := by
  have sound := h.sound i
  unfold State.ordinaryRelease
  dsimp only
  split
  · next stalled => exact (h.landed (by simp [stalled])).quiet (.stalledRelease ..)
  · split
    · next parked =>
      refine h.landed ?_
      obtain at_ | at_ := sound.parked parked <;> simp [at_]
    · next write => exact h.landing.enter_safe (dest := .idle) nofun nofun ⟨by simp [write], h.free⟩
    · next read => exact h.giveBack (by rw [read]; rfl) .refl
    · next touch => exact h.giveBack (by rw [touch]; rfl) (.releaseRestore ..)
    · next latch =>
      split
      · next engaged => exact h.landing.enter_safe (dest := .latched) nofun nofun ⟨latch, engaged, h.free⟩
      · exact h.giveBack (by rw [latch]; rfl) (.releaseRestore ..)

theorem adoptedRelease (h : s.SafeBut (some i)) : (s.adoptedRelease i).SafeBut none := by
  have idle : (s.strip i).mode ≠ .parked → (s.enter i .idle).SafeBut none := fun unparked =>
    h.landing.enter_safe (dest := .idle) nofun nofun ⟨unparked, h.free⟩
  unfold State.adoptedRelease
  dsimp only
  split
  · next stays =>
    have at_ : (s.strip i).motion = .parked ∨ (s.strip i).motion = .stalled :=
      stays.elim .inr (h.sound i).parked
    have landed := h.landed (i := i) (by obtain at_ | at_ := at_ <;> simp [at_])
    obtain ⟨parked, unparked, touched, active, -, -, drive, cal, calibrated⟩ := landed.sound i
    refine landed.modStrip i ⟨⟨parked, unparked, touched, active, fun latched => ?_, nofun, drive, cal, calibrated⟩, ?_⟩
    · obtain at_ | at_ := at_ <;> exact absurd (at_.symm.trans latched) nofun
    · obtain at_ | at_ := at_ <;> exact fun hand => absurd (at_.symm.trans hand) nofun
  · next goes =>
    obtain ⟨-, unparked⟩ := not_or.mp goes
    split
    · exact idle unparked
    · exact (idle unparked).setSpeed ..

theorem takeRelease (h : s.SafeBut (some i)) : (s.takeRelease i).SafeBut none := by
  unfold State.takeRelease
  dsimp only
  refine releaseRecal ?_ i
  split
  · split
    · exact h.ordinaryRelease
    · exact (layerLaw.adoptPending h ..).adoptedRelease
  · exact h.ordinaryRelease

theorem release (h : s.SafeBut none) (i : StripId) :
    ((s.modStrip i fun p => { p with debounce := none, touched := false }).takeRelease i).SafeBut none := by
  obtain ⟨parked, unparked, -, active, latched, latch, drive, cal, calibrated⟩ := h.sound i
  refine takeRelease ⟨h.supervised.modStrip rfl id, fun j => ?_⟩
  by_cases own : j = i
  · subst own
    rw [State.strip_modStrip_self, beq_self_eq_true]
    exact ⟨⟨parked, unparked, nofun, active, latched, latch, drive, cal, calibrated⟩, rfl⟩
  · rw [State.strip_modStrip_ne s own, show (some i == some j) = false by simpa using Ne.symm own]
    exact h.strips j

end State.SafeBut
end Sys2Proof.Machine
end

section
namespace Sys2Proof.Machine

open Sys2Proof

theorem State.takeTouch_calibration (s : State) (i : StripId) : ((s.takeTouch i).strip i).calibration = (s.strip i).calibration := by
  unfold State.takeTouch
  dsimp only
  split <;> simp [Strip.setDrive]

theorem Strip.takeMode_latch {p : Strip} {mode : Mode} (engaged : (p.takeMode mode).latch = true) : mode = .latch ∧ p.touched = true := by
  simpa [Strip.takeMode] using engaged

namespace State.SafeBut

variable {s t : State} {i : StripId} (h : s.SafeBut none)
include h

/-! ## Modes and UNLATCH (R80 to R85) -/

omit h in
/-- A strip that is not PARKED in mode comes to rest where its hand says. -/
theorem enterAtHand (h : s.SafeBeside none i) (unparked : (s.strip i).mode ≠ .parked)
    (latch : (s.strip i).latch = true → (s.strip i).mode = .latch) : (s.enterAtHand i).SafeBut none := by
  unfold State.enterAtHand
  split
  · next touched => exact h.enter_safe nofun nofun ⟨unparked, touched, latch⟩
  · next free => exact h.enter_safe (dest := .idle) nofun nofun ⟨unparked, by simpa using free⟩

/-- What a strip that changes its mode is until its motion state follows. -/
theorem takesMode (mode : Mode) (i : StripId) : (s.modStrip i fun p => p.takeMode mode).SafeBeside none i :=
  (h.beside i).modStrip

theorem toParked (i : StripId) : ((s.modStrip i fun p => p.takeMode .parked).toParked i).SafeBut none := by
  refine (h.takesMode .parked i).enter_safe (dest := .parked) nofun nofun ?_
  rw [State.strip_modStrip_self]
  exact ⟨rfl, rfl⟩

/-- A strip that keeps its motion state at a change of mode is coherent when the state fits the mode. -/
theorem takeMode_stays (mode : Mode) (i : StripId)
    (parked : mode = .parked → (s.strip i).motion = .stalled)
    (unparked : (s.strip i).motion ≠ .parked)
    (active : (s.strip i).motion.active = true → mode.motorised = true)
    (latched : (s.strip i).motion ≠ .latched) : (s.modStrip i fun p => p.takeMode mode).SafeBut none := by
  obtain ⟨⟨-, -, touched, -, -, -, drive, cal, calibrated⟩, hand⟩ := h.strips i
  exact h.modStrip i ⟨⟨.inr ∘ parked, (absurd · unparked), touched, active, (absurd · latched),
    fun engaged => (Strip.takeMode_latch engaged).1, drive, cal, calibrated⟩, hand⟩

theorem toWrite (unstalled : (s.strip i).motion ≠ .stalled) :
    ((s.modStrip i fun p => p.takeMode .write).toWrite i).SafeBut none := by
  have takes := h.takesMode .write i
  have record : (s.modStrip i fun p => p.takeMode .write).strip i = (s.strip i).takeMode .write := State.strip_modStrip_self ..
  have motion : ((s.strip i).takeMode .write).motion = (s.strip i).motion := rfl
  have free : (s.strip i).motion ≠ .touched → (s.strip i).motion ≠ .parked → ((s.modStrip i fun p => p.takeMode .write).enter i .idle).SafeBut none :=
    fun touched parked => takes.enter_safe (dest := .idle) nofun nofun (by
      rw [record]
      exact ⟨nofun, (h.sound i).untouched touched parked unstalled⟩)
  unfold State.toWrite
  rw [record, motion]
  split
  case h_6 =>
    exact enterAtHand takes (by rw [record]; exact nofun) (by rw [record]; exact nofun)
  case h_7 at_ | h_8 at_ =>
    exact h.takeMode_stays .write i nofun (by simp [at_]) (by simp [at_, Motion.active, Motion.driven]) (by simp [at_])
  case h_9 at_ => exact absurd at_ unstalled
  all_goals
    next at_ => exact free (by simp [at_]) (by simp [at_])

/-- The end of a strip's change from PARKED or WRITE: a calibration run owed, and the request (R83). -/
theorem toMotorised (i : StripId) {mode : Mode} (motorised : mode.motorised = true) :
    ((s.modStrip i fun p => p.takeMode mode).toMotorised i).SafeBut none := by
  have record : (s.modStrip i fun p => p.takeMode mode).strip i = (s.strip i).takeMode mode := State.strip_modStrip_self ..
  have atHand := (enterAtHand (h.takesMode mode i) (by rw [record]; exact Mode.ne_parked_of_motorised motorised)
    (by rw [record]; exact fun engaged => (Strip.takeMode_latch engaged).1)).setSpeed i .normal
  unfold State.toMotorised
  dsimp only
  split
  · exact (atHand.recalAtRest i).quiet (.convertShown ..)
  · exact ((atHand.same i (f := fun p => { p with recalPending := true }) {}).recalAtRest i).quiet (.convertShown ..)

omit h in
theorem leaveLatched (h : s.SafeBeside none i) (unparked : (s.strip i).mode ≠ .parked) (free : (s.strip i).touched = false) :
    (s.leaveLatched i).SafeBut none := by
  have given := (h.modStrip (f := fun p => { p with latch := false })).modStrip (f := fun p => { p with speed := .ret })
  refine (given.rest ?_ ?_).quiet (.convertShown ..) <;> simp only [State.strip_modStrip_self]
  · exact unparked
  · exact free

theorem unlatchOf (i : StripId) : (s.unlatchOf i).SafeBut none := by
  have sound := h.sound i
  unfold State.unlatchOf
  split
  · next latched =>
    refine leaveLatched (h.beside i) ?_ (sound.untouched (by simp [latched]) (by simp [latched]) (by simp [latched]))
    rw [sound.latch (sound.latched latched)]
    exact nofun
  · next unlatched =>
    obtain ⟨⟨parked, unparked, touched, active, -, -, drive, cal, calibrated⟩, hand⟩ := h.strips i
    exact h.modStrip i ⟨⟨parked, unparked, touched, active, (absurd · unlatched), nofun, drive, cal, calibrated⟩, hand⟩

theorem betweenMotorised (unstalled : (s.strip i).motion ≠ .stalled) {mode : Mode} (motorised : mode.motorised = true)
    (was : (s.strip i).mode.motorised = true) :
    ((s.modStrip i fun p => p.takeMode mode).betweenMotorised i (s.strip i)).SafeBut none := by
  have sound := h.sound i
  have unparked : (s.strip i).motion ≠ .parked := fun at_ => Mode.ne_parked_of_motorised was (sound.unparked at_)
  unfold State.betweenMotorised
  split
  · next leaves =>
    obtain ⟨-, -, latched⟩ := leaves
    refine leaveLatched (h.takesMode mode i) ?_ ?_ <;> rw [State.strip_modStrip_self]
    · exact Mode.ne_parked_of_motorised motorised
    · exact sound.untouched (by simp [latched]) unparked unstalled
  · next stays =>
    refine h.takeMode_stays mode i (absurd · (Mode.ne_parked_of_motorised motorised)) unparked (fun _ => motorised) ?_
    exact fun latched => stays ⟨sound.latch (sound.latched latched), sound.latched latched, latched⟩

theorem setModeOf (mode : Mode) (i : StripId) : (s.setModeOf mode i).SafeBut none := by
  have motorised : (s.strip i).motion ≠ .stalled → mode.motorised = true → State.SafeBut none
      (if (s.strip i).mode.motorised then (s.modStrip i fun p => p.takeMode mode).betweenMotorised i (s.strip i)
        else (s.modStrip i fun p => p.takeMode mode).toMotorised i) := by
    intro unstalled goes
    split
    · next was => exact h.betweenMotorised unstalled goes was
    · exact h.toMotorised i goes
  unfold State.setModeOf
  dsimp only
  split
  · exact h
  · refine layerLaw.forceLine ?_ i
    split
    · next stalled =>
      exact h.takeMode_stays mode i (fun _ => stalled) (by simp [stalled]) (by simp [stalled, Motion.active, Motion.driven])
        (by simp [stalled])
    · next unstalled =>
      cases mode with
      | parked => exact h.toParked i
      | write => exact h.toWrite unstalled
      | read | touch | latch => exact motorised unstalled rfl

/-! ## CLEAR_FAULT (R166) -/

/-- A strip that leaves STALLED goes where its mode and its hand say, and keeps its calibration record (R166). -/
theorem leaveStalled {t : State} (t_eq : t =
      if (s.strip i).mode = .parked then s.enter i .parked
      else if (s.strip i).touched then (s.enter i .idle).takeTouch i
      else s.enter i .idle) :
    t.SafeBut none ∧ (t.strip i).calibration = (s.strip i).calibration := by
  have beside := h.beside i
  subst t_eq
  split
  · next parked =>
    have latch : (s.strip i).latch = false := by
      cases engaged : (s.strip i).latch with
      | false => rfl
      | true => exact absurd (parked.symm.trans ((h.sound i).latch engaged)) nofun
    exact ⟨beside.enter_safe (dest := .parked) nofun nofun ⟨parked, latch⟩, by simp⟩
  · next unparked =>
    split
    · next touched =>
      refine ⟨(beside.enter (dest := .idle) nofun nofun).takeTouch ?_ ?_ ?_ ?_, ?_⟩
      · simpa using touched
      · rw [State.enter_strip_self]
        exact nofun
      · simp
      · simpa using unparked
      · simp [State.takeTouch_calibration]
    · next free => exact ⟨beside.enter_safe (dest := .idle) nofun nofun ⟨unparked, by simpa using free⟩, by simp⟩

/-- A strip at IDLE that is ready is queued, to move only with valid calibration (R73, R166). -/
theorem joinStart_ready (idle : (s.strip i).motion = .idle) (ready : (s.strip i).ready = true) {u : Purpose}
    (move : u = .move → (s.strip i).calibration.isSome = true) : (s.joinStart i u).SafeBut none := by
  obtain ⟨motorised, free⟩ := Bool.and_eq_true_iff.mp ready
  exact h.joinStart (by simp [idle]) move ⟨motorised, by simpa using free, (h.sound i).latch⟩

theorem clearFaultOf (i : StripId) : (s.clearFaultOf i).SafeBut none := by
  unfold State.clearFaultOf
  split
  · exact h
  · extract_lets t p u w q
    have record : t.strip i = { s.strip i with attempts := 0 } := State.strip_modStrip_self ..
    obtain ⟨left, calibration⟩ := (h.same i (f := fun p => { p with attempts := 0 }) {} : t.SafeBut none).leaveStalled
      (i := i) (t := u) (by rw [record])
    rw [record] at calibration
    have judged : w.SafeBut none ∧ (q.calibration.isSome = true ∨ q.recalPending = true) := by
      simp only [q, w]
      split
      · next valid => exact ⟨left, .inl (by rw [calibration]; exact valid)⟩
      · exact ⟨left.same i {}, .inr (by rw [State.strip_modStrip_self])⟩
    obtain ⟨judged, owed⟩ := judged
    split
    · next rests =>
      obtain ⟨idle, ready⟩ := rests
      split
      · exact judged.joinStart_ready idle ready nofun
      · next settled =>
        split
        · split
          · exact judged
          · exact judged.joinStart_ready idle ready fun _ => owed.resolve_right settled
        · exact judged
    · exact judged

/-! ## SURFACE_RESET (R86) -/

theorem parkStrip (i : StripId) : (s.parkStrip i).SafeBut none := by
  refine layerLaw.forceLine ?_ i
  have entered := (h.beside i).enter (dest := .parked) nofun nofun
  have record : (s.enter i .parked).strip i = (s.strip i).enter .parked s.ctl.time := State.enter_strip_self ..
  refine (entered.modStrip (f := Strip.surfaceReset)).safe ?_
  rw [State.strip_modStrip_self, record]
  constructor
  · constructor <;> simp [Strip.surfaceReset, Strip.enter, Strip.setDrive, Motion.active, Motion.driven]
  · exact nofun

omit h in
/-- A strip is parked, and no other strip's motion state is changed. -/
theorem parkStrip_motion (s : State) (i j : StripId) :
    ((s.parkStrip i).strip j).motion = if j = i then .parked else (s.strip j).motion := by
  unfold State.parkStrip
  split
  · next own =>
    rw [own, State.forceLine_strip_self, State.strip_modStrip_self, State.enter_strip_self]
    rfl
  · next other => rw [State.forceLine_strip_ne _ i other, State.strip_modStrip_ne _ other, State.enter_strip_ne _ other]

omit h in
theorem forStrips_parkStrip_motion (l : List StripId) (s : State) (j : StripId) :
    ((s.forStrips l State.parkStrip).strip j).motion = if j ∈ l then .parked else (s.strip j).motion := by
  induction l generalizing s with
  | nil => rfl
  | cons i l ih =>
    rw [State.forStrips_cons, ih, parkStrip_motion]
    by_cases own : j = i <;> by_cases named : j ∈ l <;> simp [own, named]

theorem reach (n : Nat) : (s.reach n).SafeBut none := h.quiet .of_eq

/-- The start queue and the rails are all that the law says of the drive supervisor. -/
theorem modDrive {f : DriveSup → DriveSup} (queue : (f s.drive).queue = s.drive.queue) (rails : (f s.drive).rails = s.drive.rails) :
    (s.modDrive f).SafeBut none :=
  ⟨h.supervised.congr (fun _ => rfl) (fun _ => id) queue rails, h.strips⟩

/-- All strips are parked, and so the start queue is empty (R86). -/
theorem park : ((s.forStrips allStrips State.parkStrip).modDrive fun d => { d with queue := [] }).SafeBut none := by
  have parked := State.forStrips_induct (P := State.SafeBut none) (f := State.parkStrip) (fun i _ ht => ht.parkStrip i) allStrips h
  have empty : (s.forStrips allStrips State.parkStrip).drive.queue = [] := by
    refine List.eq_nil_iff_forall_not_mem.mpr fun e mem => ?_
    have queued := parked.supervised.queued_of_mem mem
    rw [forStrips_parkStrip_motion, if_pos (show e.strip ∈ allStrips from List.mem_finRange _)] at queued
    cases queued
  generalize s.forStrips allStrips State.parkStrip = u at parked empty
  exact parked.modDrive empty.symm rfl

/-! ## The drive supervisor (R140 to R142, R149) -/

/-- An active strip on an ON rail begins a calibration run (R149, R158). -/
theorem startRun (active : (s.strip i).motion.active = true) (on : s.railOn (groupOf i) = true) (c : CalRun) (d : Int) :
    ((s.enter i .calibrating).modStrip i fun p => { p with cal := some c }.setDrive d).SafeBut none := by
  obtain ⟨motorised, free, latch⟩ := h.of_active active
  have entered := (h.beside i).enter (dest := .calibrating) nofun fun _ => on
  refine (entered.modStrip (f := fun p => { p with cal := some c }.setDrive d)).safe ?_
  rw [State.strip_modStrip_self, State.enter_strip_self]
  exact (Strip.enter_coherent (p := { s.strip i with cal := some c }) (dest := .calibrating)
    ⟨motorised, free, latch, rfl⟩ s.ctl.time).setDrive fun _ => rfl

/-- An entry's strip, granted on an ON rail, moves or begins its run (R149). -/
theorem grantEntry {n : Nat} {e : StartEntry} (mem : e ∈ s.drive.queue) (on : s.railOn (groupOf e.strip) = true) :
    (s.grantEntry n e).SafeBut none := by
  have queued := h.supervised.queued_of_mem mem
  obtain ⟨motorised, free, latch⟩ := h.of_active (i := e.strip) (by rw [queued]; rfl)
  unfold State.grantEntry
  extract_lets t
  have granted : t.SafeBut none := (h.reach (n * Config.us)).modDrive rfl rfl
  have record : t.strip e.strip = s.strip e.strip := rfl
  split
  · next move =>
    exact (granted.enter (dest := .moving) nofun (fun _ => on)
      ⟨motorised, free, latch, h.supervised.starts.2.2 e mem move⟩ free).same _ {}
  · exact granted.startRun (by rw [record, queued]; rfl) on ..

theorem grantOldest : s.grantOldest.SafeBut none := by
  unfold State.grantOldest
  split
  · exact h
  · split
    · next e found =>
      have eligible := List.find?_some found
      simp only [State.eligible, Bool.and_eq_true] at eligible
      exact h.grantEntry (List.mem_of_find?_eq_some found) eligible.1.1.1
    · exact h

theorem setRail {g : GroupId} {r : Rail} (on : s.groupActive g = true → s.railOn g = true → ∃ idle, r = .on idle)
    (off : r = .off → s.groupActive g = false) (idle : ∀ since, r = .on since → (since = none ↔ s.groupActive g = true)) :
    (s.setRail g r).SafeBut none := ⟨h.supervised.setRail on off idle, h.strips⟩

/-- A rail that becomes ON idles exactly when its group is inactive (R140, R142). -/
theorem wake (g : GroupId) (n : Nat) :
    ((s.reach n).setRail g (.on (if (s.reach n).groupActive g then none else some n))).SafeBut none := by
  refine (h.reach n).setRail (fun _ _ => ⟨_, rfl⟩) nofun ?_
  rintro since at_
  cases at_
  split <;> simp_all

theorem idleOff (g : GroupId) : (s.idleOff g).SafeBut none := by
  unfold State.idleOff
  split
  · next start idles =>
    split
    · exact h
    · have inactive : s.groupActive g = false := by
        simpa using h.supervised.rails.2.2 g _ idles
      exact (h.reach _).setRail (fun active => absurd (active.symm.trans inactive) nofun) (fun _ => inactive) nofun
  all_goals exact h

/-! ## Reset (R3) -/

omit h in
theorem fallReset (s : State) : s.fallReset.SafeBut none := by
  have record : ∀ i, s.fallReset.strip i = { Strip.powerOn with rawTouch := (s.strip i).rawTouch } := fun i =>
    Vector.getElem_map ..
  have reset := (State.motionSafe_iff _).mp State.reset_motionSafe
  refine ⟨reset.supervised.congr (fun j => ?_) (fun j => ?_) rfl rfl, fun j => ?_⟩
  · rw [record, State.reset_strip]
  · rw [record, State.reset_strip]
    exact id
  · rw [record]
    exact ((Strip.coherent_iff _).mp Strip.powerOn_coherent).same {}

omit h in
/-- Every work on motion and drive keeps the law of motion. -/
theorem stripLaw : StripLaw (State.SafeBut none) fun _ => True where
  toLayerLaw := layerLaw
  reset := fallReset
  param h p w := ⟨h.supervised.congr (fun _ => rfl) (fun _ => id) rfl rfl, h.strips⟩
  load h _ := ⟨h.supervised.congr (fun _ => rfl) (fun _ => id) rfl rfl, h.strips⟩
  table _ _ := trivial
  arrive h _ i code c := h.arrive i code _ c
  threshold h _ i on code := h.deliverThreshold i on _
  measure h _ i := h.same i {}
  sampleWork := sampleWork
  setRecal := setRecal
  armOnWake := armOnWake
  press := press
  release := release
  setModeOf := setModeOf
  unlatchOf := unlatchOf
  clearFaultOf := clearFaultOf
  park := park
  grant := grantOldest
  wake h _ := h.wake ..
  idleOff := idleOff

end State.SafeBut

/-- Settles O56: the law is one that every work on motion and drive keeps. -/
theorem motionStaysSafe : Obligations.MotionStaysSafe := by
  intro s t safe taken
  rw [State.motionSafe_iff] at safe ⊢
  exact State.SafeBut.stripLaw.step safe taken

end Sys2Proof.Machine
end

section
namespace Sys2Proof.Machine

open Sys2Proof

/-! ## Conversions asked for (R49, R52, R83) -/

namespace State

variable {s t : State} {q : ConvReq} {c : ChanId} {code : Code} {seq : BitVec 8}

/-- A channel's conversion stays carried: no request of its key brings another input. -/
theorem convert_keepsCarried (made : s.convert q = some t) (carries : s.taper.carries c code seq)
    (same : q.work.key = .level c → q.work = .levelToTravel c code seq) : t.taper.carries c code seq := by
  refine carries.imp (fun ⟨x, mem, work⟩ => ?_) (by rw [TaperUnit.hasWaiter, TaperUnit.hasWaiter, State.convert_waiters made]; exact id)
  obtain ⟨-, eq⟩ | ⟨-, -, rfl⟩ := State.convert_cases made
  · rw [← TaperUnit.started_append_unstarted] at mem
    rw [eq]
    obtain started | unstarted := List.mem_append.mp mem
    · exact ⟨x, List.mem_append_left _ started, work⟩
    · refine ⟨q.coalesce x, List.mem_append_right _ (List.mem_map_of_mem unstarted), ?_⟩
      unfold ConvReq.coalesce
      split
      · next key => exact same (by rw [← key, work]; rfl)
      · exact work
  · refine ⟨x, ?_, work⟩
    rw [State.startHead_taper_queue]
    exact List.mem_append_left _ mem

/-- A waiter that joins leaves those that wait (R52). -/
theorem wait_keepsCarried (carries : s.taper.carries c code seq) (w : Waiter) : (s.wait w).taper.carries c code seq := by
  rw [State.wait_taper_eq]
  refine carries.imp id fun waits => ?_
  obtain ⟨x, mem, key⟩ := List.any_eq_true.mp waits
  refine List.any_eq_true.mpr ?_
  simp only [State.wait, State.modTaper_taper]
  split
  · split
    · refine ⟨_, List.mem_map_of_mem mem, ?_⟩
      split
      · rw [x.own_key]
        exact key
      · exact key
    · exact ⟨x, List.mem_append_left _ mem, key⟩
  · exact ⟨x, List.mem_append_left _ mem, key⟩

theorem convertOrWait_keepsCarried (carries : s.taper.carries c code seq) (w : Waiter)
    (same : q.work.key = .level c → q.work = .levelToTravel c code seq) : (s.convertOrWait q w).taper.carries c code seq := by
  unfold State.convertOrWait
  split
  · next made => exact State.convert_keepsCarried made carries same
  · exact State.wait_keepsCarried carries w

/-- In `t`, the conversion of a channel that is SEEN in `s` is asked for, with the code to follow. -/
def asks (s t : State) (c : ChanId) : Prop :=
  ∀ im, (s.chan c).image = some im → t.taper.carries c ((s.chan c).proc.getD im) (s.chan c).seq

theorem convertChannel_asks (s : State) (c : ChanId) (o : Bool) : s.asks (s.convertChannel c o) c := by
  intro im seen
  unfold State.convertChannel
  rw [seen, State.codeToFollow_of_seen seen]
  exact State.convertOrWait_carries ..

theorem convertChannel_keepsAsked (asked : s.asks s c) (d : ChanId) (o : Bool) : s.asks (s.convertChannel d o) c := by
  intro im seen
  unfold State.convertChannel
  split
  · next code seen' follow =>
    refine State.convertOrWait_keepsCarried (asked im seen) _ fun key => ?_
    cases key
    rw [State.codeToFollow_of_seen seen] at follow
    cases follow
    rfl
  · exact asked im seen

end State

/-! ## A work on some strips -/

/-- The strips, their conversions, the drive supervisor and what reports it apart, `t` is as `s`. -/
theorem State.outside_eq {s t : State} (pending : t.pending = s.pending := by simp) (clock : t.clock = s.clock := by simp)
    (inReset : t.inReset = s.inReset := by simp) (strap : t.strap = s.strap := by simp)
    (windows : t.windows = s.windows := by simp) (chans : t.chans = s.chans := by simp)
    (layers : t.layers = s.layers := by simp) (sliceDue : t.sliceDue = s.sliceDue := by simp)
    (meter : t.meter = s.meter := by simp) :
    { t with port := s.port, taper := s.taper, strips := s.strips, drive := s.drive, ctl := s.ctl } = s := by
  cases t
  simp_all

/-- The work from `s` to `t` was done on the strips of `l`: it keeps every other strip with its start queue entries, completes no SYNC, keeps what was
asked for each channel, and changes only the strips, their conversions, the drive supervisor, and what reports it. -/
structure State.WorksOn (l : List StripId) (s t : State) : Prop where
  others : ∀ j, j ∉ l → s.KeepsStrip t j
  rest : { t with port := s.port, taper := s.taper, strips := s.strips, drive := s.drive, ctl := s.ctl } = s
  steady : s.Steady t
  asked : ∀ c, s.asks s c → s.asks t c

namespace State.WorksOn

variable {s t u : State} {l : List StripId} {i : StripId}

theorem frame (h : s.WorksOn l t) :
    t = { s with port := t.port, taper := t.taper, strips := t.strips, drive := t.drive, ctl := t.ctl } :=
  congrArg (fun v : State => { v with port := t.port, taper := t.taper, strips := t.strips, drive := t.drive, ctl := t.ctl }) h.rest

theorem chan (h : s.WorksOn l t) (c : ChanId) : t.chan c = s.chan c := State.chan_congr (congrArg State.chans h.rest) c

theorem refl : s.WorksOn l s := ⟨fun _ _ => .refl, rfl, .of_ctl rfl, fun _ => id⟩

theorem asks_iff (h : s.WorksOn l t) (c : ChanId) : t.asks u c ↔ s.asks u c := by
  unfold State.asks
  rw [h.chan]

theorem trans (h : s.WorksOn l t) (h' : t.WorksOn l u) : s.WorksOn l u where
  others j other := (h.others j other).trans (h'.others j other)
  rest := (congrArg (fun v : State => { v with port := s.port, taper := s.taper, strips := s.strips, drive := s.drive, ctl := s.ctl })
    h'.rest).trans h.rest
  steady := h.steady.trans h'.steady
  asked c asked := (h.asks_iff c).mp (h'.asked c ((h.asks_iff c).mpr (h.asked c asked)))

theorem mono {l' : List StripId} (h : s.WorksOn l t) (sub : l ⊆ l') : s.WorksOn l' t :=
  { h with others := fun j other => h.others j (mt (@sub j) other) }

/-- What leaves the taper unit and the control unit alone. -/
theorem of_strips (others : ∀ j, j ∉ l → s.KeepsStrip t j)
    (rest : { t with port := s.port, taper := s.taper, strips := s.strips, drive := s.drive, ctl := s.ctl } = s)
    (ctl : t.ctl = s.ctl := by simp) (taper : t.taper = s.taper := by simp) : s.WorksOn l t :=
  ⟨others, rest, .of_ctl ctl, fun c asked im seen => by rw [taper]; exact asked im seen⟩

theorem modStrip (i : StripId) (f : Strip → Strip) : s.WorksOn [i] (s.modStrip i f) :=
  of_strips (fun _ other => .modStrip (by simpa using other) f) rfl rfl rfl

theorem enter (i : StripId) (dest : Motion) : s.WorksOn [i] (s.enter i dest) :=
  of_strips (fun _ other => .enter (by simpa using other) dest) State.outside_eq

theorem joinStart (i : StripId) (u : Purpose) : s.WorksOn [i] (s.joinStart i u) :=
  of_strips (fun _ other => .joinStart (by simpa using other) u) State.outside_eq

theorem recalAtRest (i : StripId) : s.WorksOn [i] (s.recalAtRest i) := by
  unfold State.recalAtRest
  dsimp only
  split
  · exact joinStart ..
  · exact refl

/-- A channel's conversion that is asked for is a work on no strip. -/
theorem convertChannel (c : ChanId) (o : Bool) : s.WorksOn l (s.convertChannel c o) :=
  ⟨fun _ _ => .of_eq, State.outside_eq, .of_ctl, fun _ asked => State.convertChannel_keepsAsked asked c o⟩

theorem convertShown (i : StripId) (o : Bool) : s.WorksOn l (s.convertShown i o) := by
  unfold State.convertShown
  split
  · exact convertChannel ..
  · exact refl

theorem forceLine (i : StripId) : s.WorksOn [i] (s.forceLine i) where
  others j other := by
    have other : j ≠ i := by simpa using other
    exact ⟨State.forceLine_strip_ne s i other, by rw [State.forceLine_drive]⟩
  rest := State.outside_eq
  steady := .forceLine s i
  asked c asked im seen := by
    rw [State.forceLine_taper]
    exact asked im seen

/-- The works on each of some strips are a work on them. -/
theorem forStrips {f : StripId → State → State} (works : ∀ i (u : State), u.WorksOn [i] (f i u)) (l : List StripId) (s : State) :
    s.WorksOn l (s.forStrips l f) := by
  induction l generalizing s with
  | nil => exact refl
  | cons i l ih =>
    rw [State.forStrips_cons]
    exact ((works i s).mono (by simp)).trans ((ih (f i s)).mono (by simp))

/-- Among the works on some strips, each once, is the one on a named strip: it comes upon the strip as it was, the others leave the strip, and what it asks for
stays asked for. -/
theorem forStrips_at {f : StripId → State → State} (works : ∀ i (u : State), u.WorksOn [i] (f i u)) (distinct : l.Nodup)
    (mem : i ∈ l) (s : State) :
    ∃ u, s.KeepsStrip u i ∧ (f i u).KeepsStrip (s.forStrips l f) i ∧ ∀ c, u.asks (f i u) c → s.asks (s.forStrips l f) c := by
  obtain ⟨before, after, rfl⟩ := List.append_of_mem mem
  rw [List.nodup_middle, List.nodup_cons] at distinct
  obtain ⟨absent, -⟩ := distinct
  have first := forStrips works before s
  have here := works i (s.forStrips before f)
  have last := forStrips works after (f i (s.forStrips before f))
  rw [State.forStrips_append, State.forStrips_cons]
  refine ⟨s.forStrips before f, ?_, ?_, fun c asks => ?_⟩
  · exact first.others i fun named => absent (List.mem_append_left _ named)
  · exact last.others i fun named => absent (List.mem_append_right _ named)
  · exact (first.asks_iff c).mp ((here.asks_iff c).mp (last.asked c ((here.asks_iff c).mpr asks)))

end State.WorksOn
end Sys2Proof.Machine
end

section
namespace Sys2Proof.Machine

open Sys2Proof

/-! ## The strips a command names (R193) -/

/-- The strip is named by the argument of a command that accepts bit 15. -/
def argNames (arg : BitVec 16) (i : StripId) : Bool := arg.getLsbD 15 || (arg.extractLsb' 0 8).toNat == i.val

/-- The strips named, in strip order. -/
def namedStrips (arg : BitVec 16) : List StripId := (List.finRange 32).filter (argNames arg)

theorem mem_namedStrips {arg : BitVec 16} {i : StripId} : i ∈ namedStrips arg ↔ argNames arg i = true := by
  simp [namedStrips]

theorem namedStrips_nodup (arg : BitVec 16) : (namedStrips arg).Nodup := (List.nodup_finRange 32).filter _

theorem filter_eq_finRange (i : Fin 32) : (List.finRange 32).filter (fun j => i.val == j.val) = [i] := by
  revert i
  decide

/-- Without bit 15 the one strip of bits 7 to 0 is named. -/
theorem namedStrips_of_one {arg : BitVec 16} (one : arg.getLsbD 15 = false) (range : (arg.extractLsb' 0 8).toNat < 32) :
    namedStrips arg = [⟨(arg.extractLsb' 0 8).toNat, range⟩] := by
  have names : argNames arg = fun j : StripId => (⟨_, range⟩ : StripId).val == j.val := by
    funext j
    rw [argNames, one, Bool.false_or]
  rw [namedStrips, names]
  exact filter_eq_finRange _

theorem argStrips_of_names {arg : BitVec 16} (names : arg.getLsbD 15 = true ∨ (arg.extractLsb' 0 8).toNat < 32) :
    argStrips arg = some (namedStrips arg) := by
  unfold argStrips
  split
  · next all =>
    have every : argNames arg = fun _ => true := by
      funext j
      simp [argNames, all]
    rw [namedStrips, every, List.filter_true]
  · next one =>
    have range := names.resolve_left one
    rw [namedStrips_of_one (by simpa using one) range, argStrip, dif_pos (show argField arg 0 8 < 32 from range)]
    rfl

/-! ## Entering a motion state -/

/-- What says where a strip stands, and what it was last told, is as it was. -/
structure Strip.SameLevel (p p' : Strip) : Prop where
  mode : p'.mode = p.mode := by rfl
  shown : p'.shown = p.shown := by rfl
  target : p'.target = p.target := by rfl
  opCode : p'.opCode = p.opCode := by rfl
  lastReadback : p'.lastReadback = p.lastReadback := by rfl
  calibration : p'.calibration = p.calibration := by rfl
  touched : p'.touched = p.touched := by rfl
  m : p'.m = p.m := by rfl

theorem Strip.SameLevel.trans {p p' p'' : Strip} (h : p.SameLevel p') (h' : p'.SameLevel p'') : p.SameLevel p'' :=
  ⟨h'.mode.trans h.mode, h'.shown.trans h.shown, h'.target.trans h.target, h'.opCode.trans h.opCode,
    h'.lastReadback.trans h.lastReadback, h'.calibration.trans h.calibration, h'.touched.trans h.touched, h'.m.trans h.m⟩

theorem Strip.enter_sameLevel (p : Strip) (dest : Motion) (time : BitVec 16) : p.SameLevel (p.enter dest time) := by
  cases dest <;> exact {}

@[simp] theorem Strip.enter_recalPending (p : Strip) (dest : Motion) (time : BitVec 16) :
    (p.enter dest time).recalPending = p.recalPending := by
  cases dest <;> rfl

/-- A strip that a calibration run is owed at rest is QUEUED for it, and any other is left (R157). -/
theorem State.recalAtRest_strip_self (s : State) (i : StripId) :
    (s.recalAtRest i).strip i = if (s.strip i).motion = .idle ∧ (s.strip i).ready ∧ (s.strip i).recalPending
      then (s.strip i).enter .queued s.ctl.time else s.strip i := by
  unfold State.recalAtRest
  dsimp only
  split
  · exact State.joinStart_strip_self ..
  · rfl

/-- A strip that was not QUEUED, and now is, stands in the start queue to calibrate (R144, R157). -/
theorem State.recalAtRest_entry {s : State} {i : StripId} (before : (s.strip i).motion ≠ .queued)
    (after : ((s.recalAtRest i).strip i).motion = .queued) : ⟨i, .calibrate⟩ ∈ (s.recalAtRest i).drive.queue := by
  revert after
  unfold State.recalAtRest
  dsimp only
  split
  · exact fun _ => by simp [State.joinStart_drive_queue]
  · exact fun after => absurd after before

/-- A strip at rest asks for the conversion of the SEEN channel it shows. -/
theorem State.convertShown_asks {s : State} {i : StripId} {c : ChanId} (shown : (s.strip i).shown = some c) (o : Bool) :
    s.asks (s.convertShown i o) c := by
  unfold State.convertShown
  rw [shown]
  exact State.convertChannel_asks s c o

theorem State.convertShown_keepsStrip (s : State) (i j : StripId) (o : Bool) : s.KeepsStrip (s.convertShown i o) j :=
  (State.WorksOn.convertShown (l := []) i o).others j List.not_mem_nil

/-! ## A strip that rests and asks for its channel (R83 to R85, R157) -/

/-- From `s` to `t` a strip is QUEUED if a calibration run is owed to it at rest, and its SEEN channel's conversion is asked for. -/
structure State.RestsAndAsks (i : StripId) (s t : State) : Prop where
  level : (s.strip i).SameLevel (t.strip i)
  latch : (t.strip i).latch = (s.strip i).latch
  speed : (t.strip i).speed = (s.strip i).speed
  recalPending : (t.strip i).recalPending = (s.strip i).recalPending
  drive : (s.strip i).drive = 0 → (t.strip i).drive = 0
  motion : (t.strip i).motion = if (s.strip i).motion = .idle ∧ (s.strip i).ready ∧ (s.strip i).recalPending then .queued
    else (s.strip i).motion
  entry : (s.strip i).motion ≠ .queued → (t.strip i).motion = .queued → ⟨i, .calibrate⟩ ∈ t.drive.queue
  asks : ∀ c, (s.strip i).shown = some c → s.asks t c

theorem State.recalAtRest_sameLevel (s : State) (i : StripId) : (s.strip i).SameLevel ((s.recalAtRest i).strip i) := by
  rw [State.recalAtRest_strip_self]
  split
  · exact Strip.enter_sameLevel ..
  · exact {}

theorem State.restsAndAsks (s : State) (i : StripId) : State.RestsAndAsks i s ((s.recalAtRest i).convertShown i false) := by
  have level := s.recalAtRest_sameLevel i
  have rested := s.recalAtRest_strip_self i
  have kept := (s.recalAtRest i).convertShown_keepsStrip i i false
  refine ⟨?_, ?_, ?_, ?_, ?_, ?_, ?_, ?_⟩
  · rw [kept.record]
    exact level
  · rw [kept.record, rested]
    split <;> rfl
  · rw [kept.record, rested]
    split <;> rfl
  · rw [kept.record, rested]
    split <;> rfl
  · rw [kept.record, rested]
    split
    · exact fun _ => rfl
    · exact id
  · rw [kept.record, rested]
    split <;> rfl
  · rw [kept.record, kept.mem_iff rfl]
    exact State.recalAtRest_entry
  · intro c shown
    exact ((State.WorksOn.recalAtRest i).asks_iff c).mp (State.convertShown_asks (level.shown.trans shown) false)

/-! ## A strip given back to its channel (R84, R85) -/

/-- A strip given back, at IDLE. -/
def State.backAtIdle (s : State) (i : StripId) : State :=
  ((s.modStrip i fun p => { p with latch := false }).setSpeed i .ret).enter i .idle

theorem State.leaveLatched_eq (s : State) (i : StripId) :
    s.leaveLatched i = ((s.backAtIdle i).recalAtRest i).convertShown i false := rfl

theorem State.backAtIdle_worksOn (s : State) (i : StripId) : s.WorksOn [i] (s.backAtIdle i) :=
  ((State.WorksOn.modStrip ..).trans (.modStrip ..)).trans (.enter ..)

theorem State.backAtIdle_strip (s : State) (i : StripId) :
    (s.backAtIdle i).strip i = { s.strip i with latch := false, speed := .ret }.enter .idle s.ctl.time := by
  simp [State.backAtIdle, State.setSpeed]

/-- From `s` to `t` a strip is given back: at rest, or QUEUED for a calibration run owed to it, with speed class RETURN, its channel's conversion asked for. -/
structure State.GivesBack (i : StripId) (s t : State) : Prop where
  level : (s.strip i).SameLevel (t.strip i)
  latch : (t.strip i).latch = false
  speed : (t.strip i).speed = .ret
  drive : (t.strip i).drive = 0
  motion : (t.strip i).motion =
    if (s.strip i).mode.motorised && !(s.strip i).touched && (s.strip i).recalPending then .queued else .idle
  entry : (t.strip i).motion = .queued → ⟨i, .calibrate⟩ ∈ t.drive.queue
  asks : ∀ c, (s.strip i).shown = some c → s.asks t c

theorem State.leaveLatched_givesBack (s : State) (i : StripId) : State.GivesBack i s (s.leaveLatched i) := by
  have idle := s.backAtIdle_strip i
  have works := s.backAtIdle_worksOn i
  obtain ⟨level, latch, speed, -, drive, motion, entry, asks⟩ := (s.backAtIdle i).restsAndAsks i
  rw [← State.leaveLatched_eq, idle] at *
  refine ⟨.trans (.trans (p' := { s.strip i with latch := false, speed := .ret }) {} (Strip.enter_sameLevel ..)) level, latch, speed,
    drive rfl, ?_, entry nofun, fun c shown => (works.asks_iff c).mp (asks c shown)⟩
  rw [motion]
  simp [Strip.ready, Strip.enter, Strip.setDrive, and_assoc]

theorem State.leaveLatched_worksOn (s : State) (i : StripId) : s.WorksOn [i] (s.leaveLatched i) :=
  ((s.backAtIdle_worksOn i).trans (.recalAtRest i)).trans (.convertShown ..)

theorem State.unlatchOf_worksOn (i : StripId) (s : State) : s.WorksOn [i] (s.unlatchOf i) := by
  unfold State.unlatchOf
  split
  · exact s.leaveLatched_worksOn i
  · exact .modStrip ..

end Sys2Proof.Machine
end

section
namespace Sys2Proof.Machine

open Sys2Proof

/-! ## The answer to a command over named strips (R192, R193) -/

section answer

variable {s t : State} {l : List StripId} (h : s.WorksOn l t) (idle : s.ctl.busy = none) (tag : BitVec 8)
include h

theorem State.WorksOn.answer_frame (tag : BitVec 8) (code : ResultCode) (n : BitVec 16) :
    let u := t.writeResult tag code n
    u = { s with port := u.port, taper := u.taper, strips := u.strips, drive := u.drive, ctl := u.ctl } := by
  have answered : { t.writeResult tag code n with
      port := t.port, taper := t.taper, strips := t.strips, drive := t.drive, ctl := t.ctl } = t := State.outside_eq
  intro u
  have outside : { u with port := s.port, taper := s.taper, strips := s.strips, drive := s.drive, ctl := s.ctl } = s :=
    (congrArg (fun v : State => { v with port := s.port, taper := s.taper, strips := s.strips, drive := s.drive, ctl := s.ctl })
      answered).trans h.rest
  exact congrArg (fun v : State => { v with port := u.port, taper := u.taper, strips := u.strips, drive := u.drive, ctl := u.ctl })
    outside

include idle in
/-- With no command in progress, the RESULT word is the command's (R192). -/
theorem State.WorksOn.answer_result (n : BitVec 16) : (t.writeResult tag .done n).ctl.result = n ++ (1#8 ++ tag) := by
  have still : t.ctl.busy = none := by
    rw [(h.steady.stands (by simp [idle])).1]
    exact idle
  rw [State.writeResult_of_idle still, State.putResult_result]
  rfl

end answer

/-- A number of named strips that pass a test, counted over all strips. -/
theorem countP_namedStrips (arg : BitVec 16) (p : StripId → Bool) :
    (namedStrips arg).countP p = (List.finRange 32).countP fun i => argNames arg i && p i := by
  rw [namedStrips, List.countP_filter]
  exact congrArg (List.countP · _) (funext fun i => Bool.and_comm ..)

/-! ## UNLATCH (R85, R196) -/

theorem exec_unlatch {s : State} (run : s.inReset = false) (idle : s.ctl.busy = none) (tag : BitVec 8) (arg : BitVec 16) :
    exec (.unlatch tag arg) s = .next (s.unlatch tag arg) := by
  have taken : s.takeCommand 0x03#8 tag arg = s.unlatch tag arg := by
    simp only [State.takeCommand, idle]
    rfl
  exact (live_running (f := fun s => s.takeCommand 0x03#8 tag arg) run).trans (congrArg _ taken)

theorem State.unlatchOf_unlatched {s : State} {i : StripId} (other : (s.strip i).motion ≠ .latched) :
    s.unlatchOf i = s.modStrip i fun p => { p with latch := false } := if_neg other

theorem State.unlatchOf_latched {s : State} {i : StripId} (latched : (s.strip i).motion = .latched) :
    s.unlatchOf i = s.leaveLatched i := if_pos latched

/-- Settles O31: each named strip is worked on once, on its record as it was, and no other strip's work touches it. -/
theorem unlatchGivesTheStripBack : Obligations.UnlatchGivesTheStripBack := by
  intro tag arg s run idle names named
  have works : s.WorksOn (namedStrips arg) (s.forStrips (namedStrips arg) State.unlatchOf) :=
    .forStrips (fun i u => u.unlatchOf_worksOn i) ..
  have at_ := fun i (mem : named i = true) =>
    State.WorksOn.forStrips_at (fun i u => State.unlatchOf_worksOn i u) (namedStrips_nodup arg) (mem_namedStrips.mpr mem) s
  have unnamed : ∀ i, named i = false → i ∉ namedStrips arg := fun i other mem =>
    absurd ((mem_namedStrips.mp mem).symm.trans other) nofun
  rw [exec_unlatch run idle, State.unlatch, State.forNamed, argStrips_of_names names]
  refine ⟨_, rfl, fun i other => ?_, fun i mem unlatched => ?_, fun i mem latched => ?_, ?_, works.answer_frame ..⟩
  · rw [State.writeResult_strip]
    exact (works.others i (unnamed i other)).record
  · obtain ⟨u, kept, last, _⟩ := at_ i mem
    rw [State.writeResult_strip, last.record, State.unlatchOf_unlatched (by rw [kept.record]; exact unlatched),
      State.strip_modStrip_self, kept.record]
  · obtain ⟨u, kept, last, asked⟩ := at_ i mem
    rw [State.unlatchOf_latched (by rw [kept.record]; exact latched)] at last asked
    obtain ⟨level, latch, speed, drive, motion, entry, asks⟩ := u.leaveLatched_givesBack i
    rw [← last.mem_iff rfl] at entry
    rw [kept.record] at level motion asks
    rw [← last.record] at level latch speed drive motion entry
    rw [State.writeResult_strip, State.writeResult_drive, State.writeResult_taper]
    exact ⟨latch, speed, drive, motion, entry, level.target, level.opCode, fun c im shown seen => asked c (asks c shown) im seen⟩
  · rw [works.answer_result idle, countP_namedStrips]
    rfl

end Sys2Proof.Machine
end

section
namespace Sys2Proof.Machine

open Sys2Proof

/-! ## The start queue when strips are worked on one after the other (R65, R144) -/

/-- What a work on strip `i` does to the start queue: the strip stays as it stood there, its entry leaves with it, or it joins at the tail to calibrate. -/
inductive State.Requeues (i : StripId) (s t : State) : Prop where
  | stays (queue : t.drive.queue = s.drive.queue) (motion : (t.strip i).motion = .queued ↔ (s.strip i).motion = .queued)
  | leaves (queue : t.drive.queue = s.drive.queue.filter fun e => e.strip != i) (was : (s.strip i).motion = .queued)
    (away : (t.strip i).motion ≠ .queued)
  | joins (queue : (s.strip i).motion ≠ .queued → t.drive.queue = s.drive.queue ++ [⟨i, .calibrate⟩])
    (queued : (t.strip i).motion = .queued)

namespace State.Requeues

variable {s t u : State} {i : StripId}

theorem of_eq (queue : t.drive.queue = s.drive.queue) (motion : (t.strip i).motion = (s.strip i).motion) : Requeues i s t :=
  .stays queue (by rw [motion])

/-- A work before that touches neither the queue nor the motion state. -/
theorem after (h : Requeues i s t) (queue : s.drive.queue = u.drive.queue) (motion : (s.strip i).motion = (u.strip i).motion) :
    Requeues i u t := by
  cases h with
  | stays q m => exact .stays (q.trans queue) (by rw [m, motion])
  | leaves q was away => exact .leaves (by rw [q, queue]) (motion ▸ was) away
  | joins q queued => exact .joins (fun was => by rw [q (motion ▸ was), queue]) queued

/-- A work afterwards that touches neither. -/
theorem before (h : Requeues i s t) (queue : u.drive.queue = t.drive.queue) (motion : (u.strip i).motion = (t.strip i).motion) :
    Requeues i s u := by
  cases h with
  | stays q m => exact .stays (queue.trans q) (by rw [motion, m])
  | leaves q was away => exact .leaves (queue.trans q) was (motion ▸ away)
  | joins q queued => exact .joins (fun was => queue.trans (q was)) (motion.trans queued)

theorem enter (s : State) (i : StripId) {dest : Motion} (other : dest ≠ .queued) : Requeues i s (s.enter i dest) := by
  have queue := s.enter_drive_queue i dest
  have away : ((s.enter i dest).strip i).motion ≠ .queued := by simpa using other
  by_cases was : (s.strip i).motion = .queued
  · exact .leaves (by rw [queue, if_pos ⟨was, other⟩]) was away
  · exact .stays (by rw [queue, if_neg fun both => was both.1]) (iff_of_false away was)

theorem recalAtRest (h : Requeues i s t) : Requeues i s (t.recalAtRest i) := by
  unfold State.recalAtRest
  dsimp only
  split
  · next owed =>
    refine .joins (fun was => ?_) (by simp)
    rw [State.joinStart_drive_queue]
    cases h with
    | stays queue _ => rw [queue]
    | leaves _ queued _ => exact absurd queued was
    | joins _ queued => exact absurd (owed.1.symm.trans queued) nofun
  · exact h

theorem convertShown (h : Requeues i s t) (o : Bool) : Requeues i s (t.convertShown i o) := by
  have quiet := State.Quiet.convertShown t i o
  exact h.before (by rw [quiet.drive]) (by rw [State.strip_congr quiet.strips])

theorem forceLine (h : Requeues i s t) : Requeues i s (t.forceLine i) :=
  h.before (by rw [State.forceLine_drive]) (by rw [State.forceLine_strip_self])

/-- A strip that leaves QUEUED has no entry any more. -/
theorem no_entry (h : Requeues i s t) (was : (s.strip i).motion = .queued) (away : (t.strip i).motion ≠ .queued) :
    ∀ e ∈ t.drive.queue, e.strip ≠ i := by
  cases h with
  | stays _ motion => exact absurd (motion.mpr was) away
  | leaves queue _ _ =>
    intro e mem
    rw [queue] at mem
    simpa using (List.mem_filter.mp mem).2
  | joins _ queued => exact absurd queued away

/-- The strips of the queue, when every entry's strip was QUEUED and a strip that stays QUEUED keeps its place. -/
theorem names (h : Requeues i s t) (only : ∀ e ∈ s.drive.queue, (s.strip e.strip).motion = .queued)
    (place : (s.strip i).motion = .queued → (t.strip i).motion = .queued → t.drive.queue = s.drive.queue) :
    t.drive.queue.map StartEntry.strip =
      (s.drive.queue.map StartEntry.strip).filter (fun j => j != i || (t.strip i).motion == .queued) ++
        if (t.strip i).motion = .queued ∧ (s.strip i).motion ≠ .queued then [i] else [] := by
  have none_else : (s.strip i).motion ≠ .queued →
      (s.drive.queue.map StartEntry.strip).filter (fun j => j != i || (t.strip i).motion == .queued) =
        s.drive.queue.map StartEntry.strip := by
    intro was
    refine List.filter_eq_self.mpr fun j mem => ?_
    obtain ⟨e, stands, rfl⟩ := List.mem_map.mp mem
    have other : e.strip ≠ i := fun own => was (own ▸ only e stands)
    simp [other]
  by_cases was : (s.strip i).motion = .queued <;> by_cases now : (t.strip i).motion = .queued
  · rw [place was now]
    simp [was, now]
  · cases h with
    | stays _ motion => exact absurd (motion.mpr was) now
    | leaves queue _ _ =>
      rw [queue, if_neg fun both => now both.1, List.append_nil, List.filter_map]
      congr 1
      refine List.filter_congr fun e _ => ?_
      simp [now]
    | joins _ queued => exact absurd queued now
  · cases h with
    | stays _ motion => exact absurd (motion.mp now) was
    | leaves _ queued _ => exact absurd queued was
    | joins queue _ => rw [queue was, none_else was, if_pos ⟨now, was⟩, List.map_append, List.map_singleton]
  · cases h with
    | stays queue _ => rw [queue, none_else was, if_neg fun both => now both.1, List.append_nil]
    | leaves _ queued _ => exact absurd queued was
    | joins _ queued => exact absurd queued now

end State.Requeues

/-- After works on some coherent strips, each once, the start queue holds those of its strips that are still QUEUED, and then the newly queued ones in the order
of the works. -/
theorem State.forStrips_names {f : StripId → State → State} (works : ∀ i (u : State), u.WorksOn [i] (f i u))
    (requeues : ∀ i u, State.Requeues i u (f i u))
    (place : ∀ i (u : State), (u.strip i).coherent → (u.strip i).motion = .queued → ((f i u).strip i).motion = .queued →
      (f i u).drive.queue = u.drive.queue)
    {l : List StripId} (distinct : l.Nodup) {s : State} (only : ∀ e ∈ s.drive.queue, (s.strip e.strip).motion = .queued)
    (coherent : ∀ i ∈ l, (s.strip i).coherent) :
    let t := s.forStrips l f
    t.drive.queue.map StartEntry.strip =
      (s.drive.queue.map StartEntry.strip).filter (fun i => (t.strip i).motion == .queued) ++
        l.filter fun i => (t.strip i).motion == .queued && (s.strip i).motion != .queued := by
  induction l generalizing s with
  | nil =>
    have all : (s.drive.queue.map StartEntry.strip).filter (fun i => (s.strip i).motion == .queued) =
        s.drive.queue.map StartEntry.strip := by
      refine List.filter_eq_self.mpr fun j mem => ?_
      obtain ⟨e, stands, rfl⟩ := List.mem_map.mp mem
      simpa using only e stands
    simp [State.forStrips, all]
  | cons i l ih =>
    obtain ⟨absent, distinct⟩ := List.nodup_cons.mp distinct
    have here := works i s
    have names := (requeues i s).names only (place i s (coherent i List.mem_cons_self))
    have record : ∀ j, j ≠ i → (f i s).strip j = s.strip j := fun j other => (here.others j (by simpa using other)).record
    have later : ∀ j ∈ l, j ≠ i := fun j mem own => absent (own ▸ mem)
    have only_then : ∀ e ∈ (f i s).drive.queue, ((f i s).strip e.strip).motion = .queued := by
      intro e mem
      have stands : e.strip ∈ (f i s).drive.queue.map StartEntry.strip := List.mem_map_of_mem mem
      rw [names] at stands
      by_cases own : e.strip = i
      · obtain old | new := List.mem_append.mp stands
        · simpa [own] using (List.mem_filter.mp old).2
        · split at new
          · next joined => rw [own, joined.1]
          · cases new
      · obtain old | new := List.mem_append.mp stands
        · obtain ⟨e', stood, same⟩ := List.mem_map.mp (List.mem_filter.mp old).1
          rw [record _ own, ← same, only e' stood]
        · split at new
          · exact absurd (List.mem_singleton.mp new) own
          · cases new
    have kept : (((f i s).forStrips l f).strip i).motion = ((f i s).strip i).motion := by
      rw [((State.WorksOn.forStrips works l (f i s)).others i absent).record]
    have rest := ih distinct only_then fun j mem => by
      rw [record j (later j mem)]
      exact coherent j (List.mem_cons_of_mem _ mem)
    rw [State.forStrips_cons]
    dsimp only at rest ⊢
    generalize (f i s).forStrips l f = t at rest kept ⊢
    rw [rest, names, List.filter_append, List.filter_filter, List.append_assoc]
    congr 1
    · refine List.filter_congr fun j _ => ?_
      by_cases own : j = i
      · simp [own, kept]
      · simp [own]
    · have others : l.filter (fun j => (t.strip j).motion == .queued && ((f i s).strip j).motion != .queued) =
          l.filter fun j => (t.strip j).motion == .queued && (s.strip j).motion != .queued :=
        List.filter_congr fun j mem => by rw [record j (later j mem)]
      rw [others, List.filter_cons]
      split
      · next joined => simp [kept, joined.1, joined.2]
      · next other =>
        have not : ¬ ((t.strip i).motion == .queued && (s.strip i).motion != .queued) = true := by
          simpa [kept] using other
        rw [if_neg not, List.filter_nil, List.nil_append]

end Sys2Proof.Machine
end

section
namespace Sys2Proof.Machine

open Sys2Proof

/-! ## One strip's change of mode (R80 to R84) -/

/-- From `s` to `t` strip `i` takes a mode, and with it the latch (R80); where it stands else is as it was. -/
structure State.TakesMode (m : Mode) (i : StripId) (s t : State) : Prop where
  level : ((s.strip i).takeMode m).SameLevel (t.strip i)
  latch : (t.strip i).latch = (m == .latch && (s.strip i).touched)
  requeues : State.Requeues i s t

/-- From `s` to `t` strip `i` keeps its motion state and its drive, and the drive supervisor and the taper unit are left alone. -/
structure State.KeepsMotion (i : StripId) (s t : State) : Prop where
  motion : (t.strip i).motion = (s.strip i).motion
  drive : (t.strip i).drive = (s.strip i).drive
  supervisor : t.drive = s.drive
  taper : t.taper = s.taper

/-- What a strip is asked for that leaves PARKED or WRITE (R83). -/
structure State.ComesToHand (i : StripId) (s t : State) : Prop where
  speed : (t.strip i).speed = .normal
  recalPending : (t.strip i).recalPending = ((s.strip i).recalPending || (s.strip i).calibration.isNone)
  motion : (t.strip i).motion = if (s.strip i).touched then .touched else if (t.strip i).recalPending then .queued else .idle
  entry : (t.strip i).motion = .queued → ⟨i, .calibrate⟩ ∈ t.drive.queue
  asks : ∀ c, (s.strip i).shown = some c → s.asks t c

section

variable {m : Mode} {i : StripId} {s t : State}

theorem State.takeMode_strip (m : Mode) (i : StripId) (s : State) :
    (s.modStrip i fun p => p.takeMode m).strip i = (s.strip i).takeMode m := State.strip_modStrip_self ..

theorem State.takeMode_takesMode (m : Mode) (i : StripId) (s : State) :
    State.TakesMode m i s (s.modStrip i fun p => p.takeMode m) := by
  have record := s.takeMode_strip m i
  exact ⟨by rw [record]; exact {}, by rw [record]; rfl, .of_eq rfl (by rw [record]; rfl)⟩

theorem State.takeMode_keepsMotion (m : Mode) (i : StripId) (s : State) :
    State.KeepsMotion i s (s.modStrip i fun p => p.takeMode m) := by
  have record := s.takeMode_strip m i
  exact ⟨by rw [record]; rfl, by rw [record]; rfl, rfl, rfl⟩

/-- A strip that takes a mode enters a state; IDLE drops the latch, which a strip only enters untouched or in another mode than LATCH. -/
theorem State.takeMode_enter {dest : Motion} (other : dest ≠ .queued)
    (latch : dest = .idle → (m == .latch && (s.strip i).touched) = false) :
    State.TakesMode m i s ((s.modStrip i fun p => p.takeMode m).enter i dest) := by
  have record := s.takeMode_strip m i
  refine ⟨?_, ?_, (State.Requeues.enter _ i other).after rfl (by rw [record]; rfl)⟩
  · rw [State.enter_strip_self, record]
    exact Strip.enter_sameLevel ..
  · rw [State.enter_strip_self, record]
    cases dest with
    | idle => exact (latch rfl).symm
    | _ => rfl

/-! ## To a motorised mode (R83, R84) -/

/-- The state in which a strip comes to rest, by its hand (R82, R83). -/
def Strip.atHand (p : Strip) : Motion := if p.touched then .touched else .idle

theorem Strip.atHand_ne_queued (p : Strip) : p.atHand ≠ .queued := by
  unfold Strip.atHand
  split <;> exact nofun

theorem State.enterAtHand_eq (s : State) (i : StripId) : s.enterAtHand i = s.enter i (s.strip i).atHand := by
  unfold State.enterAtHand Strip.atHand
  split <;> rfl

/-- The record of a strip at hand with speed class NORMAL that owes a calibration run if its calibration record is invalid. -/
def Strip.owing (p : Strip) (time : BitVec 16) : Strip :=
  { p.enter p.atHand time with speed := .normal, recalPending := p.recalPending || p.calibration.isNone }

theorem Strip.owing_sameLevel (p : Strip) (time : BitVec 16) : p.SameLevel (p.owing time) :=
  .trans (Strip.enter_sameLevel p p.atHand time) {}

theorem Strip.owing_latch (p : Strip) (time : BitVec 16) : (p.owing time).latch = (p.latch && p.touched) := by
  unfold Strip.owing Strip.atHand
  split
  · next touched => simp [Strip.enter, Strip.setDrive, touched]
  · next free => simp [Strip.enter, Strip.setDrive, free]

theorem Strip.owing_motion (p : Strip) (time : BitVec 16) : (p.owing time).motion = p.atHand := Strip.enter_motion ..

/-- A strip that stands at hand, before the calibration run it may owe (R83). -/
def State.atHandOwing (s : State) (i : StripId) : State :=
  let t := (s.enterAtHand i).setSpeed i .normal
  if (t.strip i).calibration.isSome then t else t.modStrip i fun p => { p with recalPending := true }

theorem State.toMotorised_eq (s : State) (i : StripId) :
    s.toMotorised i = ((s.atHandOwing i).recalAtRest i).convertShown i false := rfl

theorem State.atHandOwing_strip (s : State) (i : StripId) : (s.atHandOwing i).strip i = (s.strip i).owing s.ctl.time := by
  unfold State.atHandOwing
  rw [State.enterAtHand_eq]
  dsimp only [State.setSpeed]
  split
  · next valid =>
    have valid : (s.strip i).calibration.isNone = false := by simpa using valid
    simp [Strip.owing, valid]
  · next invalid =>
    have invalid : (s.strip i).calibration.isNone = true := by simpa using invalid
    simp [Strip.owing, invalid]

theorem State.atHandOwing_drive (s : State) (i : StripId) : (s.atHandOwing i).drive = (s.enter i (s.strip i).atHand).drive := by
  unfold State.atHandOwing
  rw [State.enterAtHand_eq]
  dsimp only [State.setSpeed]
  split <;> rfl

theorem State.atHandOwing_worksOn (s : State) (i : StripId) : s.WorksOn [i] (s.atHandOwing i) := by
  unfold State.atHandOwing
  rw [State.enterAtHand_eq]
  dsimp only
  split
  · exact (State.WorksOn.enter ..).trans (.modStrip ..)
  · exact ((State.WorksOn.enter ..).trans (.modStrip ..)).trans (.modStrip ..)

theorem State.atHandOwing_requeues (s : State) (i : StripId) : State.Requeues i s (s.atHandOwing i) :=
  (State.Requeues.enter s i (Strip.atHand_ne_queued _)).before (by rw [State.atHandOwing_drive])
    (by rw [State.atHandOwing_strip, Strip.owing_motion, State.enter_strip_self, Strip.enter_motion])

/-- A strip that comes to hand in a motorised mode. -/
theorem State.toMotorised_comesToHand (motorised : (s.strip i).mode.motorised = true) :
    (s.strip i).SameLevel ((s.toMotorised i).strip i) ∧ ((s.toMotorised i).strip i).latch = ((s.strip i).latch && (s.strip i).touched) ∧
    State.Requeues i s (s.toMotorised i) ∧ State.ComesToHand i s (s.toMotorised i) := by
  have owing := s.atHandOwing_strip i
  have works := s.atHandOwing_worksOn i
  have level := (s.strip i).owing_sameLevel s.ctl.time
  have latch := (s.strip i).owing_latch s.ctl.time
  have at_ := (s.strip i).owing_motion s.ctl.time
  obtain ⟨kept, latched, speed, recal, -, motion, entry, asks⟩ := (s.atHandOwing i).restsAndAsks i
  rw [← State.toMotorised_eq, owing] at *
  refine ⟨level.trans kept, latched.trans latch, ((s.atHandOwing_requeues i).recalAtRest).convertShown false, speed, recal, ?_,
    entry (at_ ▸ Strip.atHand_ne_queued _), fun c shown => (works.asks_iff c).mp (asks c (level.shown.trans shown))⟩
  have ready : ((s.strip i).owing s.ctl.time).ready = !(s.strip i).touched := by
    rw [Strip.ready, level.mode, level.touched, motorised, Bool.true_and]
  rw [motion, recal, at_, ready]
  unfold Strip.atHand
  cases (s.strip i).touched <;> simp

theorem State.toMotorised_takes (motorised : m.motorised = true) :
    State.TakesMode m i s ((s.modStrip i fun p => p.takeMode m).toMotorised i) ∧
    State.ComesToHand i s ((s.modStrip i fun p => p.takeMode m).toMotorised i) := by
  have record := s.takeMode_strip m i
  obtain ⟨level, latch, requeues, speed, recal, motion, entry, asks⟩ :=
    State.toMotorised_comesToHand (s := s.modStrip i fun p => p.takeMode m) (i := i) (by rw [record]; exact motorised)
  rw [record] at level latch recal motion asks
  refine ⟨⟨level, latch.trans ?_, requeues.after rfl (by rw [record]; rfl)⟩, speed, recal, motion, entry, asks⟩
  simp [Strip.takeMode]

theorem State.leaveLatched_requeues (s : State) (i : StripId) : State.Requeues i s (s.leaveLatched i) := by
  rw [State.leaveLatched_eq]
  refine (State.Requeues.recalAtRest ?_).convertShown false
  exact (State.Requeues.enter _ i (dest := .idle) nofun).after rfl (by simp [State.setSpeed])

/-- A LATCHED strip that takes another motorised mode is given back; what it was LATCHED for, its touch is not accepted there (R84). -/
theorem State.leaveLatched_takes (other : (m == .latch && (s.strip i).touched) = false) :
    State.TakesMode m i s ((s.modStrip i fun p => p.takeMode m).leaveLatched i) := by
  have record := s.takeMode_strip m i
  have back := (s.modStrip i fun p => p.takeMode m).leaveLatched_givesBack i
  have level := back.level
  rw [record] at level
  exact ⟨level, back.latch.trans other.symm, (State.leaveLatched_requeues _ i).after rfl (by rw [record]; rfl)⟩

/-! ## To PARKED and to WRITE (R81, R82) -/

theorem State.toWrite_parked (parked : (s.strip i).motion = .parked) : s.toWrite i = s.enter i (s.strip i).atHand := by
  unfold State.toWrite
  rw [parked, ← State.enterAtHand_eq]

theorem State.toWrite_active (moves : (s.strip i).motion.active = true ∨ (s.strip i).motion = .latched) :
    s.toWrite i = s.enter i .idle := by
  unfold State.toWrite
  split
  case h_6 at_ | h_7 at_ | h_8 at_ | h_9 at_ => simp [at_, Motion.active, Motion.driven] at moves
  all_goals rfl

theorem State.toWrite_rests (rests : (s.strip i).motion = .idle ∨ (s.strip i).motion = .touched ∨ (s.strip i).motion = .stalled) :
    s.toWrite i = s := by
  unfold State.toWrite
  obtain at_ | at_ | at_ := rests <;> rw [at_]

theorem Motion.toWrite_cases (k : Motion) : k = .parked ∨ (k.active = true ∨ k = .latched) ∨ k = .idle ∨ k = .touched ∨ k = .stalled := by
  cases k <;> decide

theorem State.toWrite_takes (i : StripId) (s : State) :
    State.TakesMode .write i s ((s.modStrip i fun p => p.takeMode .write).toWrite i) := by
  have motion : ((s.modStrip i fun p => p.takeMode .write).strip i).motion = (s.strip i).motion := by
    rw [State.takeMode_strip]
    rfl
  obtain parked | moves | rests := (s.strip i).motion.toWrite_cases
  · rw [State.toWrite_parked (motion.trans parked)]
    exact State.takeMode_enter (Strip.atHand_ne_queued _) fun _ => rfl
  · rw [State.toWrite_active (by rw [motion]; exact moves)]
    exact State.takeMode_enter nofun fun _ => rfl
  · rw [State.toWrite_rests (by rw [motion]; exact rests)]
    exact s.takeMode_takesMode .write i

/-! ## Every pair of modes -/

/-- The change of one strip's mode, but for its line (R80 to R84). -/
def State.modeChange (m : Mode) (i : StripId) (s : State) : State :=
  let t := s.modStrip i fun p => p.takeMode m
  if (s.strip i).motion = .stalled then t
  else
    match m with
    | .parked => t.toParked i
    | .write => t.toWrite i
    | .read => if (s.strip i).mode.motorised then t.betweenMotorised i (s.strip i) else t.toMotorised i
    | .touch => if (s.strip i).mode.motorised then t.betweenMotorised i (s.strip i) else t.toMotorised i
    | .latch => if (s.strip i).mode.motorised then t.betweenMotorised i (s.strip i) else t.toMotorised i

theorem State.setModeOf_same (same : (s.strip i).mode = m) : s.setModeOf m i = s := if_pos same

theorem State.setModeOf_other (other : (s.strip i).mode ≠ m) : s.setModeOf m i = (s.modeChange m i).forceLine i := if_neg other

theorem State.modeChange_stalled (stalled : (s.strip i).motion = .stalled) :
    s.modeChange m i = s.modStrip i fun p => p.takeMode m := if_pos stalled

section unstalled

variable (unstalled : (s.strip i).motion ≠ .stalled)
include unstalled

theorem State.modeChange_parked : s.modeChange .parked i = (s.modStrip i fun p => p.takeMode .parked).enter i .parked := if_neg unstalled

theorem State.modeChange_write : s.modeChange .write i = (s.modStrip i fun p => p.takeMode .write).toWrite i := if_neg unstalled

theorem State.modeChange_motorised (motorised : m.motorised = true) : s.modeChange m i =
    if (s.strip i).mode.motorised then (s.modStrip i fun p => p.takeMode m).betweenMotorised i (s.strip i)
    else (s.modStrip i fun p => p.takeMode m).toMotorised i := by
  cases m with
  | parked | write => cases motorised
  | read | touch | latch => exact if_neg unstalled

theorem State.modeChange_toMotorised (motorised : m.motorised = true) (was : (s.strip i).mode.motorised = false) :
    s.modeChange m i = (s.modStrip i fun p => p.takeMode m).toMotorised i := by
  rw [State.modeChange_motorised unstalled motorised, was, if_neg Bool.false_ne_true]

/-- Between motorised modes, a strip given up by its latch is given back (R84). -/
theorem State.modeChange_leaves (motorised : m.motorised = true) (was : (s.strip i).mode.motorised = true)
    (leaves : (s.strip i).mode = .latch ∧ (s.strip i).latch = true ∧ (s.strip i).motion = .latched) :
    s.modeChange m i = (s.modStrip i fun p => p.takeMode m).leaveLatched i := by
  rw [State.modeChange_motorised unstalled motorised, if_pos was, State.betweenMotorised, if_pos leaves]

theorem State.modeChange_stays (motorised : m.motorised = true) (was : (s.strip i).mode.motorised = true)
    (stays : ¬ ((s.strip i).mode = .latch ∧ (s.strip i).latch = true ∧ (s.strip i).motion = .latched)) :
    s.modeChange m i = s.modStrip i fun p => p.takeMode m := by
  rw [State.modeChange_motorised unstalled motorised, if_pos was, State.betweenMotorised, if_neg stays]

end unstalled

/-- Whatever the pair of modes, the strip takes the mode and the latch. -/
theorem State.modeChange_takes (other : (s.strip i).mode ≠ m) : State.TakesMode m i s (s.modeChange m i) := by
  have record := s.takeMode_strip m i
  by_cases stalled : (s.strip i).motion = .stalled
  · rw [State.modeChange_stalled stalled]
    exact s.takeMode_takesMode m i
  · by_cases motorised : m.motorised = true
    · cases was : (s.strip i).mode.motorised with
      | false =>
        rw [State.modeChange_toMotorised stalled motorised was]
        exact (State.toMotorised_takes motorised).1
      | true =>
        by_cases leaves : (s.strip i).mode = .latch ∧ (s.strip i).latch = true ∧ (s.strip i).motion = .latched
        · rw [State.modeChange_leaves stalled motorised was leaves]
          refine State.leaveLatched_takes ?_
          rw [beq_false_of_ne fun same => other (leaves.1.trans same.symm), Bool.false_and]
        · rw [State.modeChange_stays stalled motorised was leaves]
          exact s.takeMode_takesMode m i
    · cases m with
      | read | touch | latch => exact absurd rfl motorised
      | parked =>
        rw [State.modeChange_parked stalled]
        exact State.takeMode_enter nofun nofun
      | write =>
        rw [State.modeChange_write stalled]
        exact s.toWrite_takes i

theorem State.toWrite_worksOn (s : State) (i : StripId) : s.WorksOn [i] (s.toWrite i) := by
  obtain parked | moves | rests := (s.strip i).motion.toWrite_cases
  · rw [State.toWrite_parked parked]
    exact .enter ..
  · rw [State.toWrite_active moves]
    exact .enter ..
  · rw [State.toWrite_rests rests]
    exact .refl

theorem State.modeChange_worksOn (m : Mode) (i : StripId) (s : State) : s.WorksOn [i] (s.modeChange m i) := by
  have taken : s.WorksOn [i] (s.modStrip i fun p => p.takeMode m) := .modStrip ..
  by_cases stalled : (s.strip i).motion = .stalled
  · rw [State.modeChange_stalled stalled]
    exact taken
  · by_cases motorised : m.motorised = true
    · rw [State.modeChange_motorised stalled motorised, State.betweenMotorised]
      split
      · split
        · exact taken.trans (State.leaveLatched_worksOn ..)
        · exact taken
      · rw [State.toMotorised_eq]
        exact taken.trans (((State.atHandOwing_worksOn ..).trans (.recalAtRest i)).trans (.convertShown ..))
    · cases m with
      | read | touch | latch => exact absurd rfl motorised
      | parked =>
        rw [State.modeChange_parked stalled]
        exact taken.trans (.enter ..)
      | write =>
        rw [State.modeChange_write stalled]
        exact taken.trans (State.toWrite_worksOn ..)

theorem State.setModeOf_worksOn (m : Mode) (i : StripId) (s : State) : s.WorksOn [i] (s.setModeOf m i) := by
  by_cases other : (s.strip i).mode = m
  · rw [State.setModeOf_same other]
    exact .refl
  · rw [State.setModeOf_other other]
    exact (s.modeChange_worksOn m i).trans (.forceLine i)

theorem State.setModeOf_requeues (m : Mode) (i : StripId) (s : State) : State.Requeues i s (s.setModeOf m i) := by
  by_cases other : (s.strip i).mode = m
  · rw [State.setModeOf_same other]
    exact .of_eq rfl rfl
  · rw [State.setModeOf_other other]
    exact (State.modeChange_takes other).requeues.forceLine

/-- A coherent strip that stays QUEUED keeps its place in the start queue. -/
theorem State.setModeOf_place (m : Mode) (coherent : (s.strip i).coherent) (was : (s.strip i).motion = .queued)
    (now : ((s.setModeOf m i).strip i).motion = .queued) : (s.setModeOf m i).drive.queue = s.drive.queue := by
  by_cases other : (s.strip i).mode = m
  · rw [State.setModeOf_same other]
  · have motion : ((s.modStrip i fun p => p.takeMode m).strip i).motion = .queued := by
      rw [State.takeMode_strip]
      exact was
    have unstalled : (s.strip i).motion ≠ .stalled := by simp [was]
    have motorised := ((Strip.coherent_iff _).mp coherent).sound.active (by rw [was]; rfl)
    rw [State.setModeOf_other other] at now ⊢
    rw [State.forceLine_strip_self] at now
    rw [State.forceLine_drive]
    cases m with
    | parked =>
      rw [State.modeChange_parked unstalled, State.enter_strip_self] at now
      exact absurd now (by simp)
    | write =>
      rw [State.modeChange_write unstalled, State.toWrite_active (by rw [motion]; exact .inl rfl), State.enter_strip_self] at now
      exact absurd now (by simp)
    | read | touch | latch =>
      rw [State.modeChange_stays unstalled rfl motorised fun leaves => absurd (was.symm.trans leaves.2.2) nofun]
      rfl

end

/-! ## SET_MODE (R195) -/

theorem modeOfCode_code (m : Mode) : modeOfCode m.code = some m := by
  cases m <;> rfl

theorem exec_setMode {s : State} (run : s.inReset = false) (idle : s.ctl.busy = none) (tag : BitVec 8) (arg : BitVec 16) :
    exec (.setMode tag arg) s = .next (s.setMode tag arg) := by
  have taken : s.takeCommand 0x02#8 tag arg = s.setMode tag arg := by
    simp only [State.takeCommand, idle]
    rfl
  exact (live_running (f := fun s => s.takeCommand 0x02#8 tag arg) run).trans (congrArg _ taken)

theorem State.setMode_of_names {arg : BitVec 16} (names : arg.getLsbD 15 = true ∨ (arg.extractLsb' 0 8).toNat < 32) {m : Mode}
    (mode : (arg.extractLsb' 8 3).toNat = m.code) (s : State) (tag : BitVec 8) :
    s.setMode tag arg = (s.forStrips (namedStrips arg) (State.setModeOf m)).writeResult tag .done
      (field16 ((List.finRange 32).countP fun i => argNames arg i && (s.strip i).mode != m)) := by
  rw [State.setMode, argStrips_of_names names, show argField arg 8 3 = m.code from mode, modeOfCode_code]
  dsimp only
  rw [countP_namedStrips]

/-- Works that all leave the state alone leave it alone. -/
theorem State.forStrips_eq_self {f : StripId → State → State} {l : List StripId} {s : State} (same : ∀ i ∈ l, f i s = s) :
    s.forStrips l f = s := by
  induction l with
  | nil => rfl
  | cons i l ih =>
    rw [State.forStrips_cons, same i List.mem_cons_self]
    exact ih fun j mem => same j (List.mem_cons_of_mem _ mem)

end Sys2Proof.Machine
end

section
namespace Sys2Proof.Machine

open Sys2Proof

/-! ## One strip's change of mode among the others' -/

/-- In the works from `s` to `t`, strip `i`'s mode is changed in `u`, where the strip stands as in `s`; from there to `t` only its line is forced, and what was
asked for stays so. -/
structure State.ModeWork (m : Mode) (i : StripId) (s u t : State) : Prop where
  came : u.strip i = s.strip i
  differs : (s.strip i).mode ≠ m
  record : t.strip i = { (u.modeChange m i).strip i with
    line := ((u.modeChange m i).strip i).line && !((u.modeChange m i).strip i).forcedOff }
  stood : ∀ e, e.strip = i → (e ∈ u.drive.queue ↔ e ∈ s.drive.queue)
  stands : ∀ e, e.strip = i → (e ∈ t.drive.queue ↔ e ∈ (u.modeChange m i).drive.queue)
  asked : ∀ c, u.asks (u.modeChange m i) c → s.asks t c

/-- A strip keeps its motion state at a change of mode when it is STALLED, and between motorised modes when it is not LATCHED by its latch (R80, R84). -/
def Strip.staysAt (p : Strip) (m : Mode) : Prop :=
  p.motion = .stalled ∨
    (m.motorised = true ∧ p.mode.motorised = true ∧ ¬ (p.mode = .latch ∧ p.latch = true ∧ p.motion = .latched))

theorem State.modeChange_keepsMotion {m : Mode} {i : StripId} {s : State} (stays : (s.strip i).staysAt m) :
    State.KeepsMotion i s (s.modeChange m i) := by
  have kept := s.takeMode_keepsMotion m i
  by_cases stalled : (s.strip i).motion = .stalled
  · rw [State.modeChange_stalled stalled]
    exact kept
  · obtain ⟨motorised, was, stays⟩ := stays.resolve_left stalled
    rw [State.modeChange_stays stalled motorised was stays]
    exact kept

namespace State.ModeWork

variable {m : Mode} {i : StripId} {s u t : State} (h : State.ModeWork m i s u t)
include h

theorem takes : State.TakesMode m i u (u.modeChange m i) := State.modeChange_takes (h.came ▸ h.differs)

theorem level : ((s.strip i).takeMode m).SameLevel (t.strip i) := by
  have level := h.takes.level
  rw [h.came] at level
  rw [h.record]
  exact level.trans {}

theorem latch : (t.strip i).latch = (m == .latch && (s.strip i).touched) := by
  have latch := h.takes.latch
  rw [h.came] at latch
  rw [h.record]
  exact latch

/-- A PARKED strip's line is forced OFF (R136). -/
theorem line (parked : m = .parked) : (t.strip i).line = false := by
  have mode : ((u.modeChange m i).strip i).mode = .parked := h.takes.level.mode.trans parked
  rw [h.record]
  simp [Strip.forcedOff, mode]

theorem keeps (stays : (s.strip i).staysAt m) : (t.strip i).motion = (s.strip i).motion ∧ (t.strip i).drive = (s.strip i).drive ∧
    ∀ e, e.strip = i → (e ∈ t.drive.queue ↔ e ∈ s.drive.queue) := by
  obtain ⟨motion, drive, supervisor, -⟩ := State.modeChange_keepsMotion (s := u) (h.came ▸ stays)
  rw [h.came] at motion drive
  rw [h.record]
  refine ⟨motion, drive, fun e own => ?_⟩
  rw [h.stands e own, supervisor, h.stood e own]

theorem no_entry (was : (s.strip i).motion = .queued) (away : (t.strip i).motion ≠ .queued) : ∀ e ∈ t.drive.queue, e.strip ≠ i := by
  intro e mem own
  rw [h.record] at away
  exact h.takes.requeues.no_entry (h.came ▸ was) away e ((h.stands e own).mp mem) own

section unstalled

variable (unstalled : (s.strip i).motion ≠ .stalled)
include unstalled

/-- Changed to PARKED, a strip is parked (R81). -/
theorem parked (mode : m = .parked) : (t.strip i).motion = .parked ∧ (t.strip i).drive = 0 ∧ (t.strip i).cal = none ∧
    (t.strip i).recalPending = (s.strip i).recalPending ∧ (t.strip i).attempts = (s.strip i).attempts := by
  subst mode
  have enters := State.modeChange_parked (s := u) (i := i) (h.came ▸ unstalled)
  rw [h.record, enters, State.enter_strip_self, State.takeMode_strip, h.came]
  exact ⟨rfl, rfl, rfl, rfl, rfl⟩

/-- Changed to WRITE, a strip comes to rest where its hand says (R82). -/
theorem write (mode : m = .write) :
    ((s.strip i).motion = .parked → (t.strip i).motion = if (s.strip i).touched then .touched else .idle) ∧
    ((s.strip i).motion = .idle ∨ (s.strip i).motion = .touched → (t.strip i).motion = (s.strip i).motion) ∧
    ((s.strip i).motion.active = true ∨ (s.strip i).motion = .latched → (t.strip i).motion = .idle ∧ (t.strip i).drive = 0) := by
  subst mode
  have changes := State.modeChange_write (s := u) (i := i) (h.came ▸ unstalled)
  have record := u.takeMode_strip .write i
  have motion : ((u.modStrip i fun p => p.takeMode .write).strip i).motion = (s.strip i).motion := by
    rw [record, h.came]
    rfl
  rw [h.record, changes]
  refine ⟨fun parked => ?_, fun rests => ?_, fun moves => ?_⟩
  · rw [State.toWrite_parked (motion.trans parked), State.enter_strip_self, record, h.came]
    exact Strip.enter_motion ..
  · rw [State.toWrite_rests (by rw [motion]; exact rests.imp_right .inl)]
    exact motion
  · rw [State.toWrite_active (by rw [motion]; exact moves), State.enter_strip_self]
    exact ⟨Strip.enter_motion .., rfl⟩

/-- From PARKED or WRITE to a motorised mode (R83). -/
theorem comesToHand (motorised : m.motorised = true) (was : (s.strip i).mode.motorised = false) : State.ComesToHand i s t := by
  have hand := (State.toMotorised_takes (s := u) (i := i) motorised).2
  rw [← State.modeChange_toMotorised (h.came ▸ unstalled) motorised (h.came ▸ was)] at hand
  obtain ⟨speed, recal, motion, entry, asks⟩ := hand
  rw [h.came] at recal motion asks
  refine ⟨?_, ?_, ?_, ?_, fun c shown => h.asked c (asks c shown)⟩
  · rw [h.record]
    exact speed
  · rw [h.record]
    exact recal
  · rw [h.record]
    exact motion
  · rw [h.record, h.stands ⟨i, .calibrate⟩ rfl]
    exact entry

/-- From LATCHED to another motorised mode (R84). -/
theorem leaves (motorised : m.motorised = true) (leaves : (s.strip i).mode = .latch ∧ (s.strip i).latch = true ∧ (s.strip i).motion = .latched) :
    (t.strip i).speed = .ret ∧
    (t.strip i).motion = (if (s.strip i).recalPending && !(s.strip i).touched then .queued else .idle) ∧
    ((t.strip i).motion = .queued → ⟨i, .calibrate⟩ ∈ t.drive.queue) ∧ ∀ c, (s.strip i).shown = some c → s.asks t c := by
  have back := (u.modStrip i fun p => p.takeMode m).leaveLatched_givesBack i
  rw [← State.modeChange_leaves (h.came ▸ unstalled) motorised (by rw [h.came, leaves.1]; rfl) (by rw [h.came]; exact leaves)] at back
  obtain ⟨-, -, speed, -, motion, entry, asks⟩ := back
  rw [State.takeMode_strip, h.came] at motion asks
  rw [h.record]
  refine ⟨speed, motion.trans ?_, ?_, fun c shown => h.asked c (asks c shown)⟩
  · rw [show ((s.strip i).takeMode m).mode = m from rfl, motorised, Bool.true_and, Bool.and_comm]
    rfl
  · rw [h.stands ⟨i, .calibrate⟩ rfl]
    exact entry

end unstalled

end State.ModeWork

/-- In a SET_MODE, each named strip of another mode has its mode changed once. -/
theorem State.setMode_work {m : Mode} {arg : BitVec 16} {i : StripId} {s : State} (named : argNames arg i = true)
    (differs : (s.strip i).mode ≠ m) (tag : BitVec 8) (code : ResultCode) (n : BitVec 16) :
    ∃ u, State.ModeWork m i s u ((s.forStrips (namedStrips arg) (State.setModeOf m)).writeResult tag code n) := by
  obtain ⟨u, came, last, asked⟩ := State.WorksOn.forStrips_at (fun i u => State.setModeOf_worksOn m i u)
    (namedStrips_nodup arg) (mem_namedStrips.mpr named) s
  have last := last.trans (.of_eq (t := (s.forStrips (namedStrips arg) (State.setModeOf m)).writeResult tag code n))
  rw [State.setModeOf_other (by rw [came.record]; exact differs)] at last asked
  refine ⟨u, came.record, differs, ?_, fun e own => came.mem_iff own, fun e own => ?_, fun c asks => ?_⟩
  · rw [last.record, State.forceLine_strip_self]
  · rw [last.mem_iff own, State.forceLine_drive]
  · intro im seen
    rw [State.writeResult_taper]
    refine asked c (fun im seen => ?_) im seen
    rw [State.forceLine_taper]
    exact asks im seen

/-- A SET_MODE of one strip that keeps its motion state leaves the drive supervisor and the taper unit alone. -/
theorem State.setMode_alone {m : Mode} {arg : BitVec 16} {i : StripId} {s : State} (one : arg.getLsbD 15 = false)
    (names : arg.getLsbD 15 = true ∨ (arg.extractLsb' 0 8).toNat < 32) (named : argNames arg i = true)
    (differs : (s.strip i).mode ≠ m) (stays : (s.strip i).staysAt m) (tag : BitVec 8) (code : ResultCode) (n : BitVec 16) :
    let t := (s.forStrips (namedStrips arg) (State.setModeOf m)).writeResult tag code n
    t.drive = s.drive ∧ t.taper = s.taper := by
  have range := names.resolve_left fun all => absurd (all.symm.trans one) nofun
  have only := mem_namedStrips.mpr named
  rw [namedStrips_of_one one range] at only ⊢
  rw [← List.mem_singleton.mp only, State.forStrips_cons, State.setModeOf_other differs]
  obtain ⟨-, -, supervisor, taper⟩ := State.modeChange_keepsMotion stays
  rw [← supervisor, ← taper]
  simp [State.forStrips]

/-- The strips newly QUEUED by works on the named strips, among all strips. -/
theorem filter_namedStrips {arg : BitVec 16} {p : StripId → Bool} (only : ∀ i, p i = true → argNames arg i = true) :
    (namedStrips arg).filter p = (List.finRange 32).filter p := by
  rw [namedStrips, List.filter_filter]
  refine List.filter_congr fun i _ => ?_
  cases passes : p i with
  | false => rfl
  | true => rw [only i passes, Bool.true_and]

/-- Settles O30: each named strip of another mode has its mode changed once, on its record as it was, and no other strip's work touches it. -/
theorem setModeChangesNamedStrips : Obligations.SetModeChangesNamedStrips := by
  intro m tag arg s run idle names mode changed
  have works : s.WorksOn (namedStrips arg) (s.forStrips (namedStrips arg) (State.setModeOf m)) :=
    .forStrips (fun i u => u.setModeOf_worksOn m i) ..
  have unchanged : ∀ i, changed i = false → argNames arg i = true → (s.strip i).mode = m := fun i same named => by
    have same : (argNames arg i && (s.strip i).mode != m) = false := same
    simpa [named] using same
  rw [exec_setMode run idle, State.setMode_of_names names mode]
  refine ⟨_, rfl, fun none => ?_, fun i same => ?_, fun i differs => ?_, fun starts coherent => ?_, works.answer_result idle ..,
    works.answer_frame ..⟩
  · have still : s.forStrips (namedStrips arg) (State.setModeOf m) = s := by
      refine State.forStrips_eq_self fun i named => State.setModeOf_same ?_
      exact unchanged i (none i) (mem_namedStrips.mp named)
    have uncounted : (List.finRange 32).countP (fun i => argNames arg i && (s.strip i).mode != m) = 0 :=
      List.countP_eq_zero.mpr fun i _ => Bool.eq_false_iff.mp (none i)
    rw [still, uncounted]
    rfl
  · rw [State.writeResult_strip]
    by_cases named : argNames arg i = true
    · obtain ⟨u, came, last, _⟩ := State.WorksOn.forStrips_at (fun i u => State.setModeOf_worksOn m i u)
        (namedStrips_nodup arg) (mem_namedStrips.mpr named) s
      rw [last.record, State.setModeOf_same (by rw [came.record]; exact unchanged i same named), came.record]
    · exact (works.others i (mt mem_namedStrips.mp named)).record
  · obtain ⟨named, differs⟩ := Bool.and_eq_true_iff.mp differs
    have differs : (s.strip i).mode ≠ m := by simpa using differs
    have alone := fun one stays => State.setMode_alone one names named differs stays tag .done
      (field16 ((List.finRange 32).countP fun i => argNames arg i && (s.strip i).mode != m))
    obtain ⟨u, work⟩ := State.setMode_work named differs tag .done
      (field16 ((List.finRange 32).countP fun i => argNames arg i && (s.strip i).mode != m))
    generalize (s.forStrips (namedStrips arg) (State.setModeOf m)).writeResult tag .done _ = t at work alone ⊢
    intro p p' kept
    have keeps : p.staysAt m → kept := fun stays => by
      obtain ⟨motion, drive, entries⟩ := work.keeps stays
      exact ⟨motion, drive, entries, fun one => alone one stays⟩
    have level := work.level
    refine ⟨level.mode, work.latch, level.shown, level.target, level.opCode, level.lastReadback, level.calibration, level.touched,
      level.m, work.line, fun stalled => keeps (.inl stalled), work.no_entry, fun unstalled => ⟨work.parked unstalled,
      work.write unstalled, fun motorised was => ?_, fun motorised was => ⟨fun leaves => ?_, fun stays => keeps (.inr ⟨motorised, was, stays⟩)⟩⟩⟩
    · obtain ⟨speed, recal, motion, entry, asks⟩ := work.comesToHand unstalled motorised (by
        obtain at_ | at_ := was <;> exact congrArg Mode.motorised at_)
      exact ⟨speed, recal, motion, entry, fun c im shown => asks c shown im⟩
    · obtain ⟨speed, motion, entry, asks⟩ := work.leaves unstalled motorised leaves
      exact ⟨speed, motion, entry, fun c im shown => asks c shown im⟩
  · have queue := State.forStrips_names (fun i u => u.setModeOf_worksOn m i) (fun i u => u.setModeOf_requeues m i)
      (fun i u => State.setModeOf_place m) (namedStrips_nodup arg)
      (fun e mem => (starts.2.1 e.strip).mpr (List.mem_map_of_mem mem)) fun i _ => coherent i
    simp only [State.writeResult_drive, State.writeResult_strip]
    rw [queue, filter_namedStrips]
    intro i joined
    by_contra unnamed
    rw [(works.others i (mt mem_namedStrips.mp unnamed)).record] at joined
    simp at joined

end Sys2Proof.Machine
end

section
namespace Sys2Proof.Machine

open Sys2Proof

/-! ## Works on one strip -/

/-- What works on motion, drive, calibration and errors leave of a strip: its mode and settings, its touch, its travel and its layer state. -/
def Strip.standing (p : Strip) : Strip :=
  { p with
    motion := .idle, target := none, r := 0, v := 0, speed := .normal, settled := 0, settleStart := 0#16
    moveMarked := false, latch := false, drive := 0, dirHigh := false, cal := none, slices := [], errorTotal := 0
    recalPending := false, attempts := 0, calibration := none }

/-- From `s` to `t` the parameters, the channels, the clock and the entries that stood, STATUS apart, are as they were. -/
structure State.Stands (s t : State) : Prop where
  params : t.ctl.params = s.ctl.params
  chans : t.chans = s.chans
  clock : t.clock = s.clock
  entries : ∀ e, e ∈ s.port.others → e ∈ t.port.others

namespace State.Stands

variable {s t u : State}

theorem refl : s.Stands s := ⟨rfl, rfl, rfl, fun _ => id⟩

theorem trans (h : s.Stands t) (h' : t.Stands u) : s.Stands u where
  params := h'.params.trans h.params
  chans := h'.chans.trans h.chans
  clock := h'.clock.trans h.clock
  entries e mem := h'.entries e (h.entries e mem)

theorem param (h : s.Stands t) (p : Param) : t.param p = s.param p := State.param_congr h.params p

theorem chan (h : s.Stands t) (c : ChanId) : t.chan c = s.chan c := State.chan_congr h.chans c

/-- What leaves the image port, the parameters, the channels and the clock alone. -/
theorem of_port (port : t.port = s.port := by simp) (params : t.ctl.params = s.ctl.params := by simp)
    (chans : t.chans = s.chans := by simp) (clock : t.clock = s.clock := by simp) : s.Stands t :=
  ⟨params, chans, clock, by rw [port]; exact fun _ => id⟩

theorem createEvent (s : State) (kind : EventKind) (index : BitVec 8) (v : BitVec 16) :
    s.Stands (s.createEvent kind index v) := by
  obtain ⟨new, eq, -⟩ := s.createEvent_others kind index v
  exact ⟨by simp, by simp, by simp, fun e mem => eq ▸ List.mem_append_left _ mem⟩

end State.Stands

/-- From `s` to `t` one strip was worked on, which left what `view` shows of it, and no other strip. -/
structure State.WorksAt {α : Type} (view : Strip → α) (i : StripId) (s t : State) : Prop extends State.Stands s t where
  own : view (t.strip i) = view (s.strip i)
  others : ∀ j, j ≠ i → t.strip j = s.strip j

namespace State.WorksAt

variable {α β : Type} {view : Strip → α} {i : StripId} {s t u : State}

theorem refl : WorksAt view i s s := ⟨.refl, rfl, fun _ _ => rfl⟩

theorem trans (h : WorksAt view i s t) (h' : WorksAt view i t u) : WorksAt view i s u where
  toStands := h.toStands.trans h'.toStands
  own := h'.own.trans h.own
  others j other := (h'.others j other).trans (h.others j other)

/-- What a view shows, any part of it shows. -/
theorem shows (h : WorksAt view i s t) (f : α → β) : f (view (t.strip i)) = f (view (s.strip i)) := congrArg f h.own

theorem map (h : WorksAt view i s t) (f : α → β) : WorksAt (f ∘ view) i s t := ⟨h.toStands, h.shows f, h.others⟩

/-- What leaves the image port, the parameters, the channels and the clock alone. -/
theorem of_strips (own : view (t.strip i) = view (s.strip i)) (others : ∀ j, j ≠ i → t.strip j = s.strip j)
    (port : t.port = s.port := by simp) (params : t.ctl.params = s.ctl.params := by simp)
    (chans : t.chans = s.chans := by simp) (clock : t.clock = s.clock := by simp) : WorksAt view i s t :=
  ⟨.of_port port params chans clock, own, others⟩

/-- What stands, and leaves the strips alone. -/
theorem of_stands (stands : s.Stands t) (strips : t.strips = s.strips := by simp) : WorksAt view i s t :=
  ⟨stands, by rw [State.strip_congr strips], fun j _ => State.strip_congr strips j⟩

theorem modStrip {f : Strip → Strip} (own : view (f (s.strip i)) = view (s.strip i)) : WorksAt view i s (s.modStrip i f) :=
  of_strips (by rw [State.strip_modStrip_self, own]) (fun _ other => State.strip_modStrip_ne s other f)

theorem createEvent (s : State) (kind : EventKind) (index : BitVec 8) (v : BitVec 16) :
    WorksAt view i s (s.createEvent kind index v) := of_stands (.createEvent ..)

theorem setFault (s : State) : WorksAt view i s s.setFault := by
  refine of_stands ⟨by simp, by simp, by simp, fun e mem => ?_⟩
  rw [State.setFault, State.modCauses_others]
  exact mem

/-! ## The works of a servo sample (Table 5.1) -/

theorem enter (dest : Motion) : WorksAt Strip.standing i s (s.enter i dest) :=
  of_strips (by rw [State.enter_strip_self]; cases dest <;> rfl) fun _ other => State.enter_strip_ne s other dest

theorem recalAtRest : WorksAt Strip.standing i s (s.recalAtRest i) := by
  refine of_strips ?_ fun _ other => State.recalAtRest_strip_ne s other
  rw [State.recalAtRest_strip_self]
  split <;> rfl

theorem actOnRecal : WorksAt Strip.standing i s (s.actOnRecal i) := by
  unfold State.actOnRecal
  dsimp only
  split
  · split
    · exact of_strips rfl fun _ _ => rfl
    · exact refl
  · exact recalAtRest

theorem setRecal : WorksAt Strip.standing i s (s.setRecal i) := WorksAt.trans (modStrip rfl) actOnRecal

theorem countError : WorksAt Strip.standing i s (s.countError i) := by
  have counted : WorksAt Strip.standing i s (s.modStrip i Strip.countError) := modStrip rfl
  unfold State.countError
  dsimp only
  split
  · exact counted.trans setRecal
  · exact counted

theorem trackTest : WorksAt Strip.standing i s (s.trackTest i) := by
  unfold State.trackTest
  dsimp only
  split
  · exact (modStrip rfl).trans countError
  · exact refl

theorem driveWith (u : Int) : WorksAt Strip.standing i s (s.driveWith i u) := modStrip rfl

theorem profileStep : WorksAt Strip.standing i s (s.profileStep i) := by
  unfold State.profileStep
  dsimp only
  split
  · exact enter _
  · split
    · exact (modStrip rfl).trans (enter _)
    · exact modStrip rfl

theorem settleDrive : WorksAt Strip.standing i s (s.settleDrive i) := by
  unfold State.settleDrive
  split
  · exact modStrip rfl
  · exact (modStrip rfl).trans (driveWith 0)

theorem settleSample : WorksAt Strip.standing i s (s.settleSample i) := by
  have tracked : WorksAt Strip.standing i s ((s.settleDrive i).trackTest i) := settleDrive.trans trackTest
  unfold State.settleSample
  dsimp only
  split
  · exact tracked.trans ((enter _).trans recalAtRest)
  · split
    · exact tracked.trans ((((enter _).trans countError).trans (createEvent ..)).trans (setFault _))
    · exact tracked

theorem runGoesOn (c : CalRun) : WorksAt Strip.standing i s (s.runGoesOn i c) := modStrip rfl

theorem runSucceeds (low high : Nat) : WorksAt Strip.standing i s (s.runSucceeds i low high) := by
  unfold State.runSucceeds
  exact (((modStrip rfl).trans (createEvent ..)).trans (modStrip rfl)).trans (enter _)

theorem runFails : WorksAt Strip.standing i s (s.runFails i) := by
  unfold State.runFails
  dsimp only
  split
  · exact (modStrip rfl).trans (modStrip rfl)
  · exact ((((modStrip rfl).trans (enter _)).trans (modStrip rfl)).trans (createEvent ..)).trans (setFault _)

theorem calSample (raw : Nat) : WorksAt Strip.standing i s (s.calSample i raw) := by
  unfold State.calSample State.phaseEnds
  split
  · exact refl
  · split
    · split
      · exact runGoesOn _
      · split
        · exact runSucceeds ..
        · exact runFails
    · split
      · exact runFails
      · exact runGoesOn _

/-- Where its strip stands, and what it shows, is no business of a sample's work. -/
theorem sampleWork (raw : Nat) : WorksAt Strip.standing i s (s.sampleWork i raw) := by
  unfold State.sampleWork
  split
  · exact (profileStep.trans (driveWith _)).trans trackTest
  · exact settleSample
  · exact calSample raw
  all_goals exact refl

end State.WorksAt

end Sys2Proof.Machine
end

section
namespace Sys2Proof.Machine

open Sys2Proof

/-! ## A sample as it is judged (R87 to R90, R115) -/

/-- A strip's record when its sample is judged: the reading is scaled, and the next sample is due 1 ms later (R87, R88). -/
def Strip.sampledAt (p : Strip) (due raw : Nat) : Strip :=
  { p with m := measured p.calibration raw, sampleDue := some (due + 4000) }

section sampling

variable {s : State} {i : StripId} {due : Nat} {raw : BitVec 12}

theorem State.modStrip_congr {f g : Strip → Strip} (same : f (s.strip i) = g (s.strip i)) : s.modStrip i f = s.modStrip i g := by
  unfold State.modStrip
  rw [same]

theorem State.modStrip_modStrip (s : State) (i : StripId) (f g : Strip → Strip) :
    (s.modStrip i f).modStrip i g = s.modStrip i (g ∘ f) := by
  simp [State.modStrip, State.strip]

/-- On a schedule that has started a sample comes due at its moment, the readback timer running (R87, R115). -/
theorem State.comeDue_of_due (at_ : (s.strip i).sampleDue = some due) (timed : (s.strip i).readbackDue.isSome = true) :
    s.comeDue i = (s.reach due).modStrip i fun p => { p with sampleDue := some (due + 4000) } := by
  obtain ⟨timer, running⟩ := Option.isSome_iff_exists.mp timed
  have started : s.startSamples i = s := by simp only [State.startSamples, at_]
  simp only [State.comeDue, started, at_, Option.getD_some]
  refine State.modStrip_congr ?_
  simp [running, Config.ms]

theorem State.rawOf_of_reading (reading : (s.strip i).reading = some raw) : s.rawOf i = raw.toNat := by
  simp [State.rawOf, reading]

/-- The state in which a sample is judged differs by the clock and the strip's measured travel and next sample (R88). -/
theorem State.judged_of_due (reading : (s.strip i).reading = some raw) (at_ : (s.strip i).sampleDue = some due)
    (timed : (s.strip i).readbackDue.isSome = true) :
    s.judged i = (s.reach due).modStrip i fun p => p.sampledAt due raw.toNat := by
  rw [State.judged, State.rawOf_of_reading reading, State.comeDue_of_due at_ timed, State.measure, State.modStrip_modStrip]
  rfl

theorem State.judged_strip (reading : (s.strip i).reading = some raw) (at_ : (s.strip i).sampleDue = some due)
    (timed : (s.strip i).readbackDue.isSome = true) : (s.judged i).strip i = (s.strip i).sampledAt due raw.toNat := by
  rw [State.judged_of_due reading at_ timed, State.strip_modStrip_self, State.strip_reach]

/-- A sample's work, line and adoption are those of the state in which it is judged (R88). -/
theorem State.sample_eq (s : State) (i : StripId) :
    s.sample i = (((s.judged i).sampleWork i (s.rawOf i)).evalLine i).deferredAdoption i := rfl

theorem State.deferredAdoption_of_none (none : (s.strip i).waiting = none) : s.deferredAdoption i = s := by
  simp only [State.deferredAdoption, none]

theorem State.evalLine_strip_self (s : State) (i : StripId) :
    (s.evalLine i).strip i = { s.strip i with line := (s.strip i).sampledLine } := State.setLine_strip_self ..

theorem State.evalLine_strip_ne (s : State) {i j : StripId} (other : j ≠ i) : (s.evalLine i).strip j = s.strip j :=
  State.setLine_strip_ne s i other _

/-- With no channel pending, a sample is its work and the line. -/
theorem State.sample_of_none (none : ((s.judged i).strip i).waiting = none) :
    s.sample i = ((s.judged i).sampleWork i (s.rawOf i)).evalLine i := by
  have worked : s.judged i |>.WorksAt Strip.standing i ((s.judged i).sampleWork i (s.rawOf i)) := .sampleWork _
  rw [State.sample_eq, State.deferredAdoption_of_none]
  rw [State.evalLine_strip_self]
  exact (worked.shows Strip.waiting).trans none

theorem exec_sensorReading (run : s.inReset = false) (i : StripId) (raw : BitVec 12) :
    exec (.sensorReading i raw) s = .next (s.modStrip i fun p => { p with reading := some raw }) :=
  live_running (f := fun s => s.modStrip i fun p => { p with reading := some raw }) run

theorem exec_servoSample (run : s.inReset = false) (read : s.allRead = true) (i : StripId) :
    exec (.servoSample i) s = .next (s.sample i) := by
  refine (live_running (f := fun s => if s.allRead then s.sample i else s) run).trans ?_
  rw [if_pos read]

/-- The part samples only once every strip has a reading (R87). -/
theorem State.allRead_eq_false {j : StripId} (unread : (s.strip j).reading = none) : s.allRead = false := by
  rw [State.allRead, List.all_eq_false]
  exact ⟨j, List.mem_finRange j, by simp [unread]⟩

/-! ## The line at a sample (R135, R136) -/

theorem Strip.forcedOff_iff (p : Strip) : p.forcedOff = true ↔
    p.mode = .parked ∨ p.fsEnable = false ∨ p.onCode.sle p.offCode = true ∨ p.onTravel ≤ p.offTravel := by
  simp [Strip.forcedOff, or_assoc]

/-- The line follows the thresholds while no condition forces it and no calibration run keeps it (R135). -/
theorem Strip.sampledLine_of_not_calibrating {p : Strip} (other : p.motion ≠ .calibrating) : p.sampledLine =
    if p.mode = .parked ∨ p.fsEnable = false ∨ p.onCode.sle p.offCode = true ∨ p.onTravel ≤ p.offTravel then false
    else if p.line then decide (p.offTravel < p.m) else decide (p.onTravel ≤ p.m) := by
  have off : (!decide (p.m ≤ p.offTravel)) = decide (p.offTravel < p.m) := by
    rw [← decide_not, decide_eq_decide, not_le]
  simp only [Strip.sampledLine, ← Strip.forcedOff_iff, if_neg other, off]

/-- The evaluation of a line changes the strips, and what reports it. -/
theorem State.evalLine_frame (s : State) (i : StripId) : s.evalLine i =
    { s with strips := (s.evalLine i).strips, port := (s.evalLine i).port, ctl := (s.evalLine i).ctl } := by
  unfold State.evalLine State.setLine
  split
  · rfl
  · have created : ∀ (t : State) (kind : EventKind) (v : BitVec 16),
        t.stripEvent kind i v = { t with port := (t.stripEvent kind i v).port, ctl := (t.stripEvent kind i v).ctl } :=
      fun _ _ _ => State.eq_of_port_ctl
    rw [created]
    rfl

/-- An event's creation, from a state with the same entries and control unit. -/
theorem State.createsEvent.of_eq {s s' t : State} {kind : EventKind} {index : BitVec 8} {v : BitVec 16}
    (h : s'.createsEvent t kind index v) (port : s'.port = s.port) (ctl : s'.ctl = s.ctl) : s.createsEvent t kind index v := by
  simpa only [State.createsEvent, State.ringHasRoom, port, ctl] using h

/-- A change of the line is reported with the measured travel, and nothing else is (R136). -/
theorem State.evalLine_lineReported (s : State) (i : StripId) : s.lineReported (s.evalLine i) i := by
  have record := s.evalLine_strip_self i
  unfold State.lineReported
  rw [record]
  unfold State.evalLine State.setLine
  split
  · next same => exact ⟨fun _ => ⟨rfl, rfl⟩, fun changed => absurd same.symm changed⟩
  · next changed =>
    refine ⟨fun same => absurd same.symm changed, fun _ => ?_⟩
    exact (State.createEvent_createsEvent _ _ _ _).of_eq rfl rfl

theorem State.lineReported.of_eq {s s' t : State} {i : StripId} (h : s'.lineReported t i) (port : s'.port = s.port)
    (ctl : s'.ctl = s.ctl) (line : (s'.strip i).line = (s.strip i).line) : s.lineReported t i := by
  unfold State.lineReported at h ⊢
  rw [port, ctl, line] at h
  exact ⟨h.1, fun changed => (h.2 changed).of_eq port ctl⟩

/-! ## A sample of a strip at rest (R88, R100) -/

/-- A strip that is not driven has no work at a sample (Table 5.1). -/
theorem State.sampleWork_of_rest (rest : (s.strip i).motion.driven = false) (raw : Nat) : s.sampleWork i raw = s := by
  unfold State.sampleWork
  split
  · next motion => simp [motion, Motion.driven] at rest
  · next motion => simp [motion, Motion.driven] at rest
  · next motion => simp [motion, Motion.driven] at rest
  all_goals rfl

theorem Motion.ne_calibrating_of_rest {m : Motion} (rest : m.driven = false) : m ≠ .calibrating := by
  rintro rfl
  cases rest

/-- The measured travel by a calibration record (R1, R89). -/
theorem measured_calibrated {low high : Nat} (lt : low < high) (raw : Nat) : (measured (some ⟨low, high⟩) raw : Int) =
    max 0 (min 4095 ((((raw : Int) - low) * 4095 + ((high : Int) - low) / 2) / ((high : Int) - low))) := by
  have top : Config.travelTop = 4095 := rfl
  simp only [measured, divNearest_of_pos (show 0 < (high : Int) - low by omega), clampInt, top]
  generalize (((raw : Int) - low) * (4095 : Nat) + ((high : Int) - low) / 2) / ((high : Int) - low) = x
  split <;> [skip; split] <;> omega

end sampling

/-! ## The first sample (R87, R115) -/

/-- A change of each of some strips, each once. -/
theorem State.forStrips_modStrip {l : List StripId} (distinct : l.Nodup) (g : StripId → Strip → Strip) (s : State) (k : StripId) :
    (s.forStrips l fun j t => t.modStrip j (g j)).strip k = if k ∈ l then g k (s.strip k) else s.strip k := by
  induction l generalizing s with
  | nil => rfl
  | cons j l ih =>
    obtain ⟨absent, distinct⟩ := List.nodup_cons.mp distinct
    rw [State.forStrips_cons, ih distinct]
    by_cases same : k = j
    · subst same
      simp [absent]
    · simp [same]

/-- The first sample of all fixes the moments of the others' (R87). -/
theorem State.startSamples_first {s : State} {i : StripId} (unset : (s.strip i).sampleDue = none) (j : StripId) :
    (s.startSamples i).strip j = { s.strip j with sampleDue := some (firstSample s.clock i j) } := by
  have distinct : allStrips.Nodup := List.nodup_finRange 32
  have mem : j ∈ allStrips := List.mem_finRange j
  have each := State.forStrips_modStrip distinct (fun j p => { p with sampleDue := some (firstSample s.clock i j) }) s j
  rw [if_pos mem] at each
  simp only [State.startSamples, unset]
  exact each

theorem State.startSamples_clock (s : State) (i : StripId) : (s.startSamples i).clock = s.clock := by
  unfold State.startSamples
  split
  · rfl
  · generalize allStrips = l
    exact State.forStrips_induct (P := fun t => t.clock = s.clock) (fun _ t same => (t.modStrip_clock ..).trans same) l rfl

theorem firstSample_self (clock : Nat) (i : StripId) : firstSample clock i i = clock := by
  simp [firstSample]

theorem firstSample_of_lt {i j : StripId} (later : i < j) (clock : Nat) :
    firstSample clock i j = clock + 125 * (j.val - i.val) := if_pos (Fin.lt_def.mp later).le

/-- A strip before the first one is sampled within the millisecond (R87). -/
theorem firstSample_of_gt {i j : StripId} (earlier : j < i) (clock : Nat) :
    firstSample clock i j = clock + 4000 - 125 * (i.val - j.val) := by
  have lt := Fin.lt_def.mp earlier
  have ms : Config.ms = 4000 := rfl
  rw [firstSample, if_neg (Nat.not_le.mpr lt), ms]
  omega

/-- The first sample of all comes due at once, and starts its strip's readback timer (R87, R115). -/
theorem State.comeDue_first {s : State} {i : StripId} (unset : (s.strip i).sampleDue = none)
    (untimed : (s.strip i).readbackDue = none) :
    s.comeDue i = ((s.startSamples i).reach s.clock).modStrip i fun p => { p with
      sampleDue := some (s.clock + 4000), readbackDue := some (s.clock + s.param .readbackPeriod * 4000) } := by
  simp only [State.comeDue, State.startSamples_first unset, firstSample_self, Option.getD_some]
  refine State.modStrip_congr ?_
  simp [State.startSamples_first unset, untimed, State.startSamples_clock, Config.ms]

/-- Settles O43: at rest a sample is the state in which it is judged, with its line. -/
theorem restSamplesOnlyMeasure : Obligations.RestSamplesOnlyMeasure := by
  refine ⟨fun i raw s run => ?_, fun i s unread run => ?_, fun i raw due s sampling rest => ?_,
    fun i s run read settled unstarted untimed rest => ?_⟩
  · exact ⟨_, exec_sensorReading run i raw, by simp, fun j other => by simp [other], rfl⟩
  · obtain ⟨j, unread⟩ := unread
    refine (live_running (f := fun s => if s.allRead then s.sample i else s) run).trans ?_
    rw [State.allRead_eq_false unread]
    rfl
  · obtain ⟨run, read, reading, at_, timed, settled⟩ := sampling
    have judged := State.judged_of_due reading at_ timed
    have own := State.judged_strip reading at_ timed
    have result : s.sample i = (s.judged i).evalLine i := by
      rw [State.sample_of_none (by rw [own]; exact settled), State.sampleWork_of_rest (by rw [own]; exact rest)]
    have record := (s.judged i).evalLine_strip_self i
    rw [own, Strip.sampledLine_of_not_calibrating (p := (s.strip i).sampledAt due raw.toNat)
      (Motion.ne_calibrating_of_rest rest)] at record
    have reported := (s.judged i).evalLine_lineReported i
    refine ⟨_, exec_servoSample run read i, ?_⟩
    rw [result]
    refine ⟨?_, ⟨fun none => ?_, fun low high calibrated lt => ?_, ?_⟩, ?_, fun j other => ?_, ?_⟩
    · rw [State.evalLine_clock, judged]
      rfl
    · rw [record]
      simp [Strip.sampledAt, none, measured]
    · rw [record]
      simp only [Strip.sampledAt, calibrated]
      exact measured_calibrated lt _
    · rw [record]
      rfl
    · exact reported.of_eq (by rw [judged]; rfl) (by rw [judged]; rfl) (by rw [own]; rfl)
    · rw [State.evalLine_strip_ne _ other, judged]
      simp [other]
    · have frame := (s.judged i).evalLine_frame i
      rw [frame, judged]
      rfl
  · have started := State.comeDue_first (unstarted i) untimed
    have own : (s.judged i).strip i = { s.strip i with
        m := measured (s.strip i).calibration (s.rawOf i), sampleDue := some (s.clock + 4000)
        readbackDue := some (s.clock + s.param .readbackPeriod * 4000) } := by
      simp [State.judged, State.measure, started, State.startSamples_first (unstarted i)]
    have result : s.sample i = (s.judged i).evalLine i := by
      rw [State.sample_of_none (by rw [own]; exact settled), State.sampleWork_of_rest (by rw [own]; exact rest)]
    have others : ∀ j, j ≠ i → (((s.judged i).evalLine i).strip j).sampleDue = some (firstSample s.clock i j) := fun j other => by
      rw [State.evalLine_strip_ne _ other]
      simp [State.judged, State.measure, started, other, State.startSamples_first (unstarted i)]
    refine ⟨_, exec_servoSample run read i, ?_⟩
    rw [result]
    refine ⟨?_, ?_, ?_, fun j later => ?_, fun j earlier => ?_⟩
    · rw [State.evalLine_clock, State.judged, started]
      simp [State.measure, State.startSamples_clock]
    · rw [State.evalLine_strip_self, own]
    · rw [State.evalLine_strip_self, own]
    · rw [others j later.ne', firstSample_of_lt later]
    · rw [others j earlier.ne, firstSample_of_gt earlier]

end Sys2Proof.Machine
end

section
namespace Sys2Proof.Machine

open Sys2Proof

/-! ## Errors counted (R98, R155) -/

section errors

variable {s : State} {i : StripId} {p p' p'' : Strip}

/-- Errors counted one after the other are counted together: the current slice only rises, so a threshold once passed stays passed (R155). -/
theorem State.countsErrors.trans {n m : Nat} (h : s.countsErrors n p p') (h' : s.countsErrors m p' p'')
    (policy : p'.policy = p.policy) : s.countsErrors (n + m) p p'' := by
  obtain rfl | first := Nat.eq_zero_or_pos n
  · obtain ⟨slices, total, recal⟩ := h
    simp only [if_pos, ne_eq, not_true_eq_false, false_and, decide_false, Bool.or_false] at slices total recal
    simpa only [State.countsErrors, slices, total, recal, policy, Nat.zero_add] using h'
  obtain rfl | second := Nat.eq_zero_or_pos m
  · obtain ⟨slices, total, recal⟩ := h'
    simp only [if_pos, ne_eq, not_true_eq_false, false_and, decide_false, Bool.or_false] at slices total recal
    simpa only [State.countsErrors, slices, total, recal, Nat.add_zero] using h
  obtain ⟨slices, total, recal⟩ := h
  obtain ⟨slices', total', recal'⟩ := h'
  rw [if_neg first.ne'] at slices total
  rw [if_neg second.ne'] at slices' total'
  have both : n + m ≠ 0 := by omega
  have rises : p'.slices.sum ≤ p''.slices.sum := by
    rw [slices', slices]
    cases p.slices with
    | nil => rfl
    | cons c rest =>
      simp only [List.sum_cons]
      omega
  refine ⟨?_, ?_, ?_⟩
  · rw [if_neg both, slices', slices]
    cases p.slices with
    | nil => rfl
    | cons c rest =>
      simp only [List.cons.injEq, and_true]
      omega
  · rw [if_neg both, total', total]
    omega
  · rw [recal', recal, policy, Bool.or_assoc, ← Bool.decide_or]
    congr 2
    simp only [ne_eq, first.ne', second.ne', both, not_false_eq_true, true_and, eq_iff_iff]
    constructor
    · rintro (⟨own, on, reached⟩ | after)
      · exact ⟨own, on, reached.trans rises⟩
      · exact after
    · exact .inr

/-- Errors are counted from what a record counts, and by its policy. -/
theorem State.countsErrors.of_same {n : Nat} (h : s.countsErrors n p p'') (slices : p.slices = p'.slices)
    (total : p.errorTotal = p'.errorTotal) (recal : p.recalPending = p'.recalPending) (policy : p.policy = p'.policy) :
    s.countsErrors n p' p'' := by
  simpa only [State.countsErrors, slices, total, recal, policy] using h

/-- Errors are counted with the parameters alone. -/
theorem State.countsErrors.of_param {t : State} {n : Nat} (h : t.countsErrors n p p') (same : ∀ x, t.param x = s.param x) :
    s.countsErrors n p p' := by
  simpa only [State.countsErrors, same] using h

/-- A strip that is not IDLE is left as it is when recal pending is set (R157). -/
theorem State.setRecal_strip_self (away : (s.strip i).motion ≠ .idle) :
    (s.setRecal i).strip i = { s.strip i with recalPending := true } := by
  unfold State.setRecal State.actOnRecal
  dsimp only
  split
  · split
    · rw [State.toCalibrate_strip, State.strip_modStrip_self]
    · rw [State.strip_modStrip_self]
  · rw [State.recalAtRest_strip_self, State.strip_modStrip_self]
    exact if_neg fun idle => away idle.1

theorem State.overThreshold_iff (s : State) (i : StripId) : s.overThreshold i = true ↔
    (s.strip i).policy = .errorThreshold ∧ s.param .healthThreshold ≠ 0 ∧
      s.param .healthThreshold ≤ (s.strip i).slices.sum := by
  simp only [State.overThreshold, Bool.and_eq_true, beq_iff_eq, bne_iff_ne, decide_eq_true_eq, and_assoc]
  rfl

/-- An error of a strip that is not IDLE changes what counts it and the flag, and nothing else of the record (R155). -/
theorem State.countError_spec (away : (s.strip i).motion ≠ .idle) :
    let p := s.strip i
    let q := (s.countError i).strip i
    q = { p with slices := q.slices, errorTotal := q.errorTotal, recalPending := q.recalPending } ∧ s.countsErrors 1 p q := by
  have counted : (s.modStrip i Strip.countError).strip i = (s.strip i).countError := State.strip_modStrip_self ..
  have test := (s.modStrip i Strip.countError).overThreshold_iff i
  rw [counted] at test
  dsimp only
  have result : (s.countError i).strip i = { (s.strip i).countError with
      recalPending := (s.strip i).recalPending || (s.modStrip i Strip.countError).overThreshold i } := by
    unfold State.countError
    dsimp only
    split
    · next reached => rw [State.setRecal_strip_self (by rw [counted]; exact away), counted, reached, Bool.or_true]
    · next below => rw [counted, Bool.eq_false_of_not_eq_true below, Bool.or_false]; rfl
  rw [result]
  refine ⟨rfl, rfl, rfl, ?_⟩
  have flag : (s.modStrip i Strip.countError).overThreshold i = decide ((1 : Nat) ≠ 0 ∧ (s.strip i).policy = .errorThreshold ∧
      s.param .healthThreshold ≠ 0 ∧ s.param .healthThreshold ≤ (s.strip i).countError.slices.sum) := by
    rw [Bool.eq_iff_iff, test, decide_eq_true_eq]
    exact (and_iff_right Nat.one_ne_zero).symm
  exact congrArg ((s.strip i).recalPending || ·) flag

/-- The number of errors that a tracking test counts (R98). -/
def State.trackErrors (s : State) (p : Strip) : Nat :=
  if s.param .trackTolerance < dist p.r p.m ∧ p.moveMarked = false then 1 else 0

/-- A tracking test marks the move and counts its error, and changes nothing else of the record (R98, R155). -/
theorem State.trackTest_spec (away : (s.strip i).motion ≠ .idle) :
    let p := s.strip i
    let q := (s.trackTest i).strip i
    q = { p with
      moveMarked := p.moveMarked || decide (s.param .trackTolerance < dist p.r p.m)
      slices := q.slices, errorTotal := q.errorTotal, recalPending := q.recalPending } ∧
    s.countsErrors (s.trackErrors p) p q := by
  have marked : (s.modStrip i fun q => { q with moveMarked := true }).strip i = { s.strip i with moveMarked := true } :=
    State.strip_modStrip_self ..
  unfold State.trackTest State.trackErrors
  dsimp only
  split
  · next lags =>
    have spec := State.countError_spec (s := s.modStrip i fun q => { q with moveMarked := true }) (i := i)
      (by rw [marked]; exact away)
    rw [marked] at spec
    obtain ⟨record, counts⟩ := spec
    refine ⟨?_, counts⟩
    rw [decide_eq_true lags.1, Bool.or_true]
    exact record
  · next near =>
    have stays : ((s.strip i).moveMarked || decide (s.param .trackTolerance < dist (s.strip i).r (s.strip i).m)) =
        (s.strip i).moveMarked := by
      cases mark : (s.strip i).moveMarked with
      | true => rfl
      | false => simpa [mark] using near
    refine ⟨by rw [stays], rfl, rfl, ?_⟩
    simp

end errors

/-! ## The motion profile and the drive (R91 to R94) -/

/-- The bits tried from `2 ^ k` down find the root that lies below `root + 2 ^ k`. -/
theorem isqrtFrom_spec {n : Nat} (k : Nat) {root : Nat} (low : root * root ≤ n) (high : n < (root + 2 ^ k) * (root + 2 ^ k)) :
    isqrtFrom n k root * isqrtFrom n k root ≤ n ∧ n < (isqrtFrom n k root + 1) * (isqrtFrom n k root + 1) := by
  induction k generalizing root with
  | zero => exact ⟨low, high⟩
  | succ k ih =>
    rw [isqrtFrom]
    split
    · next fits =>
      refine ih fits ?_
      rwa [Nat.add_assoc, ← Nat.two_mul, ← Nat.pow_succ']
    · next exceeds => exact ih low (Nat.not_le.mp exceeds)

/-- The largest integer whose square is at most a number below 2 ^ 32 (R91). -/
theorem isqrt_spec {n : Nat} (range : n < 2 ^ 32) : isqrt n * isqrt n ≤ n ∧ n < (isqrt n + 1) * (isqrt n + 1) :=
  isqrtFrom_spec 16 (Nat.zero_le n) (by omega)

theorem driveLaw_eq (kp kv : Nat) (e u : Int) : driveLaw kp kv e u = driveOf kp kv e u := by
  have top : Config.driveMax = 1023 := rfl
  simp only [driveLaw, driveOf, clampInt, floorDiv, Int.fdiv_eq_ediv_of_nonneg _ (show (0 : Int) ≤ 64 by decide), top]
  split <;> [skip; split] <;> omega

theorem toward_eq (r t step : Nat) :
    toward r t step = if r < t then r + min step (dist t r) else r - min step (dist t r) := by
  unfold toward dist
  split <;> congr 2 <;> omega

theorem State.paramsInRange.param {s : State} (h : s.paramsInRange) (p : Param) : p.spec.low ≤ s.param p ∧ s.param p ≤ p.spec.high := by
  have range := h p.index
  rw [Param.ofIndex_index] at range
  exact range

theorem State.paramsInRange.speedLimit_pos {s : State} (h : s.paramsInRange) (k : SpeedClass) : 1 ≤ s.speedLimit k := by
  cases k with
  | normal => exact (h.param .vmax).1
  | ret => exact (h.param .vret).1

/-- Off its target a strip moves at a speed of at least one (R91). -/
theorem profileSpeed_pos {accel limit v d : Nat} (accelerates : 1 ≤ accel) (limited : 1 ≤ limit) (range : 2 * accel * d < 2 ^ 32)
    (far : 0 < d) : 1 ≤ profileSpeed accel limit v d := by
  have bound := (isqrt_spec range).2
  have braking : 1 ≤ isqrt (2 * accel * d) := by
    by_contra zero
    have none : isqrt (2 * accel * d) = 0 := by omega
    have least : 1 * 1 ≤ accel * d := Nat.mul_le_mul accelerates far
    rw [none] at bound
    have assoc := Nat.mul_assoc 2 accel d
    omega
  unfold profileSpeed
  omega

/-- A strip's record after a step at a speed toward its target, where it enters SETTLING (R91, R92). -/
def Strip.stepped (p : Strip) (t v : Nat) (time : BitVec 16) : Strip :=
  let q := { p with r := toward p.r t v, v := v }
  if q.r = t then q.enter .settling time else q

section moving

variable {s : State} {i : StripId} {g : Target}

/-- The speed of a MOVING strip's step (R91). -/
def State.stepSpeed (s : State) (p : Strip) (g : Target) : Nat :=
  profileSpeed (s.param .accel) (s.speedLimit p.speed) p.v (dist g.travel p.r)

theorem Strip.stepped_of_reached {p : Strip} {t v : Nat} {time : BitVec 16} (reached : toward p.r t v = t) :
    p.stepped t v time =
      { p with r := t, motion := .settling, v := 0, settled := 0, settleStart := time, speed := .normal, cal := none } := by
  rw [Strip.stepped, reached]
  exact if_pos rfl

theorem Strip.stepped_of_short {p : Strip} {t v : Nat} {time : BitVec 16} (short : toward p.r t v ≠ t) :
    p.stepped t v time = { p with r := toward p.r t v, v := v } := if_neg short

/-- At its target already, a strip enters SETTLING as one that steps there. -/
theorem State.profileStep_strip_self (target : (s.strip i).target = some g) :
    (s.profileStep i).strip i = (s.strip i).stepped g.travel (s.stepSpeed (s.strip i) g) s.ctl.time := by
  have aim : ((s.strip i).target.map Target.travel).getD (s.strip i).r = g.travel := by rw [target]; rfl
  have there : ∀ v, toward g.travel g.travel v = g.travel := fun v => by simp [toward]
  unfold State.profileStep
  dsimp only
  rw [aim]
  split
  · next at_ =>
    rw [State.enter_strip_self, Strip.stepped_of_reached (by rw [← at_, there]), at_]
    rfl
  · split
    · next reached =>
      rw [State.enter_strip_self, State.strip_modStrip_self]
      exact (if_pos reached).symm
    · next short =>
      rw [State.strip_modStrip_self]
      exact (if_neg short).symm

theorem Strip.signedSpeed_of_target {p : Strip} (target : p.target = some g) :
    p.signedSpeed = if p.r < g.travel then (p.v : Int) else if g.travel < p.r then -(p.v : Int) else 0 := by
  simp only [Strip.signedSpeed, target]

/-- What a step at speed `v` toward its target leaves of a MOVING strip (R91, R92). -/
structure Strip.Steps (g : Target) (v : Nat) (time : BitVec 16) (p q : Strip) : Prop where
  r : q.r = toward p.r g.travel v
  reached : q.r = g.travel → q.motion = .settling ∧ q.v = 0 ∧ q.settled = 0 ∧ q.settleStart = time ∧ q.speed = .normal ∧
    q.signedSpeed = 0
  short : q.r ≠ g.travel → q.motion = p.motion ∧ q.v = v ∧ q.speed = p.speed ∧
    q.signedSpeed = if q.r < g.travel then (v : Int) else -v
  m : q.m = p.m
  target : q.target = p.target
  mode : q.mode = p.mode
  moveMarked : q.moveMarked = p.moveMarked
  slices : q.slices = p.slices
  errorTotal : q.errorTotal = p.errorTotal
  recalPending : q.recalPending = p.recalPending
  policy : q.policy = p.policy

theorem Strip.stepped_steps {p : Strip} (target : p.target = some g) (v : Nat) (time : BitVec 16) :
    p.Steps g v time (p.stepped g.travel v time) := by
  have aims : (p.stepped g.travel v time).target = some g := by
    unfold Strip.stepped
    dsimp only
    split <;> exact target
  have signed := Strip.signedSpeed_of_target aims
  by_cases at_ : toward p.r g.travel v = g.travel
  · rw [Strip.stepped_of_reached at_] at signed ⊢
    refine ⟨at_.symm, fun _ => ⟨rfl, rfl, rfl, rfl, rfl, ?_⟩, fun short => absurd rfl short, rfl, rfl, rfl, rfl, rfl, rfl, rfl, rfl⟩
    rw [signed]
    simp
  · rw [Strip.stepped_of_short at_] at signed ⊢
    refine ⟨rfl, fun reached => absurd reached at_, fun _ => ⟨rfl, rfl, rfl, ?_⟩, rfl, rfl, rfl, rfl, rfl, rfl, rfl, rfl⟩
    rw [signed]
    dsimp only
    split
    · rfl
    · exact if_pos (by omega)

/-- The sample of a MOVING strip: its step, the drive law, and the tracking test of what they leave (R88). -/
theorem State.moveSample_spec (moving : (s.strip i).motion = .moving) (target : (s.strip i).target = some g) :
    ∃ step, (s.strip i).Steps g (s.stepSpeed (s.strip i) g) s.ctl.time step ∧
      let p := step.setDrive (driveOf (s.param .kp) (s.param .kv) ((step.r : Int) - step.m) step.signedSpeed)
      let q := (s.moveSample i).strip i
      q = { p with
        moveMarked := step.moveMarked || decide (s.param .trackTolerance < dist step.r step.m)
        slices := q.slices, errorTotal := q.errorTotal, recalPending := q.recalPending } ∧
      s.countsErrors (s.trackErrors step) step q := by
  have stepped := State.profileStep_strip_self target
  have steps := Strip.stepped_steps target (s.stepSpeed (s.strip i) g) s.ctl.time
  rw [← stepped] at steps
  have works : s.WorksAt Strip.standing i (s.profileStep i) := .profileStep
  have driven := works.trans (.driveWith ((s.profileStep i).strip i).signedSpeed)
  refine ⟨_, steps, ?_⟩
  have record : ((s.profileStep i).driveWith i ((s.profileStep i).strip i).signedSpeed).strip i =
      ((s.profileStep i).strip i).setDrive (driveOf (s.param .kp) (s.param .kv)
        ((((s.profileStep i).strip i).r : Int) - ((s.profileStep i).strip i).m) ((s.profileStep i).strip i).signedSpeed) := by
    rw [State.driveWith, State.strip_modStrip_self, works.param, works.param, driveLaw_eq]
  have away : ((s.profileStep i).strip i).motion ≠ .idle := by
    by_cases reached : ((s.profileStep i).strip i).r = g.travel
    · simp [(steps.reached reached).1]
    · simp [(steps.short reached).1, moving]
  have spec := State.trackTest_spec (s := (s.profileStep i).driveWith i ((s.profileStep i).strip i).signedSpeed) (i := i)
    (by rw [record]; exact away)
  simp only [State.countsErrors, State.trackErrors, driven.param, record] at spec
  exact spec

end moving

/-! ## Samples on a schedule that has started (R87, R88) -/

namespace State.sampling

variable {s : State} {i : StripId} {raw : BitVec 12} {due : Nat} (h : s.sampling i raw due)
include h

theorem exec_eq : exec (.servoSample i) s = .next (s.sample i) := by
  obtain ⟨run, read, -⟩ := h
  exact exec_servoSample run read i

theorem judged_eq : s.judged i = (s.reach due).modStrip i fun p => p.sampledAt due raw.toNat := by
  obtain ⟨-, -, reading, at_, timed, -⟩ := h
  exact State.judged_of_due reading at_ timed

theorem judged_strip : (s.judged i).strip i = (s.strip i).sampledAt due raw.toNat := by
  rw [h.judged_eq, State.strip_modStrip_self, State.strip_reach]

theorem judged_ctl : (s.judged i).ctl = s.ctl := by rw [h.judged_eq]; rfl

theorem judged_port : (s.judged i).port = s.port := by rw [h.judged_eq]; rfl

theorem judged_param (p : Param) : (s.judged i).param p = s.param p := State.param_congr (by rw [h.judged_ctl]) p

theorem sample_eq : s.sample i = ((s.judged i).sampleWork i raw.toNat).evalLine i := by
  have judged := h.judged_strip
  obtain ⟨-, -, reading, -, -, settled⟩ := h
  rw [State.sample_of_none (by rw [judged]; exact settled), State.rawOf_of_reading reading]

/-- The line apart, a sample leaves of its strip what the work of the sample leaves (R88). -/
theorem sample_strip : (s.sample i).strip i = { ((s.judged i).sampleWork i raw.toNat).strip i with
    line := (((s.judged i).sampleWork i raw.toNat).strip i).sampledLine } := by
  rw [h.sample_eq, State.evalLine_strip_self]

theorem sample_others (j : StripId) (other : j ≠ i) : (s.sample i).strip j = s.strip j := by
  have works : (s.judged i).WorksAt Strip.standing i ((s.judged i).sampleWork i raw.toNat) := .sampleWork _
  rw [h.sample_eq, State.evalLine_strip_ne _ other, works.others j other, h.judged_eq, State.strip_modStrip_ne _ other,
    State.strip_reach]

end State.sampling

/-- The speed of a step, by the integer root that its braking bound is (R91). -/
theorem State.stepSpeed_spec {s : State} {p : Strip} {g : Target} (params : s.paramsInRange) (r : p.r ≤ 4095)
    (t : g.travel ≤ 4095) :
    let d := dist g.travel p.r
    ∃ b, b * b ≤ 2 * s.param .accel * d ∧ 2 * s.param .accel * d < (b + 1) * (b + 1) ∧
      s.stepSpeed p g = min (min (p.v + s.param .accel) (if p.speed = .normal then s.param .vmax else s.param .vret)) b ∧
      (0 < d → 1 ≤ s.stepSpeed p g) := by
  have accel := params.param .accel
  have near : dist g.travel p.r ≤ 4095 := by
    unfold dist
    omega
  have range : 2 * s.param .accel * dist g.travel p.r < 2 ^ 32 :=
    (Nat.mul_le_mul (Nat.mul_le_mul_left 2 accel.2) near).trans_lt (by decide)
  obtain ⟨low, high⟩ := isqrt_spec range
  refine ⟨_, low, high, ?_, profileSpeed_pos accel.1 (params.speedLimit_pos _) range⟩
  unfold State.stepSpeed profileSpeed State.speedLimit
  cases p.speed <;> rfl

/-- Settles O44: the step, the drive and the tracking test are read off the record that a MOVING sample leaves. -/
theorem movingSamplesStepTheReference : Obligations.MovingSamplesStepTheReference := by
  intro i raw due g s sampling params strips moving target
  obtain ⟨-, -, r, aims, -⟩ := strips i
  have judged := sampling.judged_strip
  have record := sampling.sample_strip
  have others := sampling.sample_others
  have work : (s.judged i).sampleWork i raw.toNat = (s.judged i).moveSample i := by
    simp only [State.sampleWork, judged, Strip.sampledAt, moving]
  obtain ⟨b, low, high, speed, moves⟩ := State.stepSpeed_spec (s := s) (p := s.strip i) params r (aims g target)
  have same : (s.judged i).stepSpeed ((s.judged i).strip i) g = s.stepSpeed (s.strip i) g := by
    rw [judged]
    simp only [State.stepSpeed, State.speedLimit, sampling.judged_param]
    rfl
  obtain ⟨step, steps, left, counts⟩ := State.moveSample_spec (s := s.judged i) (i := i) (g := g)
    (by rw [judged]; exact moving) (by rw [judged]; exact target)
  rw [same, judged, sampling.judged_ctl] at steps
  have counts := counts.of_param sampling.judged_param
  simp only [sampling.judged_param] at left counts
  rw [work] at record
  refine ⟨_, sampling.exec_eq, ?_⟩
  generalize ((s.judged i).moveSample i).strip i = q at record left counts
  generalize s.sample i = t at record others
  generalize s.stepSpeed (s.strip i) g = v at speed moves steps
  obtain ⟨at_, reached, short, m, target', mode, mark, slices, total, recal, policy⟩ := steps
  have m : step.m = measured (s.strip i).calibration raw.toNat := m
  have lag : (s.judged i).trackErrors step = if s.param .trackTolerance <
      dist step.r (measured (s.strip i).calibration raw.toNat) ∧ (s.strip i).moveMarked = false then 1 else 0 := by
    simp only [State.trackErrors, sampling.judged_param, m, mark]
    rfl
  rw [lag] at counts
  dsimp only
  rw [record, left]
  dsimp only [Strip.setDrive]
  refine ⟨m, target', mode, ⟨b, v, low, high, speed, moves, at_.trans (toward_eq ..), fun away => ?_⟩, fun there => ?_,
    fun lags => ?_, fun near => ?_, ?_, others⟩
  · obtain ⟨motion, v', speed', signed⟩ := short away
    exact ⟨motion.trans moving, v', speed', by rw [signed, m]; rfl⟩
  · obtain ⟨motion, v', settled, start, speed', signed⟩ := reached there
    exact ⟨motion, v', settled, start, speed', by rw [signed, m]⟩
  · rw [m, decide_eq_true lags, Bool.or_true]
  · rw [m, decide_eq_false (Nat.not_lt.mpr near), Bool.or_false]
    exact mark
  · exact State.countsErrors.of_same counts slices total recal policy

end Sys2Proof.Machine
end

section
namespace Sys2Proof.Machine

open Sys2Proof

/-! ## The FAULT cause and the entries behind it (R97, R200, R203) -/

namespace State

variable {s t : State}

theorem Requests.faultCause (h : s.Requests t) : t.ctl.faultCause = s.ctl.faultCause := by
  obtain ⟨-, ⟨_, _, _, ctl⟩, -, -⟩ := h
  rw [ctl]

theorem loseEvent_faultCause (s : State) : s.loseEvent.ctl.faultCause = s.ctl.faultCause := by
  unfold State.loseEvent
  dsimp only
  split
  · exact (State.modCauses_requests _ _).faultCause.trans (State.requestStatus_requests _ _).faultCause
  · exact (State.modCauses_requests _ _).faultCause

theorem deliverEvent_faultCause (s : State) (kind : EventKind) (index : BitVec 8) (v n : BitVec 16) :
    (s.deliverEvent kind index v n).ctl.faultCause = s.ctl.faultCause := by
  have sent := (((s.pushEntry (s.ctl.slotAddr s.ctl.producer) (.event (eventWord0 kind index n)
    (eventWord1 v s.ctl.time))).modCtl fun c => { c with producer := c.nextProducer }).requestStatus_requests .producer).faultCause
  unfold State.deliverEvent
  dsimp only
  split
  · exact sent
  · exact (State.requestStatus_requests _ _).faultCause.trans sent

theorem createEvent_faultCause (s : State) (kind : EventKind) (index : BitVec 8) (v : BitVec 16) :
    (s.createEvent kind index v).ctl.faultCause = s.ctl.faultCause := by
  unfold State.createEvent
  dsimp only
  split
  · rfl
  · split
    · exact State.loseEvent_faultCause _
    · exact State.deliverEvent_faultCause ..

theorem setFault_faultCause (s : State) : s.setFault.ctl.faultCause = true := (State.modCauses_requests _ _).faultCause

theorem evalLine_faultCause (s : State) (i : StripId) : (s.evalLine i).ctl.faultCause = s.ctl.faultCause := by
  unfold State.evalLine State.setLine
  split
  · rfl
  · exact State.createEvent_faultCause ..

/-- The evaluation of a line leaves the entries that stand, STATUS apart. -/
theorem evalLine_others (s : State) (i : StripId) (e : InjEntry) (mem : e ∈ s.port.others) : e ∈ (s.evalLine i).port.others := by
  unfold State.evalLine State.setLine
  split
  · exact mem
  · exact (State.Stands.createEvent ..).entries e mem

end State

/-! ## A SETTLING sample before its outcome (R96, R98) -/

section settling

variable {s : State} {i : StripId}

/-- The drive and the settle count of a SETTLING sample (R94, R96). -/
theorem State.settleDrive_strip_self (s : State) (i : StripId) :
    let p := s.strip i
    (s.settleDrive i).strip i = if dist p.r p.m ≤ s.param .deadband then { p with settled := p.settled + 1 }.setDrive 0
      else { p with settled := 0 }.setDrive (driveOf (s.param .kp) (s.param .kv) ((p.r : Int) - p.m) 0) := by
  have near : s.nearReference i = true ↔ dist (s.strip i).r (s.strip i).m ≤ s.param .deadband := by simp [State.nearReference]
  simp only [State.settleDrive, near]
  split
  · rw [State.strip_modStrip_self]
  · rw [State.driveWith, State.strip_modStrip_self, State.strip_modStrip_self, driveLaw_eq]
    rfl

/-- A SETTLING strip with its drive, its count and its tracking test, whatever the sample's outcome (R94, R96, R98). -/
structure State.SettleWork (s : State) (p q : Strip) : Prop where
  m : q.m = p.m
  r : q.r = p.r
  target : q.target = p.target
  mode : q.mode = p.mode
  touched : q.touched = p.touched
  motion : q.motion = p.motion
  policy : q.policy = p.policy
  settled : q.settled = if dist p.r p.m ≤ s.param .deadband then p.settled + 1 else 0
  drive : q.drive = if dist p.r p.m ≤ s.param .deadband then 0
    else driveOf (s.param .kp) (s.param .kv) ((p.r : Int) - p.m) 0
  moveMarked : q.moveMarked = (p.moveMarked || decide (s.param .trackTolerance < dist p.r p.m))
  counts : s.countsErrors (s.trackErrors p) p q

theorem State.settleTracked (settling : (s.strip i).motion = .settling) :
    s.SettleWork (s.strip i) (((s.settleDrive i).trackTest i).strip i) := by
  have record := s.settleDrive_strip_self i
  have works : s.WorksAt Strip.standing i (s.settleDrive i) := .settleDrive
  obtain ⟨left, counts⟩ := State.trackTest_spec (s := s.settleDrive i) (i := i) (by
    rw [State.settleDrive_motion, settling]
    exact nofun)
  have counts := counts.of_param works.param
  simp only [State.trackErrors, works.param] at left counts
  generalize ((s.settleDrive i).trackTest i).strip i = q at left counts
  generalize (s.settleDrive i).strip i = d at record left counts
  obtain ⟨m, r, target, mode, touched, motion, policy, mark, slices, total, recal⟩ :
      d.m = (s.strip i).m ∧ d.r = (s.strip i).r ∧ d.target = (s.strip i).target ∧ d.mode = (s.strip i).mode ∧
      d.touched = (s.strip i).touched ∧ d.motion = (s.strip i).motion ∧ d.policy = (s.strip i).policy ∧
      d.moveMarked = (s.strip i).moveMarked ∧ d.slices = (s.strip i).slices ∧ d.errorTotal = (s.strip i).errorTotal ∧
      d.recalPending = (s.strip i).recalPending := by
    rw [record]
    split <;> exact ⟨rfl, rfl, rfl, rfl, rfl, rfl, rfl, rfl, rfl, rfl, rfl⟩
  constructor
  case counts =>
    rw [m, r, mark] at counts
    exact counts.of_same slices total recal policy
  case settled =>
    rw [left, record]
    split <;> rfl
  case drive =>
    rw [left, record]
    split <;> rfl
  all_goals
    rw [left]
    simp only [m, r, target, mode, touched, motion, policy, mark]

/-! ## The outcomes of a SETTLING sample (R96, R97, R157) -/

/-- A strip that comes to rest is IDLE, or QUEUED when a calibration is owed to it (R65, R157). -/
theorem State.rest_strip_self (s : State) (i : StripId) :
    let p := s.strip i
    (s.rest i).strip i = { p with
      motion := if p.mode.motorised && !p.touched && p.recalPending then .queued else .idle
      v := 0, latch := false, drive := 0, cal := none } := by
  have idle : (s.enter i .idle).strip i = { s.strip i with motion := .idle, v := 0, latch := false, drive := 0, cal := none } :=
    State.enter_strip_self ..
  rw [State.rest, State.recalAtRest_strip_self, idle]
  dsimp only [Strip.ready]
  cases owed : (s.strip i).mode.motorised && !(s.strip i).touched && (s.strip i).recalPending with
  | true =>
    obtain ⟨ready, pending⟩ := Bool.and_eq_true_iff.mp owed
    exact (if_pos ⟨rfl, ready, pending⟩).trans rfl
  | false =>
    refine if_neg fun ⟨_, ready, pending⟩ => ?_
    rw [ready, pending] at owed
    cases owed

theorem State.countError_frame (s : State) (i : StripId) : (s.countError i).port = s.port ∧ (s.countError i).ctl = s.ctl := by
  unfold State.countError
  dsimp only
  split <;> simp

theorem State.trackTest_frame (s : State) (i : StripId) : (s.trackTest i).port = s.port ∧ (s.trackTest i).ctl = s.ctl := by
  unfold State.trackTest
  dsimp only
  split
  · exact State.countError_frame _ i
  · exact ⟨rfl, rfl⟩

theorem State.settleDrive_frame (s : State) (i : StripId) :
    (s.settleDrive i).port = s.port ∧ (s.settleDrive i).ctl = s.ctl := by
  unfold State.settleDrive State.driveWith
  split <;> exact ⟨rfl, rfl⟩

/-- What a settle timeout leaves of its strip, the FAULT cause and the STALL entry (R97). -/
theorem State.stall_spec (s : State) (i : StripId) :
    let p := s.strip i
    let q := (s.stall i).strip i
    q = { p with
      motion := .stalled, v := 0, speed := .normal, drive := 0, cal := none
      slices := q.slices, errorTotal := q.errorTotal, recalPending := q.recalPending } ∧
    s.countsErrors 1 p q ∧ (s.stall i).ctl.faultCause = true ∧
    (s.ringHasRoom → ∃ e ∈ (s.stall i).port.others, e.body = .event
      (eventWord0 .stall (BitVec.ofNat 8 i.val) s.ctl.serial) (eventWord1 (BitVec.ofNat 16 (dist p.r p.m)) s.ctl.time)) := by
  have entered : (s.enter i .stalled).strip i = { s.strip i with
      motion := .stalled, v := 0, speed := .normal, drive := 0, cal := none } := State.enter_strip_self ..
  obtain ⟨left, counts⟩ := State.countError_spec (s := s.enter i .stalled) (i := i) (by rw [entered]; exact nofun)
  have counts := counts.of_param (s := s) fun _ => State.enter_param ..
  have same : (s.stall i).strip i = ((s.enter i .stalled).countError i).strip i := by
    simp [State.stall]
  dsimp only
  rw [same]
  generalize ((s.enter i .stalled).countError i).strip i = q at left counts
  rw [entered] at left counts
  refine ⟨left, counts.of_same rfl rfl rfl rfl, State.setFault_faultCause _, fun room => ?_⟩
  obtain ⟨port, ctl⟩ := (s.enter i .stalled).countError_frame i
  rw [State.enter_port] at port
  rw [State.enter_ctl] at ctl
  obtain ⟨e, mem, body⟩ := State.createEvent_delivered (s := (s.enter i .stalled).countError i)
    (by simpa only [State.ringHasRoom, port, ctl] using room) .stall (BitVec.ofNat 8 i.val)
    (field16 (dist (s.strip i).r (s.strip i).m))
  rw [ctl] at body
  have other : e.isStatus = false := by simp [InjEntry.isStatus, body]
  exact ⟨e, (State.WorksAt.setFault (view := id) (i := i) _).entries e (ImagePort.mem_others.mpr ⟨mem, other⟩), body⟩

theorem State.settlesNow_iff (settling : (s.strip i).motion = .settling) : s.settlesNow i = true ↔
    dist (s.strip i).r (s.strip i).m ≤ s.param .deadband ∧ s.param .settleCount ≤ (s.strip i).settled + 1 := by
  simp [State.settlesNow, State.nearReference, settling]

theorem State.timesOutNow_iff (settling : (s.strip i).motion = .settling) : s.timesOutNow i = true ↔
    ¬ s.settlesNow i = true ∧ s.param .settleTimeout ≤ (s.ctl.time - (s.strip i).settleStart).toNat := by
  simp only [State.timesOutNow, settling, beq_self_eq_true, Bool.true_and, Bool.and_eq_true, Bool.not_eq_true',
    Bool.not_eq_true, decide_eq_true_eq]
  rfl

/-- What a sample leaves of a SETTLING strip, by its outcome (R96 to R98). -/
theorem State.settleSample_spec (settling : (s.strip i).motion = .settling) :
    let p := s.strip i
    let t := s.settleSample i
    let q := t.strip i
    q.m = p.m ∧ q.r = p.r ∧ q.target = p.target ∧
    q.moveMarked = (p.moveMarked || decide (s.param .trackTolerance < dist p.r p.m)) ∧
    s.countsErrors (s.trackErrors p + if s.timesOutNow i then 1 else 0) p q ∧
    (s.settlesNow i = true → q.drive = 0 ∧ q.v = 0 ∧ q.latch = false ∧
      q.motion = if p.mode.motorised && !p.touched && q.recalPending then .queued else .idle) ∧
    (s.timesOutNow i = true → q.motion = .stalled ∧ q.drive = 0 ∧ t.ctl.faultCause = true ∧
      (s.ringHasRoom → ∃ e ∈ t.port.others, e.body = .event (eventWord0 .stall (BitVec.ofNat 8 i.val) s.ctl.serial)
        (eventWord1 (BitVec.ofNat 16 (dist p.r p.m)) s.ctl.time))) ∧
    (¬ s.settlesNow i = true → ¬ s.timesOutNow i = true → q.motion = .settling ∧
      q.settled = (if dist p.r p.m ≤ s.param .deadband then p.settled + 1 else 0) ∧
      q.drive = if dist p.r p.m ≤ s.param .deadband then 0
        else driveOf (s.param .kp) (s.param .kv) ((p.r : Int) - p.m) 0) := by
  have exclusive := (State.timesOutNow_iff settling).mp
  have works : s.WorksAt Strip.standing i ((s.settleDrive i).trackTest i) := .trans .settleDrive .trackTest
  obtain ⟨port, ctl⟩ := (s.settleDrive i).trackTest_frame i
  obtain ⟨port', ctl'⟩ := s.settleDrive_frame i
  obtain ⟨m, r, target, mode, touched, motion, policy, settled, drive, mark, counts⟩ := State.settleTracked settling
  rw [port'] at port
  rw [ctl'] at ctl
  unfold State.settleSample
  dsimp only
  generalize (s.settleDrive i).trackTest i = u at works m r target mode touched motion policy settled drive mark counts port ctl
  split
  · next now =>
    have late : s.timesOutNow i = false := by
      by_contra late
      exact (exclusive (by simpa using late)).1 now
    rw [State.rest_strip_self, late]
    refine ⟨m, r, target, mark, counts, fun _ => ⟨rfl, rfl, rfl, ?_⟩, nofun, fun settles => absurd now settles⟩
    rw [mode, touched]
  · next never =>
    split
    · next late =>
      obtain ⟨left, error, fault, told⟩ := u.stall_spec i
      have counts := counts.trans (error.of_param works.param) policy
      generalize (u.stall i).strip i = q at left counts
      refine ⟨?_, ?_, ?_, ?_, ?_, fun now => absurd now never, fun _ => ⟨?_, ?_, fault, fun room => ?_⟩,
        fun _ early => absurd late early⟩
      · rw [left, ← m]
      · rw [left, ← r]
      · rw [left, ← target]
      · rw [left, ← mark]
      · exact counts
      · rw [left]
      · rw [left]
      · obtain ⟨e, mem, body⟩ := told (by simpa only [State.ringHasRoom, port, ctl] using room)
        rw [ctl, r, m] at body
        exact ⟨e, mem, body⟩
    · next early =>
      exact ⟨m, r, target, mark, counts, fun now => absurd now never, fun late => absurd late early,
        fun _ _ => ⟨motion.trans settling, settled, drive⟩⟩

theorem exec_settled (run : s.inReset = false) (read : s.allRead = true) (i : StripId) :
    exec (.settled i) s = .next (if (s.judged i).settlesNow i then s.sample i else s) := by
  refine (live_running (f := fun s => if s.allRead ∧ (s.judged i).settlesNow i then s.sample i else s) run).trans ?_
  simp only [read, true_and]

theorem exec_settleTimeout (run : s.inReset = false) (read : s.allRead = true) (i : StripId) :
    exec (.settleTimeout i) s = .next (if (s.judged i).timesOutNow i then s.sample i else s) := by
  refine (live_running (f := fun s => if s.allRead ∧ (s.judged i).timesOutNow i then s.sample i else s) run).trans ?_
  simp only [read, true_and]

end settling

/-- Settles O45: the outcome of a SETTLING sample is judged in the state that its measurement leaves. -/
theorem settlingSamplesSettleOrStall : Obligations.SettlingSamplesSettleOrStall := by
  intro i raw due s sampling settling p m' lag near done late
  have judged := sampling.judged_strip
  have ctl := sampling.judged_ctl
  have settling' : ((s.judged i).strip i).motion = .settling := by rw [judged]; exact settling
  have settles : (s.judged i).settlesNow i = true ↔ done := by
    rw [State.settlesNow_iff settling', judged, sampling.judged_param, sampling.judged_param]
    rfl
  have times : (s.judged i).timesOutNow i = true ↔ late := by
    rw [State.timesOutNow_iff settling', settles, judged, sampling.judged_param, ctl]
    rfl
  have ⟨run, read, _⟩ := sampling
  have work : (s.judged i).sampleWork i raw.toNat = (s.judged i).settleSample i := by
    simp only [State.sampleWork, settling']
  have record := sampling.sample_strip
  have result := sampling.sample_eq
  have others := sampling.sample_others
  obtain ⟨m, r, target, mark, counts, rests, stalls, goes⟩ := State.settleSample_spec settling'
  rw [work] at record result
  have tracked : (s.judged i).trackErrors ((s.judged i).strip i) =
      if s.param .trackTolerance < lag ∧ p.moveMarked = false then 1 else 0 := by
    rw [judged, State.trackErrors, sampling.judged_param]
    rfl
  have counts := counts.of_param sampling.judged_param
  rw [tracked, if_congr times rfl rfl, judged] at counts
  simp only [sampling.judged_param, sampling.judged_port, State.ringHasRoom, ctl, judged] at m r target mark rests stalls goes
  refine ⟨_, sampling.exec_eq, ?_⟩
  rw [record]
  refine ⟨m, r, target, mark, counts.of_same rfl rfl rfl rfl, fun now => ?_, fun never => ?_, fun now => ?_, fun never => ?_,
    fun never early => ?_, others⟩
  · rw [exec_settled run read, if_pos (settles.mpr now)]
    exact ⟨rfl, rests (settles.mpr now)⟩
  · rw [exec_settled run read, if_neg (mt settles.mp never)]
  · obtain ⟨motion, drive, fault, told⟩ := stalls (times.mpr now)
    rw [exec_settleTimeout run read, if_pos (times.mpr now)]
    refine ⟨rfl, motion, drive, ?_, fun room => ?_⟩
    · rw [result, State.evalLine_faultCause]
      exact fault
    · obtain ⟨e, mem, body⟩ := told room
      have stays := ((s.judged i).settleSample i).evalLine_others i e mem
      rw [← result] at stays
      exact ⟨e, (ImagePort.mem_others.mp stays).1, body⟩
  · rw [exec_settleTimeout run read, if_neg (mt times.mp never)]
  · exact goes (mt settles.mp never) (mt times.mp early)

end Sys2Proof.Machine
end

section
namespace Sys2Proof.Machine

open Sys2Proof

/-! ## What an adoption makes of its strip (R78, R129) -/

/-- What a hold leaves of a strip: all that it stands for, its recal pending flag, and whether it is STALLED or PARKED. -/
def Strip.heldView (p : Strip) : Strip × Bool × Bool × Bool :=
  (p.standing, p.recalPending, p.motion == .stalled, p.motion == .parked)

/-- A strip's record when it takes a channel, or none (R129). -/
def Strip.takes (p : Strip) (x : Option ChanId) : Strip :=
  { p with shown := x, opCode := none, lastReadback := none, waiting := none }

/-- A strip's record when it becomes conflict-blank on a channel (R129). -/
def Strip.blankOn (p : Strip) (c : ChanId) : Strip := { p.takes none with conflict := some c }

section adoption

variable {s t : State} {i : StripId} {x : Option ChanId} {c : ChanId}

namespace State.WorksAt

theorem hold (s : State) (i : StripId) : s.WorksAt Strip.heldView i (s.hold i) := by
  refine of_strips ?_ fun _ other => State.hold_strip_ne s other
  obtain ⟨queued, moving, still, -⟩ := s.hold_tookHold i
  by_cases move : (s.strip i).motion = .queued ∧ s.purposeOf i = some .move
  · rw [(queued move.1 move.2).1]
    unfold Strip.heldView
    dsimp only
    rw [move.1]
    split <;> rfl
  · by_cases moves : (s.strip i).motion = .moving
    · rw [moving moves]
      unfold Strip.heldView
      dsimp only
      rw [moves]
      rfl
    · rw [still moves move]
      rfl

/-- The strip that a failed fetch holds is the one that shows the channel (R39). -/
theorem fetchFailed (only : ∀ j, (s.strip j).shown = some c → j = i) (v : BitVec 16) :
    s.WorksAt Strip.heldView i (s.fetchFailed c v) := by
  have told : s.WorksAt Strip.heldView i (s.createEvent .fetchError (BitVec.ofNat 8 c.val) v) := createEvent ..
  unfold State.fetchFailed
  dsimp only
  split
  · next k shows =>
    have shown := State.shown_of_shownBy shows
    rw [State.createEvent_strip] at shown
    cases only k shown
    exact told.trans (hold ..)
  · exact told

theorem requestFetch (only : ∀ j, (s.strip j).shown = some c → j = i) : s.WorksAt Strip.heldView i (s.requestFetch c) := by
  unfold State.requestFetch
  split
  · exact refl
  · split
    · exact refl
    · split
      · refine of_stands ⟨by simp, by simp, by simp, fun e mem => ?_⟩
        rw [State.pushEntry_others _ rfl]
        exact List.mem_append_left _ mem
      · exact fetchFailed only _

theorem unmapped (s : State) (i : StripId) (c : ChanId) : s.WorksAt Strip.heldView i (s.unmapped i c) :=
  (createEvent ..).trans (hold ..)

theorem layerApplied {α : Type} {view : Strip → α} (s : State) (i k : StripId) : s.WorksAt view i (s.layerApplied k) :=
  createEvent ..

theorem convertChannel (s : State) (i : StripId) (c : ChanId) (o : Bool) {α : Type} (view : Strip → α) :
    s.WorksAt view i (s.convertChannel c o) := of_stands .of_port

/-- A strip that takes a channel that no other strip shows asks for it, or holds (R129). -/
theorem takeChannel (free : ∀ c, x = some c → ∀ j, j ≠ i → (s.strip j).shown ≠ some c) :
    (s.modStrip i fun p => p.takes x).WorksAt Strip.heldView i (s.takeChannel i x) := by
  have only : ∀ c, x = some c → ∀ j, ((s.modStrip i fun p => p.takes x).strip j).shown = some c → j = i := by
    intro c own j shows
    by_contra other
    rw [State.strip_modStrip_ne _ other] at shows
    exact free c own j other shows
  unfold State.takeChannel
  dsimp only
  split
  · exact hold ..
  · split
    · exact convertChannel ..
    · split
      · exact (requestFetch (only _ rfl)).trans (hold ..)
      · exact unmapped ..

/-- A change of the same fields before a work and after it. -/
theorem modStrip_of {α : Type} {view : Strip → α} {g : Strip → Strip} (h : s.WorksAt view i t) (f : α → α)
    (shows : ∀ p, view (g p) = f (view p)) : (s.modStrip i g).WorksAt view i (t.modStrip i g) where
  toStands := ⟨h.params, h.chans, h.clock, h.entries⟩
  own := by rw [State.strip_modStrip_self, State.strip_modStrip_self, shows, shows, h.own]
  others j other := by rw [State.strip_modStrip_ne _ other, State.strip_modStrip_ne _ other, h.others j other]

end State.WorksAt

/-- All that an adoption can make of a strip's record: it takes the channel, or, where another strip shows it, becomes conflict-blank on it (R129). -/
inductive State.Adopts (s : State) (i : StripId) : Option ChanId → (Strip → Strip) → Prop
  | taken {x : Option ChanId} (free : ∀ c, x = some c → ∀ j, j ≠ i → (s.strip j).shown ≠ some c) :
      Adopts s i x fun p => p.takes x
  | blank {c : ChanId} {j : StripId} (other : j ≠ i) (shows : (s.strip j).shown = some c) :
      Adopts s i (some c) fun p => p.blankOn c

theorem State.shownElsewhere_iff : s.shownElsewhere i c = true ↔ ∃ j, j ≠ i ∧ (s.strip j).shown = some c := by
  simp [State.shownElsewhere, allStrips]

theorem State.adopt_adopts (s : State) (i : StripId) (x : Option ChanId) :
    ∃ f, s.Adopts i x f ∧ (s.modStrip i f).WorksAt Strip.heldView i (s.adopt i x) := by
  have none : s.Adopts i none fun p => p.takes none := .taken nofun
  unfold State.adopt
  split
  · next c =>
    split
    · next elsewhere =>
      obtain ⟨j, other, shows⟩ := State.shownElsewhere_iff.mp elsewhere
      have blanked := (State.WorksAt.takeChannel (s := s) (i := i) (x := .none) nofun).modStrip_of
        (g := fun p => { p with conflict := some c }) (fun ⟨p, v⟩ => ({ p with conflict := some c }, v)) fun _ => rfl
      rw [State.modStrip_modStrip] at blanked
      exact ⟨_, .blank other shows, blanked⟩
    · next unshown =>
      have free : ∀ d, some c = some d → ∀ j, j ≠ i → (s.strip j).shown ≠ some d := by
        rintro d ⟨⟩ j other shows
        exact unshown (State.shownElsewhere_iff.mpr ⟨j, other, shows⟩)
      exact ⟨_, .taken free, .takeChannel free⟩
  · exact ⟨_, none, .takeChannel nofun⟩

/-- A strip that adopted waits for nothing, and has no operator code (R129). -/
theorem State.Adopts.settled {f : Strip → Strip} (h : s.Adopts i x f) (p : Strip) :
    (f p).waiting = none ∧ (f p).opCode = none ∧ (f p).lastReadback = none := by
  cases h <;> exact ⟨rfl, rfl, rfl⟩

/-- But for what it shows and what it waits for, a strip stands as before it adopted. -/
theorem State.Adopts.keeps {f : Strip → Strip} (h : s.Adopts i x f) (p : Strip) :
    (f p).mode = p.mode ∧ (f p).touched = p.touched ∧ (f p).m = p.m ∧ (f p).line = p.line ∧ (f p).debounce = p.debounce ∧
    (f p).recalPending = p.recalPending ∧ (f p).motion = p.motion := by
  cases h <;> exact ⟨rfl, rfl, rfl, rfl, rfl, rfl, rfl⟩

/-! ## The conflict release (R130) -/

theorem State.meetsDeferral_iff : s.meetsDeferral i = true ↔ s.defers i := by
  simp [State.meetsDeferral, State.openDefers, State.defers]

/-- The strip is the lowest that is conflict-blank on the channel. -/
def State.firstBlank (s : State) (c : ChanId) (k : StripId) : Prop :=
  (s.strip k).conflict = some c ∧ ∀ j, j < k → (s.strip j).conflict ≠ some c

/-- All that the release of a channel given up can do: nothing, or the lowest strip that is conflict-blank on it defers on it or adopts it (R130). -/
inductive State.ConflictRelease (s : State) (c : ChanId) : State → Prop
  | nobody (none : ∀ k, (s.strip k).conflict ≠ some c) : ConflictRelease s c s
  | defers {k : StripId} (first : s.firstBlank c k) (defers : s.defers k) :
      ConflictRelease s c (s.modStrip k fun p => { p with conflict := none, waiting := some (some c) })
  | adopts {k : StripId} (first : s.firstBlank c k) (free : ¬ s.defers k) :
      ConflictRelease s c (((s.modStrip k fun p => { p with conflict := none }).adopt k (some c)).layerApplied k)

theorem State.releaseConflict_release (s : State) (c : ChanId) : s.ConflictRelease c (s.releaseConflict c) := by
  unfold State.releaseConflict
  split
  · next none => exact .nobody fun k blank => by simpa [blank] using List.find?_eq_none.mp none k (List.mem_finRange k)
  · next k found =>
    have first : s.firstBlank c k := by
      rw [allStrips, ← Fin.find?_eq_find?_finRange, Fin.find?_eq_some_iff] at found
      simpa [State.firstBlank] using found
    split
    · next defers => exact .defers first (State.meetsDeferral_iff.mp defers)
    · next free => exact .adopts first (mt State.meetsDeferral_iff.mpr free)

/-- What the release leaves of the strip that adopts: it shows the channel, and nothing keeps it from it (R130). -/
theorem State.WorksAt.releaseAdoption {k : StripId} (given : ∀ j, (s.strip j).shown ≠ some c) :
    (s.modStrip k fun p => { p.takes (some c) with conflict := none }).WorksAt Strip.heldView k
      (((s.modStrip k fun p => { p with conflict := none }).adopt k (some c)).layerApplied k) := by
  obtain ⟨f, adopts, works⟩ := (s.modStrip k fun p => { p with conflict := none }).adopt_adopts k (some c)
  have told := works.trans (.layerApplied _ k k)
  rw [State.modStrip_modStrip] at told
  cases adopts with
  | taken => exact told
  | blank other shows =>
    rw [State.strip_modStrip_ne _ other] at shows
    exact absurd shows (given _)

/-- A strip that no longer shows a channel gives it up, to the release (R130). -/
theorem State.giveUp_cases (s : State) (i : StripId) (old : Option ChanId) :
    (s.giveUp i old = s ∧ ∀ y, old = some y → (s.strip i).shown = some y) ∨
    ∃ y, old = some y ∧ (s.strip i).shown ≠ some y ∧ s.ConflictRelease y (s.giveUp i old) := by
  unfold State.giveUp
  split
  · next y =>
    split
    · next shows =>
      refine .inl ⟨rfl, ?_⟩
      rintro _ ⟨⟩
      exact shows
    · next gone => exact .inr ⟨y, rfl, gone, s.releaseConflict_release y⟩
  · exact .inl ⟨rfl, nofun⟩

/-- A strip with a pending channel, beside strips that show channels of their own. -/
structure State.Deferred (s : State) (i : StripId) : Prop where
  distinct : ∀ j k c, (s.strip j).shown = some c → (s.strip k).shown = some c → j = k
  unblocked : (s.strip i).conflict = none

/-- The conflict release after a strip's adoption meets no strip but the others, and none shows the channel given up. -/
structure State.GivesUp (s u : State) (i : StripId) (y : ChanId) : Prop where
  shown : (s.strip i).shown = some y
  gone : (u.strip i).shown ≠ some y
  unblocked : (u.strip i).conflict ≠ some y
  given : ∀ j, (u.strip j).shown ≠ some y

/-- All that the adoption of a pending channel can do: the strip adopts, and another strip is released when it gives a channel up (R130, R131). -/
theorem State.adoptPending_cases (h : s.Deferred i) (x : Option ChanId) :
    let u := (s.adopt i x).layerApplied i
    ∃ f, s.Adopts i x f ∧ (s.modStrip i f).WorksAt Strip.heldView i u ∧
      (s.adoptPending i x = u ∧ s.gaveUp u i = none ∨
        ∃ y, s.GivesUp u i y ∧ s.gaveUp u i = some y ∧ u.ConflictRelease y (s.adoptPending i x)) := by
  obtain ⟨f, adopts, works⟩ := s.adopt_adopts i x
  have told := works.trans (.layerApplied _ i i)
  refine ⟨f, adopts, told, ?_⟩
  obtain ⟨same, shows⟩ | ⟨y, old, gone, release⟩ := ((s.adopt i x).layerApplied i).giveUp_cases i (s.strip i).shown
  · refine .inl ⟨same, ?_⟩
    unfold State.gaveUp
    split
    · rfl
    · next changed =>
      cases was : (s.strip i).shown with
      | none => rfl
      | some y => exact absurd ((shows y was).trans was.symm) changed
  · have others : ∀ j, j ≠ i → (((s.adopt i x).layerApplied i).strip j).shown = (s.strip j).shown := fun j other => by
      have kept := told.others j other
      rw [State.strip_modStrip_ne _ other] at kept
      exact congrArg Strip.shown kept
    refine .inr ⟨y, ⟨old, gone, ?_, fun j shows => ?_⟩, ?_, release⟩
    · have conflict := told.shows fun v => v.1.conflict
      rw [State.strip_modStrip_self] at conflict
      refine fun blank => ?_
      have blank := conflict.symm.trans blank
      cases adopts with
      | taken =>
        rw [show (Strip.heldView ((s.strip i).takes x)).1.conflict = (s.strip i).conflict from rfl, h.unblocked] at blank
        cases blank
      | blank other shows =>
        cases blank
        exact other (h.distinct _ _ _ shows old)
    · by_cases own : j = i
      · exact gone (own ▸ shows)
      · rw [others j own] at shows
        exact own (h.distinct _ _ _ shows old)
    · rw [State.gaveUp, old, if_neg gone]

end adoption
end Sys2Proof.Machine
end

section
namespace Sys2Proof.Machine

open Sys2Proof

/-! ## The release of a channel given up, strip by strip (R130) -/

section release

variable {s t u : State} {i k : StripId} {x : Option ChanId} {y : ChanId}

/-- A release leaves the entries that stand, and every strip but the lowest that is conflict-blank on the channel. -/
theorem State.ConflictRelease.others (h : u.ConflictRelease y t) (given : ∀ j, (u.strip j).shown ≠ some y) :
    u.Stands t ∧ ∀ j, ¬ u.firstBlank y j → t.strip j = u.strip j := by
  cases h with
  | nobody => exact ⟨.refl, fun _ _ => rfl⟩
  | @defers k first defers =>
    refine ⟨.of_port, fun j spared => State.strip_modStrip_ne _ ?_ _⟩
    rintro rfl
    exact spared first
  | @adopts k first free =>
    have works := State.WorksAt.releaseAdoption (k := k) given
    refine ⟨⟨works.params, works.chans, works.clock, works.entries⟩, fun j spared => ?_⟩
    have other : j ≠ k := by
      rintro rfl
      exact spared first
    rw [works.others j other, State.strip_modStrip_ne _ other]

theorem State.firstBlank.unique {j : StripId} (h : s.firstBlank y k) (h' : s.firstBlank y j) : k = j := by
  obtain lt | same | gt := lt_trichotomy k j
  · exact absurd h.1 (h'.2 k lt)
  · exact same
  · exact absurd h'.1 (h.2 j gt)

/-- The strip that the release is owed to is the lowest that is conflict-blank on the channel after the adoption. -/
theorem State.GivesUp.owedRelease_iff (h : s.GivesUp u i y) (others : ∀ j, j ≠ i → u.strip j = s.strip j) :
    s.owedRelease i (some y) k ↔ u.firstBlank y k := by
  constructor
  · rintro ⟨other, -, blank, lowest⟩
    refine ⟨by rw [others k other]; exact blank, fun j lt => ?_⟩
    by_cases own : j = i
    · exact own ▸ h.unblocked
    · rw [others j own]
      exact lowest j lt own
  · rintro ⟨blank, lowest⟩
    have other : k ≠ i := by
      rintro rfl
      exact h.unblocked blank
    refine ⟨other, nofun, by rw [← others k other]; exact blank, fun j lt own => ?_⟩
    rw [← others j own]
    exact lowest j lt

theorem State.defers_congr (record : u.strip k = s.strip k) (param : u.param .openProtect = s.param .openProtect) :
    u.defers k ↔ s.defers k := by
  unfold State.defers
  rw [record, param]

/-- What the release leaves of the strip it is owed to (R130). -/
theorem State.ConflictRelease.owed (h : u.ConflictRelease y t) (given : ∀ j, (u.strip j).shown ≠ some y)
    (first : u.firstBlank y k) :
    (u.defers k → t.strip k = { u.strip k with conflict := none, waiting := some (some y) }) ∧
    (¬ u.defers k → (t.strip k).heldView = Strip.heldView { (u.strip k).takes (some y) with conflict := none }) := by
  cases h with
  | nobody none => exact absurd first.1 (none k)
  | defers lowest defers =>
    cases first.unique lowest
    exact ⟨fun _ => State.strip_modStrip_self .., fun free => absurd defers free⟩
  | adopts lowest free =>
    cases first.unique lowest
    refine ⟨fun defers => absurd defers free, fun _ => ?_⟩
    have own := (State.WorksAt.releaseAdoption (k := k) given).own
    rw [State.strip_modStrip_self] at own
    exact own

/-- What a strip given up by another leaves of the others (R130). -/
theorem State.GivesUp.releases (h : s.GivesUp u i y) (others : ∀ j, j ≠ i → u.strip j = s.strip j)
    (param : u.param .openProtect = s.param .openProtect) (release : u.ConflictRelease y t) : s.releases t i (some y) := by
  obtain ⟨-, spared⟩ := release.others h.given
  intro k other
  rw [h.owedRelease_iff others, ← State.defers_congr (others k other) param, ← others k other]
  refine ⟨spared k, fun first => ?_⟩
  obtain ⟨defers, adopts⟩ := release.owed h.given first
  refine ⟨defers, fun free => ?_⟩
  have view := adopts free
  exact ⟨congrArg (fun v => v.1.shown) view, congrArg (fun v => v.1.conflict) view, congrArg (fun v => v.1.waiting) view,
    congrArg (fun v => v.1.opCode) view, congrArg (fun v => v.1.lastReadback) view, congrArg (fun v => v.1.mode) view,
    congrArg (fun v => v.1.m) view⟩

/-- A strip that gives up nothing releases no other. -/
theorem State.releases_none (others : ∀ j, j ≠ i → t.strip j = s.strip j) : s.releases t i none := fun k other =>
  ⟨fun _ => others k other, fun ⟨_, absent, _⟩ => absurd rfl absent⟩

/-! ## The adoption of a pending channel (R129 to R131) -/

/-- What the adoption of a pending channel leaves: its own strip by what adopting makes of it, and the others by the release. -/
structure State.AdoptsPending (s : State) (i : StripId) (x : Option ChanId) (t : State) : Prop extends State.Stands s t where
  own : ∃ f, s.Adopts i x f ∧ (t.strip i).heldView = (f (s.strip i)).heldView
  released : s.releases t i (s.gaveUp t i)

theorem State.gaveUp_congr (same : t.strip i = u.strip i) : s.gaveUp t i = s.gaveUp u i := by
  rw [State.gaveUp, State.gaveUp, same]

theorem State.adoptPending_adopts (h : s.Deferred i) (x : Option ChanId) : s.AdoptsPending i x (s.adoptPending i x) := by
  obtain ⟨f, adopts, works, result⟩ := State.adoptPending_cases h x
  have own := works.own
  have others : ∀ j, j ≠ i → (((s.adopt i x).layerApplied i).strip j) = s.strip j := fun j other => by
    rw [works.others j other, State.strip_modStrip_ne _ other]
  have stands : s.Stands ((s.adopt i x).layerApplied i) := ⟨works.params, works.chans, works.clock, works.entries⟩
  rw [State.strip_modStrip_self] at own
  obtain ⟨same, none⟩ | ⟨y, gives, gave, release⟩ := result
  · rw [same]
    refine ⟨stands, ⟨f, adopts, own⟩, ?_⟩
    rw [none]
    exact State.releases_none others
  · obtain ⟨last, spared⟩ := release.others gives.given
    have kept := spared i fun first => gives.unblocked first.1
    refine ⟨stands.trans last, ⟨f, adopts, by rw [kept]; exact own⟩, ?_⟩
    rw [State.gaveUp_congr kept, gave]
    exact gives.releases others (stands.param _) release

/-! ## LAYER_APPLIED (R131, R203) -/

theorem State.takeChannel_quiet (seen : ∀ c, x = some c → (s.chan c).image ≠ none) (i : StripId) :
    (s.takeChannel i x).port = s.port ∧ (s.takeChannel i x).ctl = s.ctl := by
  unfold State.takeChannel
  dsimp only
  split
  · simp
  · next c =>
    have here : (s.chan c).image.isSome = true := Option.isSome_iff_ne_none.mpr (seen c rfl)
    have here' : ((s.modStrip i fun p =>
        { p with shown := some c, opCode := none, lastReadback := none, waiting := none }).chan c).image.isSome = true := here
    rw [if_pos here']
    simp

/-- An adoption of a SEEN channel, or of none, reports nothing before its LAYER_APPLIED. -/
theorem State.adopt_quiet (seen : ∀ c, x = some c → (s.chan c).image ≠ none) (i : StripId) :
    (s.adopt i x).port = s.port ∧ (s.adopt i x).ctl = s.ctl := by
  have none : (s.takeChannel i none).port = s.port ∧ (s.takeChannel i none).ctl = s.ctl :=
    State.takeChannel_quiet (by rintro _ ⟨⟩) i
  unfold State.adopt
  split
  · split
    · exact none
    · exact State.takeChannel_quiet seen i
  · exact none

/-- LAYER_APPLIED tells what its strip shows, behind the events before it. -/
theorem State.layerApplied_announces {n : Nat} (sent : s.Sent t n) (i : StripId) :
    s.Sent (t.layerApplied i) (n + 1) ∧ (s.ringHasRoomFor (n + 1) → s.announces (t.layerApplied i) i n) := by
  obtain ⟨more, told⟩ := sent.event .layerApplied (BitVec.ofNat 8 i.val) (chanValue (t.strip i).shown)
  refine ⟨more, fun room => ?_⟩
  obtain ⟨e, mem, addr, body⟩ := told room
  have record : (t.layerApplied i).strip i = t.strip i := by simp
  refine ⟨e, mem, addr, ?_⟩
  rw [body, record]
  cases (t.strip i).shown <;> rfl

/-- A report stands while entries stand and its strip shows what it told. -/
theorem State.announces.stands {n : Nat} (h : s.announces t i n) (stands : t.Stands u)
    (same : (u.strip i).shown = (t.strip i).shown) : s.announces u i n := by
  unfold State.announces at h ⊢
  rw [same]
  obtain ⟨e, mem, addr, body⟩ := h
  have other : e.isStatus = false := by simp [InjEntry.isStatus, body]
  exact ⟨e, (ImagePort.mem_others.mp (stands.entries e (ImagePort.mem_others.mpr ⟨mem, other⟩))).1, addr, body⟩

theorem State.ringHasRoomFor_one (s : State) : s.ringHasRoomFor 1 ↔ s.ringHasRoom := by
  unfold State.ringHasRoomFor State.ringHasRoom
  simp only [Nat.lt_one_iff, forall_eq, Nat.add_zero]
  rfl

/-- The events of an adoption: that of the strip that adopts, then that of the one that the release lets adopt (R130, R131). -/
theorem State.adoptPending_announces (h : s.Deferred i) (seen : ∀ c, x = some c → (s.chan c).image ≠ none) :
    let t := s.adoptPending i x
    (s.ringHasRoom → s.announces t i 0) ∧
    ∀ k y, s.owedRelease i (s.gaveUp t i) k → ¬ s.defers k → (s.strip i).shown = some y → (s.chan y).image ≠ none →
      s.ringHasRoomFor 2 → s.announces t k 1 := by
  obtain ⟨f, adopts, works, result⟩ := State.adoptPending_cases h x
  obtain ⟨port, ctl⟩ := State.adopt_quiet seen i
  obtain ⟨sent, told⟩ := State.layerApplied_announces ((State.Sent.zero s).keep ctl (by rw [port])) i
  have others : ∀ j, j ≠ i → (((s.adopt i x).layerApplied i).strip j) = s.strip j := fun j other => by
    rw [works.others j other, State.strip_modStrip_ne _ other]
  rw [State.ringHasRoomFor_one] at told
  dsimp only
  obtain ⟨same, none⟩ | ⟨y, gives, gave, release⟩ := result
  · rw [same, none]
    exact ⟨told, fun _ _ ⟨_, absent, _⟩ => absurd rfl absent⟩
  · obtain ⟨last, spared⟩ := release.others gives.given
    have kept := spared i fun first => gives.unblocked first.1
    refine ⟨fun room => (told room).stands last (by rw [kept]), fun k z owed free shown image room => ?_⟩
    cases gives.shown.symm.trans shown
    rw [State.gaveUp_congr kept, gave, gives.owedRelease_iff others] at owed
    have other : k ≠ i := by
      rintro rfl
      exact gives.unblocked owed.1
    rw [← State.defers_congr (others k other) (works.param _)] at free
    generalize s.adoptPending i x = t at release
    generalize (s.adopt i x).layerApplied i = v at *
    cases release with
    | nobody none => exact absurd owed.1 (none k)
    | defers lowest defers =>
      cases owed.unique lowest
      exact absurd defers free
    | adopts lowest =>
      cases owed.unique lowest
      obtain ⟨port', ctl'⟩ := State.adopt_quiet (s := v.modStrip k fun p => { p with conflict := .none }) (x := some y)
        (by
          rintro _ ⟨⟩
          rw [show ((v.modStrip k fun p => { p with conflict := .none }).chan y) = s.chan y from works.chan y]
          exact image) k
      exact (State.layerApplied_announces (sent.keep ctl' (by rw [port']; rfl)) k).2 room

end release

end Sys2Proof.Machine
end

section
namespace Sys2Proof.Machine

open Sys2Proof

/-! ## An adoption, from the state before the work that led to it to the state after the work that follows (R129 to R131) -/

/-- What a strip shows, and what its layer state is (R124). -/
def Strip.layerState (p : Strip) : Option ChanId × Option ChanId × Option (Option ChanId) := (p.shown, p.conflict, p.waiting)

section between

variable {s v a t : State} {i k : StripId} {x : Option ChanId}

/-- A strip with a pending channel is not conflict-blank (R124). -/
theorem State.layersSafe.deferred (h : s.layersSafe) (waits : (s.strip i).waiting = some x)
    (works : s.WorksAt Strip.layerState i v) : v.Deferred i := by
  obtain ⟨distinct, -, blank, -⟩ := h
  have shown : ∀ j, (v.strip j).shown = (s.strip j).shown := fun j => by
    by_cases own : j = i
    · exact own ▸ works.shows fun l => l.1
    · rw [works.others j own]
  refine ⟨fun j k c shows shows' => ?_, ?_⟩
  · rw [shown] at shows shows'
    exact distinct j k c shows shows'
  · rw [show (v.strip i).conflict = (s.strip i).conflict from works.shows fun l => l.2.1]
    by_contra blocked
    have none := (blank i (Option.isSome_iff_ne_none.mpr blocked)).2
    rw [waits] at none
    cases none

theorem State.owedRelease_congr (others : ∀ j, j ≠ i → v.strip j = s.strip j) : v.owedRelease i x k ↔ s.owedRelease i x k := by
  refine and_congr_right fun other => and_congr_right fun _ => ?_
  rw [others k other]
  exact and_congr_right fun _ => forall_congr' fun j => forall_congr' fun _ => forall_congr' fun own => by rw [others j own]

/-- A release stands between a work on the strip that gave the channel up and another. -/
theorem State.releases.between (h : v.releases a i x) (before : s.WorksAt Strip.layerState i v)
    (after : ∀ j, j ≠ i → t.strip j = a.strip j) : s.releases t i x := by
  intro k other
  have each := h k other
  rw [State.owedRelease_congr before.others, State.defers_congr (before.others k other) (before.param _), before.others k other]
    at each
  rw [after k other]
  exact each

theorem State.gaveUp_between (before : s.WorksAt Strip.layerState i v) (after : (t.strip i).shown = (a.strip i).shown) :
    v.gaveUp a i = s.gaveUp t i := by
  rw [State.gaveUp, State.gaveUp, after, show (v.strip i).shown = (s.strip i).shown from before.shows fun l => l.1]

/-- The outcome of an adoption: of the strip that adopts, and of those beside it (R129, R130). -/
theorem State.AdoptsPending.outcome (h : v.AdoptsPending i x a) (before : s.WorksAt Strip.layerState i v)
    (after : a.WorksAt Strip.standing i t) :
    (t.strip i).waiting = none ∧ (t.strip i).opCode = none ∧ (t.strip i).lastReadback = none ∧
    (∀ c, x = some c → (∃ j, j ≠ i ∧ (s.strip j).shown = some c) →
      (t.strip i).shown = none ∧ (t.strip i).conflict = some c) ∧
    ((∀ c j, x = some c → j ≠ i → (s.strip j).shown ≠ some c) → (t.strip i).shown = x) ∧
    s.releases t i (s.gaveUp t i) := by
  obtain ⟨f, adopts, view⟩ := h.own
  have own : (t.strip i).standing = (f (v.strip i)).standing := after.own.trans (congrArg (fun v => v.1) view)
  obtain ⟨waits, code, last⟩ := adopts.settled (v.strip i)
  refine ⟨(congrArg Strip.waiting own).trans waits, (congrArg Strip.opCode own).trans code,
    (congrArg Strip.lastReadback own).trans last, ?_, ?_, ?_⟩
  · rintro c rfl ⟨j, other, shows⟩
    cases adopts with
    | taken free => exact absurd shows (before.others j other ▸ free c rfl j other)
    | blank => exact ⟨congrArg Strip.shown own, congrArg Strip.conflict own⟩
  · intro free
    cases adopts with
    | taken => exact congrArg Strip.shown own
    | blank other shows => exact absurd shows (before.others _ other ▸ free _ _ rfl other)
  · rw [← State.gaveUp_between before (after.shows Strip.shown)]
    exact h.released.between before after.others

/-- A hold leaves a STALLED or PARKED strip where it is, and brings no other there. -/
theorem Strip.motion_iff_of_heldView {p q : Strip} (h : p.heldView = q.heldView) :
    (p.motion = .stalled ↔ q.motion = .stalled) ∧ (p.motion = .parked ↔ q.motion = .parked) := by
  have stalled : (p.motion == .stalled) = (q.motion == .stalled) := congrArg (fun v => v.2.2.1) h
  have parked : (p.motion == .parked) = (q.motion == .parked) := congrArg (fun v => v.2.2.2) h
  rw [← beq_iff_eq, stalled, beq_iff_eq, ← beq_iff_eq (a := p.motion), parked, beq_iff_eq]
  exact ⟨.rfl, .rfl⟩

/-- But for what it shows and what it waits for, the strip that adopted stands as before (R129). -/
theorem State.AdoptsPending.keeps (h : s.AdoptsPending i x t) :
    (t.strip i).mode = (s.strip i).mode ∧ (t.strip i).touched = (s.strip i).touched ∧ (t.strip i).m = (s.strip i).m ∧
    (t.strip i).line = (s.strip i).line ∧ (t.strip i).debounce = (s.strip i).debounce ∧
    (t.strip i).recalPending = (s.strip i).recalPending ∧
    ((t.strip i).motion = .stalled ↔ (s.strip i).motion = .stalled) ∧
    ((t.strip i).motion = .parked ↔ (s.strip i).motion = .parked) := by
  obtain ⟨f, adopts, view⟩ := h.own
  obtain ⟨mode, touched, m, line, debounce, recal, motion⟩ := adopts.keeps (s.strip i)
  have same := Strip.motion_iff_of_heldView view
  rw [motion] at same
  exact ⟨(congrArg (fun v => v.1.mode) view).trans mode, (congrArg (fun v => v.1.touched) view).trans touched,
    (congrArg (fun v => v.1.m) view).trans m, (congrArg (fun v => v.1.line) view).trans line,
    (congrArg (fun v => v.1.debounce) view).trans debounce, (congrArg (fun v => v.2.1) view).trans recal, same⟩

/-- What an adoption announces, told of the states before and after it (R130, R131). -/
theorem State.adoptPending_announced (deferred : v.Deferred i) (before : s.WorksAt Strip.layerState i v) (port : v.port = s.port)
    (ctl : v.ctl = s.ctl) (seen : ∀ c, x = some c → (s.chan c).image ≠ none)
    (after : (v.adoptPending i x).WorksAt Strip.standing i t) (room : s.ringHasRoom) :
    s.announces t i 0 ∧
    ∀ k y, s.owedRelease i (s.gaveUp t i) k → ¬ s.defers k → (s.strip i).shown = some y → (s.chan y).image ≠ none →
      s.ringHasRoomFor 2 → s.announces t k 1 := by
  have tells : ∀ {k n}, v.announces t k n → s.announces t k n := fun {k n} told => by
    unfold State.announces State.eventAt at told ⊢
    rw [ctl] at told
    exact told
  obtain ⟨first, second⟩ := State.adoptPending_announces deferred (x := x) fun c aims => by
    rw [before.chan]
    exact seen c aims
  refine ⟨tells ((first ?_).stands after.toStands (after.shows Strip.shown)), fun k y owed free shown image more => ?_⟩
  · unfold State.ringHasRoom at room ⊢
    rw [port, ctl]
    exact room
  · have other := owed.1
    rw [← State.gaveUp_between before (after.shows Strip.shown)] at owed
    refine tells ((second k y ((State.owedRelease_congr before.others).mpr owed) ?_ ?_ ?_ ?_).stands after.toStands ?_)
    · rw [State.defers_congr (before.others k other) (before.param _)]
      exact free
    · rw [show (v.strip i).shown = (s.strip i).shown from before.shows fun l => l.1]
      exact shown
    · rw [before.chan]
      exact image
    · unfold State.ringHasRoomFor at more ⊢
      rw [port, ctl]
      exact more
    · rw [after.others k other]

end between

/-! ## The test of a deferred strip at a sample (R88, R131) -/

section sample

variable {s : State} {i : StripId} {x : Option ChanId} {due : Nat} {raw : BitVec 12}

theorem State.deferredAdoption_of_some (waits : (s.strip i).waiting = some x) :
    s.deferredAdoption i = if s.meetsDeferral i then s else s.adoptPending i x := by
  simp only [State.deferredAdoption, waits]

/-- The state in which a sample tests its strip's deferral: its work is done, and its line evaluated (R88). -/
def State.lined (s : State) (i : StripId) : State := ((s.judged i).sampleWork i (s.rawOf i)).evalLine i

theorem State.Stands.evalLine (s : State) (i : StripId) : s.Stands (s.evalLine i) := by
  unfold State.evalLine State.setLine
  split
  · exact .refl
  · exact State.Stands.trans (t := s.modStrip i _) .of_port (.createEvent ..)

/-- Before the test of its deferral, a sample measures, works on motion and errors, and evaluates the line (R88). -/
theorem State.lined_standing (reading : (s.strip i).reading = some raw) (at_ : (s.strip i).sampleDue = some due)
    (timed : (s.strip i).readbackDue.isSome = true) : ((s.lined i).strip i).standing =
      { ((s.strip i).sampledAt due raw.toNat).standing with line := ((s.lined i).strip i).line } := by
  have worked := (State.WorksAt.sampleWork (s := s.judged i) (i := i) (s.rawOf i)).own
  rw [State.judged_strip reading at_ timed] at worked
  rw [State.lined, State.evalLine_strip_self]
  exact congrArg (fun p : Strip =>
    { p with line := (((s.judged i).sampleWork i (s.rawOf i)).strip i).sampledLine }) worked

theorem State.lined_works (reading : (s.strip i).reading = some raw) (at_ : (s.strip i).sampleDue = some due)
    (timed : (s.strip i).readbackDue.isSome = true) : (s.reach due).WorksAt Strip.layerState i (s.lined i) := by
  have judged := State.judged_of_due reading at_ timed
  have measured : (s.reach due).WorksAt Strip.layerState i (s.judged i) := by
    rw [judged]
    exact .modStrip rfl
  have worked := measured.trans ((State.WorksAt.sampleWork (s := s.judged i) (i := i) (s.rawOf i)).map Strip.layerState)
  refine ⟨worked.toStands.trans (.evalLine ..), ?_, fun j other => ?_⟩
  · rw [← worked.own, State.lined, State.evalLine_strip_self]
    rfl
  · rw [State.lined, State.evalLine_strip_ne _ other, worked.others j other]

/-- At rest, with its line as it was, a sample reports nothing before the test of its deferral. -/
theorem State.lined_quiet (reading : (s.strip i).reading = some raw) (at_ : (s.strip i).sampleDue = some due)
    (timed : (s.strip i).readbackDue.isSome = true) (rest : (s.strip i).motion.driven = false)
    (line : ((s.lined i).strip i).line = (s.strip i).line) : (s.lined i).port = s.port ∧ (s.lined i).ctl = s.ctl := by
  have own := State.judged_strip reading at_ timed
  have judged := State.judged_of_due reading at_ timed
  have result : s.lined i = (s.judged i).evalLine i := by
    rw [State.lined, State.sampleWork_of_rest (by rw [own]; exact rest)]
  rw [result] at line ⊢
  have reported := ((s.judged i).evalLine_lineReported i).1 (by rw [line, own]; rfl)
  rw [judged] at reported ⊢
  exact reported

end sample

end Sys2Proof.Machine
end

section
namespace Sys2Proof.Machine

open Sys2Proof

/-! ## A release with a pending channel (R109, R110) -/

/-- From `s` to `t` a strip stands as it did, at the same time, and so does every other. -/
structure State.Bides (i : StripId) (s t : State) : Prop where
  clock : t.clock = s.clock
  own : (t.strip i).standing = (s.strip i).standing
  others : ∀ j, j ≠ i → t.strip j = s.strip j

theorem State.WorksAt.bides {i : StripId} {s t : State} (h : s.WorksAt Strip.standing i t) : s.Bides i t :=
  ⟨h.clock, h.own, h.others⟩

namespace State.Bides

variable {s t u : State} {i : StripId}

theorem refl : s.Bides i s := State.WorksAt.refl.bides

theorem trans (h : s.Bides i t) (h' : t.Bides i u) : s.Bides i u :=
  ⟨h'.clock.trans h.clock, h'.own.trans h.own, fun j other => (h'.others j other).trans (h.others j other)⟩

theorem enter (dest : Motion) : s.Bides i (s.enter i dest) := State.WorksAt.bides (.enter dest)

theorem setSpeed (k : SpeedClass) : s.Bides i (s.setSpeed i k) := State.WorksAt.bides (.modStrip rfl)

theorem queueMove : s.Bides i (s.queueMove i) :=
  ⟨State.joinStart_clock .., by rw [State.queueMove, State.joinStart_strip_self]; rfl,
    fun _ other => State.joinStart_strip_ne s other _⟩

theorem convertChannel (c : ChanId) (o : Bool) : s.Bides i (s.convertChannel c o) :=
  State.WorksAt.bides (.convertChannel s i c o Strip.standing)

theorem releaseRestore : s.Bides i (s.releaseRestore i) := by
  unfold State.releaseRestore
  split
  · split
    · exact ⟨by simp, by simp, by simp⟩
    · exact refl
  · exact refl

theorem returnToChannel : s.Bides i (s.returnToChannel i) := by
  unfold State.returnToChannel
  split
  · exact setSpeed _
  · split
    · split
      · exact setSpeed _
      · exact (setSpeed _).trans queueMove
    · exact (setSpeed _).trans (convertChannel ..)

theorem stalledRelease : s.Bides i (s.stalledRelease i) := by
  unfold State.stalledRelease
  dsimp only
  split
  · split
    · split
      · exact releaseRestore
      · exact releaseRestore.trans (convertChannel ..)
    · exact releaseRestore
  · exact refl

/-- A release that adopts nothing is no business of the strip's layer state. -/
theorem ordinaryRelease : s.Bides i (s.ordinaryRelease i) := by
  have given : s.Bides i (((s.enter i .idle).releaseRestore i).returnToChannel i) :=
    ((enter _).trans releaseRestore).trans returnToChannel
  unfold State.ordinaryRelease
  dsimp only
  split
  · exact stalledRelease
  · split
    · exact refl
    · exact enter _
    · exact (enter _).trans returnToChannel
    · exact given
    · split
      · exact enter _
      · exact given

end State.Bides

section release

variable {s t : State} {i : StripId} {x : Option ChanId} {expiry : Nat}

theorem State.WorksAt.releaseRecal : s.WorksAt Strip.standing i (s.releaseRecal i) := by
  unfold State.releaseRecal
  split
  · exact .actOnRecal
  · exact .refl

theorem State.WorksAt.adoptedRelease : s.WorksAt Strip.standing i (s.adoptedRelease i) := by
  unfold State.adoptedRelease
  dsimp only
  split
  · exact .modStrip rfl
  · split
    · exact .enter _
    · exact (State.WorksAt.enter _).trans (.modStrip rfl)

/-- What follows the adoption of a release leaves its strip's mode, touch, travel and layer state (R110, R114). -/
theorem State.WorksAt.adoptedRecal (s : State) (i : StripId) :
    s.WorksAt Strip.standing i ((s.adoptedRelease i).releaseRecal i) :=
  State.WorksAt.adoptedRelease.trans .releaseRecal

/-- The recalibration test of a release queues the strip that is at rest, ready and owed a calibration (R114, R157). -/
theorem State.releaseRecal_strip_self (s : State) (i : StripId) : (s.releaseRecal i).strip i =
    if (s.strip i).motion = .idle ∧ (s.strip i).ready ∧ (s.strip i).recalPending
    then (s.strip i).enter .queued s.ctl.time else s.strip i := by
  unfold State.releaseRecal
  split
  · unfold State.actOnRecal
    dsimp only
    split
    · next queued =>
      have spared : ¬ ((s.strip i).motion = .idle ∧ (s.strip i).ready ∧ (s.strip i).recalPending) := by simp [queued]
      rw [if_neg spared]
      split <;> simp
    · exact State.recalAtRest_strip_self ..
  · next spared =>
    refine (if_neg fun h => spared ⟨h.2.2, ?_⟩).symm
    have ready := h.2.1
    rw [Strip.ready, Bool.and_eq_true] at ready
    exact ready.1

/-- A strip that adopted at its release, in a motorised mode and not STALLED: at rest with speed class RETURN, or queued to calibrate (R110, R114). -/
theorem State.adoptedRelease_motorised (stalled : (s.strip i).motion ≠ .stalled) (motorised : (s.strip i).mode.motorised = true)
    (free : (s.strip i).touched = false) :
    let p := ((s.adoptedRelease i).releaseRecal i).strip i
    p.latch = false ∧ p.speed = .ret ∧ p.motion = if (s.strip i).recalPending then .queued else .idle := by
  have parked := Mode.ne_parked_of_motorised motorised
  have write : (s.strip i).mode ≠ .write := fun write => by simp [write, Mode.motorised] at motorised
  have result : s.adoptedRelease i = (s.enter i .idle).setSpeed i .ret := by
    simp only [State.adoptedRelease, stalled, parked, write, or_self, if_false]
  have record : (s.adoptedRelease i).strip i = { (s.strip i).enter .idle s.ctl.time with speed := .ret } := by
    rw [result, State.setSpeed, State.strip_modStrip_self, State.enter_strip_self]
  have ready : ((s.adoptedRelease i).strip i).ready = true := by
    rw [record]
    simp [Strip.ready, Strip.enter, Strip.setDrive, motorised, free]
  dsimp only
  rw [State.releaseRecal_strip_self]
  by_cases owed : (s.strip i).recalPending = true
  · rw [if_pos ⟨by rw [record]; rfl, ready, by rw [record]; exact owed⟩, record, if_pos owed]
    exact ⟨rfl, rfl, rfl⟩
  · rw [if_neg fun h => owed (by have owes := h.2.2; rw [record] at owes; exact owes), record, if_neg owed]
    exact ⟨rfl, rfl, rfl⟩

/-- A strip that adopted at its release in WRITE mode, not STALLED, comes to rest (R110). -/
theorem State.adoptedRelease_write (stalled : (s.strip i).motion ≠ .stalled) (write : (s.strip i).mode = .write) :
    (((s.adoptedRelease i).releaseRecal i).strip i).motion = .idle := by
  have result : s.adoptedRelease i = s.enter i .idle := by
    simp only [State.adoptedRelease, stalled, write, reduceCtorEq, or_self, if_false, if_true]
  rw [State.releaseRecal_strip_self, result, State.enter_strip_self, if_neg]
  · rfl
  · rintro ⟨-, ready, -⟩
    simp [Strip.ready, Strip.enter, Strip.setDrive, write, Mode.motorised] at ready

/-- A strip that adopted at its release, STALLED or PARKED, keeps its motion state (R110). -/
theorem State.adoptedRelease_stays
    (stays : (s.strip i).motion = .stalled ∨ (s.strip i).motion = .parked ∧ (s.strip i).mode = .parked) :
    let p := ((s.adoptedRelease i).releaseRecal i).strip i
    p.motion = (s.strip i).motion ∧ p.latch = false := by
  have result : s.adoptedRelease i = s.modStrip i fun p => { p with latch := false } :=
    if_pos (stays.imp_right And.right)
  dsimp only
  rw [State.releaseRecal_strip_self, result, State.strip_modStrip_self, if_neg]
  · exact ⟨rfl, rfl⟩
  · rintro ⟨idle, -, -⟩
    obtain stalled | ⟨parked, -⟩ := stays
    · exact nomatch stalled.symm.trans idle
    · exact nomatch parked.symm.trans idle

/-- What becomes of a strip that adopted at its release, told of its record before (R110, R114). -/
theorem State.AdoptsPending.released_motion (h : s.AdoptsPending i x t) (free : (s.strip i).touched = false) :
    let p := s.strip i
    let q := ((t.adoptedRelease i).releaseRecal i).strip i
    (p.motion ≠ .stalled → p.mode.motorised = true →
      q.latch = false ∧ q.speed = .ret ∧ q.motion = if p.recalPending then .queued else .idle) ∧
    (p.motion ≠ .stalled → p.mode = .write → q.motion = .idle) ∧
    (p.motion = .stalled ∨ p.motion = .parked ∧ p.mode = .parked → q.motion = p.motion ∧ q.latch = false) := by
  obtain ⟨mode, touched, -, -, -, recal, stalled, parked⟩ := h.keeps
  refine ⟨fun moves motorised => ?_, fun moves write => ?_, fun stays => ?_⟩
  · rw [← recal]
    exact State.adoptedRelease_motorised (mt stalled.mp moves) (by rw [mode]; exact motorised) (touched.trans free)
  · exact State.adoptedRelease_write (mt stalled.mp moves) (mode.trans write)
  · obtain ⟨motion, latch⟩ := State.adoptedRelease_stays
      (stays.imp stalled.mpr fun ⟨at_, park⟩ => ⟨parked.mpr at_, mode.trans park⟩)
    refine ⟨motion.trans ?_, latch⟩
    obtain at_ | ⟨at_, -⟩ := stays
    · exact (stalled.mpr at_).trans at_.symm
    · exact (parked.mpr at_).trans at_.symm

/-- The strip that adopted at its release keeps its touch, its timer, its mode and its line. -/
theorem State.AdoptsPending.released_keeps {u : State} (h : s.AdoptsPending i x t) (after : t.WorksAt Strip.standing i u) :
    u.clock = s.clock ∧ (u.strip i).touched = (s.strip i).touched ∧ (u.strip i).debounce = (s.strip i).debounce ∧
    (u.strip i).mode = (s.strip i).mode ∧ (u.strip i).line = (s.strip i).line := by
  obtain ⟨mode, touched, -, line, debounce, -⟩ := h.keeps
  exact ⟨after.clock.trans h.clock, (after.shows Strip.touched).trans touched, (after.shows Strip.debounce).trans debounce,
    (after.shows Strip.mode).trans mode, (after.shows Strip.line).trans line⟩

/-! ## The expiry of a release's debounce timer (R105, R109) -/

/-- The state in which a release is taken: the timer has expired, and the touch is accepted no more (R105). -/
def State.lifted (s : State) (i : StripId) (expiry : Nat) : State :=
  (s.reach expiry).modStrip i fun p => { p with debounce := none, touched := false }

theorem exec_debounceExpiry_release (run : s.inReset = false) (armed : (s.strip i).debounce = some ⟨false, expiry⟩) :
    exec (.debounceExpiry i) s =
      .next (((s.lifted i expiry).takeRelease i).stripEvent .touchOff i (s.releaseLevel i)) := by
  refine (live_running (f := fun s => match (s.strip i).debounce with
    | some d => s.debounced i d
    | none => s) run).trans ?_
  simp only [armed]
  rfl

theorem State.takeRelease_of_waiting (waits : (s.strip i).waiting = some x) : s.takeRelease i =
    (if s.openDefers i then s.ordinaryRelease i else (s.adoptPending i x).adoptedRelease i).releaseRecal i := by
  simp only [State.takeRelease, waits]

theorem State.openDefers_iff : s.openDefers i = true ↔ s.param .openProtect ≠ 0 ∧ (s.strip i).line = true := by
  simp [State.openDefers]

theorem State.lifted_strip (s : State) (i : StripId) (expiry : Nat) :
    (s.lifted i expiry).strip i = { s.strip i with debounce := none, touched := false } := State.strip_modStrip_self ..

theorem State.lifted_works (s : State) (i : StripId) (expiry : Nat) :
    (s.reach expiry).WorksAt Strip.layerState i (s.lifted i expiry) := .modStrip rfl

end release

/-! ## Pending channels -/

section pending

variable {s t : State} {i : StripId} {x : Option ChanId} {raw : BitVec 12} {due expiry : Nat}

/-- Before the test of its deferral, a sample leaves what its strip shows and waits for, its touch and its mode (R88). -/
theorem State.lined_keeps (reading : (s.strip i).reading = some raw) (at_ : (s.strip i).sampleDue = some due)
    (timed : (s.strip i).readbackDue.isSome = true) :
    let p := (s.lined i).strip i
    p.waiting = (s.strip i).waiting ∧ p.shown = (s.strip i).shown ∧ p.touched = (s.strip i).touched ∧
    p.mode = (s.strip i).mode ∧ p.m = measured (s.strip i).calibration raw.toNat := by
  have own := State.lined_standing reading at_ timed
  exact ⟨(congrArg Strip.waiting own :), (congrArg Strip.shown own :), (congrArg Strip.touched own :), (congrArg Strip.mode own :),
    (congrArg Strip.m own :)⟩

/-- A strip that stays deferred through a release that adopts nothing (R110). -/
theorem State.Bides.takeRelease (waits : (s.strip i).waiting = some x) (open_ : s.openDefers i = true) :
    s.Bides i (s.takeRelease i) := by
  rw [State.takeRelease_of_waiting waits, if_pos open_]
  exact State.Bides.ordinaryRelease.trans State.WorksAt.releaseRecal.bides

/-- A sample tests its strip's pending channel (R129 to R131). -/
theorem State.sample_pending (reading : (s.strip i).reading = some raw) (at_ : (s.strip i).sampleDue = some due)
    (timed : (s.strip i).readbackDue.isSome = true) (waits : (s.strip i).waiting = some x) :
    s.sample i = if (s.lined i).meetsDeferral i then s.lined i else (s.lined i).adoptPending i x := by
  obtain ⟨waiting, -⟩ := State.lined_keeps reading at_ timed
  exact State.deferredAdoption_of_some (waiting.trans waits)

end pending

/-- Settles O49: a sample or a release works on the strip, tests its deferral, and adopts; what follows leaves the layer state. -/
theorem pendingChannelsAreAdopted : Obligations.PendingChannelsAreAdopted := by
  refine ⟨fun i raw due x s run read reading at_ timed waits safe => ?_, fun i expiry x s run armed waits safe => ?_⟩
  · have works := State.lined_works reading at_ timed
    have deferred := State.layersSafe.deferred (s := s.reach due) safe waits works
    obtain ⟨waiting, shown, touched, mode, m⟩ := State.lined_keeps reading at_ timed
    have param : (s.lined i).param .openProtect = s.param .openProtect := works.param _
    have defers : (s.lined i).defers i ↔
        (s.strip i).touched = true ∨ s.param .openProtect ≠ 0 ∧ ((s.lined i).strip i).line = true := by
      rw [State.defers, touched, param]
    refine ⟨_, exec_servoSample run read i, ?_⟩
    rw [State.sample_pending reading at_ timed waits]
    split
    · next held =>
      have held := defers.mp (State.meetsDeferral_iff.mp held)
      refine ⟨works.clock, m, fun _ => ⟨waiting.trans waits, shown, works.others⟩, fun free closed => ?_⟩
      obtain held | ⟨protect, on⟩ := held
      · exact absurd held (by simp [free])
      · obtain closed | off := closed
        · exact absurd closed protect
        · exact absurd on (by simp [off])
    · next free =>
      have adopted := State.adoptPending_adopts deferred x
      obtain ⟨mode', -, m', line, -⟩ := adopted.keeps
      rw [line]
      refine ⟨adopted.clock.trans works.clock, m'.trans m,
        fun held => absurd (State.meetsDeferral_iff.mpr (defers.mpr held)) free, fun _ _ =>
        ⟨adopted.outcome (s := s.reach due) works .refl, mode'.trans mode, fun room rest same seen => ?_⟩⟩
      obtain ⟨port, ctl⟩ := State.lined_quiet reading at_ timed rest same
      exact State.adoptPending_announced (s := s.reach due) deferred works port ctl seen .refl room
  · have works := s.lifted_works i expiry
    have deferred := State.layersSafe.deferred (s := s.reach expiry) safe waits works
    have port : (s.lifted i expiry).port = (s.reach expiry).port := rfl
    have ctl : (s.lifted i expiry).ctl = (s.reach expiry).ctl := rfl
    have record := s.lifted_strip i expiry
    have waiting : ((s.lifted i expiry).strip i).waiting = some x := by
      rw [record]
      exact waits
    have opens : (s.lifted i expiry).openDefers i = true ↔ s.param .openProtect ≠ 0 ∧ (s.strip i).line = true := by
      rw [State.openDefers_iff, record]
      rfl
    refine ⟨_, exec_debounceExpiry_release run armed, ?_⟩
    by_cases held : (s.lifted i expiry).openDefers i = true
    · have bides := (State.Bides.takeRelease waiting held).trans
        (State.WorksAt.createEvent _ .touchOff (BitVec.ofNat 8 i.val) (s.releaseLevel i)).bides
      obtain ⟨protect, on⟩ := opens.mp held
      have own := bides.own
      rw [record] at own
      refine ⟨bides.clock, (congrArg Strip.touched own :), (congrArg Strip.debounce own :), (congrArg Strip.mode own :),
        (congrArg Strip.line own :), fun _ _ => ⟨(congrArg Strip.waiting own :).trans waits, (congrArg Strip.shown own :),
          fun j other => (bides.others j other).trans (works.others j other)⟩, fun closed => ?_⟩
      obtain closed | off := closed
      · exact absurd closed protect
      · exact absurd on (by simp [off])
    · rw [State.takeRelease_of_waiting waiting, if_neg held]
      have adopted := State.adoptPending_adopts deferred x
      have motions := adopted.released_motion (by rw [record])
      have after := (State.WorksAt.adoptedRecal ((s.lifted i expiry).adoptPending i x) i).trans
        (.createEvent _ .touchOff (BitVec.ofNat 8 i.val) (s.releaseLevel i))
      have told : ∀ u : State, (u.stripEvent .touchOff i (s.releaseLevel i)).strip i = u.strip i := fun u => by simp
      obtain ⟨clock, touched, debounce, mode, line⟩ := adopted.released_keeps after
      rw [record] at touched debounce mode line motions
      refine ⟨clock.trans works.clock, touched, debounce, mode, line, fun protect on => absurd (opens.mpr ⟨protect, on⟩) held,
        fun _ => ⟨adopted.outcome (s := s.reach expiry) works after, fun room seen => ?_, ?_⟩⟩
      · exact State.adoptPending_announced (s := s.reach expiry) deferred works port ctl seen after room
      · rw [told]
        exact motions

end Sys2Proof.Machine
end

section
namespace Sys2Proof.Machine

open Sys2Proof

/-! ## Raw touch inputs (R104) -/

section touch

variable {s : State} {i : StripId}

/-- A strip's record when its raw input changes: a running timer is cancelled, and an idle one runs to `expiry` when the level differs from the accepted
touch (R104). -/
def Strip.inputChanges (p : Strip) (b : Bool) (expiry : Nat) : Strip :=
  { p with rawTouch := b, debounce := if p.debounce ≠ none ∨ b = p.touched then none else some ⟨b, expiry⟩ }

theorem State.touchInput_same (s : State) (i : StripId) : s.touchInput i (s.strip i).rawTouch = s := if_pos rfl

/-- Outside reset a change of a raw input changes its strip's record alone (R104). -/
theorem State.touchInput_changed {b : Bool} (run : s.inReset = false) (changed : b ≠ (s.strip i).rawTouch) :
    s.touchInput i b = s.modStrip i fun p =>
      p.inputChanges b (s.clock + (if b then s.param .pressDebounce else s.param .releaseDebounce) * 4000) := by
  simp only [State.touchInput, if_neg changed, run, Bool.false_eq_true, if_false, State.rawChange, State.startDebounce]
  split
  · next timer =>
    rw [State.modStrip_modStrip]
    refine State.modStrip_congr ?_
    simp [Strip.inputChanges, timer]
  · next idle =>
    split
    · next same =>
      refine State.modStrip_congr ?_
      simp [Strip.inputChanges, idle, same]
    · next other =>
      rw [State.modStrip_modStrip]
      refine State.modStrip_congr ?_
      simp [Strip.inputChanges, idle, other, Config.ms, State.param]

/-! ## An accepted press (R105, R107) -/

/-- A strip's record under an accepted hand: the drive is 0, the reference is at the fader, and in LATCH mode the latch engages (R107). -/
def Strip.underHand (p : Strip) : Strip :=
  { p with r := p.m, v := 0, latch := p.latch || p.mode == Mode.latch }.setDrive 0

theorem Strip.underHand_latch (p : Strip) : p.underHand.latch = (p.latch || decide (p.mode = .latch)) :=
  congrArg (p.latch || ·) (beq_eq_decide p.mode .latch)

/-- A touch is taken where the strip stands when it is PARKED or STALLED, and at TOUCHED in every other state (R107). -/
theorem State.takeTouch_cases (s : State) (i : StripId) :
    ((s.strip i).motion = .parked ∨ (s.strip i).motion = .stalled) ∧ s.takeTouch i = s.modStrip i Strip.underHand ∨
    ((s.strip i).motion ≠ .parked ∧ (s.strip i).motion ≠ .stalled) ∧
      s.takeTouch i = (s.modStrip i Strip.underHand).enter i .touched := by
  unfold State.takeTouch
  cases (s.strip i).motion with
  | parked => exact .inl ⟨.inl rfl, rfl⟩
  | stalled => exact .inl ⟨.inr rfl, rfl⟩
  | _ => exact .inr ⟨⟨nofun, nofun⟩, rfl⟩

/-- A touch changes the strips and the drive supervisor alone (R107). -/
theorem State.takeTouch_frame (s : State) (i : StripId) :
    s.takeTouch i = { s with strips := (s.takeTouch i).strips, drive := (s.takeTouch i).drive } := by
  obtain ⟨-, stays⟩ | ⟨-, goes⟩ := s.takeTouch_cases i
  · rw [stays]
    rfl
  · obtain ⟨d, entered⟩ := (s.modStrip i Strip.underHand).enter_cases i .touched
    rw [goes, entered]
    rfl

theorem State.takeTouch_strip_ne {j : StripId} (s : State) (other : j ≠ i) : (s.takeTouch i).strip j = s.strip j := by
  obtain ⟨-, stays⟩ | ⟨-, goes⟩ := s.takeTouch_cases i
  · rw [stays, State.strip_modStrip_ne s other]
  · rw [goes, State.enter_strip_ne _ other, State.strip_modStrip_ne s other]

/-- A PARKED or STALLED strip keeps its state under a hand, and the start queue and the rails stand (R107). -/
theorem State.takeTouch_stays (stays : (s.strip i).motion = .parked ∨ (s.strip i).motion = .stalled) :
    (s.takeTouch i).strip i = (s.strip i).underHand ∧ (s.takeTouch i).drive = s.drive := by
  obtain ⟨-, result⟩ | ⟨⟨unparked, unstalled⟩, -⟩ := s.takeTouch_cases i
  · rw [result]
    exact ⟨State.strip_modStrip_self .., rfl⟩
  · exact (stays.elim unparked unstalled).elim

/-- A strip in any other state becomes TOUCHED, and a QUEUED one leaves the start queue (R65, R107). -/
theorem State.takeTouch_goes (unparked : (s.strip i).motion ≠ .parked) (unstalled : (s.strip i).motion ≠ .stalled) :
    (s.takeTouch i).strip i = (s.strip i).underHand.enter .touched s.ctl.time ∧
    ((s.strip i).motion = .queued → ∀ e ∈ (s.takeTouch i).drive.queue, e.strip ≠ i) := by
  obtain ⟨stays, -⟩ | ⟨-, result⟩ := s.takeTouch_cases i
  · exact (stays.elim unparked unstalled).elim
  · rw [result]
    refine ⟨by rw [State.enter_strip_self, State.strip_modStrip_self]; rfl, fun queued e mem => ?_⟩
    have queued' : ((s.modStrip i Strip.underHand).strip i).motion = .queued := by
      rw [State.strip_modStrip_self]
      exact queued
    rw [State.enter_drive_queue, if_pos ⟨queued', nofun⟩] at mem
    simpa using (List.mem_filter.mp mem).2

/-! ## The expiry of a press's debounce timer (R105, R106) -/

/-- The state in which a press is taken: the timer has expired, and the touch is accepted (R105). -/
def State.pressed (s : State) (i : StripId) (expiry : Nat) : State :=
  (s.reach expiry).modStrip i fun p => { p with debounce := none, touched := true }

theorem State.pressed_strip (s : State) (i : StripId) (expiry : Nat) :
    (s.pressed i expiry).strip i = { s.strip i with debounce := none, touched := true } := State.strip_modStrip_self ..

theorem exec_debounceExpiry_press {expiry : Nat} (run : s.inReset = false)
    (armed : (s.strip i).debounce = some ⟨true, expiry⟩) :
    exec (.debounceExpiry i) s = .next (((s.pressed i expiry).takeTouch i).stripEvent .touchOn i (s.faderLevel i)) := by
  refine (live_running (f := fun s => match (s.strip i).debounce with
    | some d => s.debounced i d
    | none => s) run).trans ?_
  simp only [armed]
  rfl

end touch

/-- Settles O47: a change of the input works on the timer alone, and a press is taken by the two ways of `State.takeTouch_cases`, then reported. -/
theorem pressesAreDebouncedAndTaken : Obligations.PressesAreDebouncedAndTaken := by
  refine ⟨fun i b s run => ⟨?_, fun changed => ⟨_, rfl, ?_⟩⟩, fun i expiry s run armed => ⟨_, exec_debounceExpiry_press run armed, ?_⟩⟩
  · rintro rfl
    exact congrArg _ (s.touchInput_same i)
  · rw [State.touchInput_changed run changed]
    exact ⟨State.strip_modStrip_self .., fun j other => State.strip_modStrip_ne s other _, rfl⟩
  · have taken := (s.pressed i expiry).takeTouch_frame i
    have port : ((s.pressed i expiry).takeTouch i).port = s.port := by rw [taken]; rfl
    have ctl : ((s.pressed i expiry).takeTouch i).ctl = s.ctl := by rw [taken]; rfl
    have told : ∀ u : State, (u.stripEvent .touchOn i (s.faderLevel i)).strip i = u.strip i := fun u => by simp
    have reported : ∀ u : State, u.stripEvent .touchOn i (s.faderLevel i) = { u with
        port := (u.stripEvent .touchOn i (s.faderLevel i)).port, ctl := (u.stripEvent .touchOn i (s.faderLevel i)).ctl } :=
      fun _ => State.eq_of_port_ctl
    obtain ⟨serial, -⟩ := ((s.pressed i expiry).takeTouch i).createEvent_createsEvent .touchOn (BitVec.ofNat 8 i.val) (s.faderLevel i)
    have motion : ((s.pressed i expiry).strip i).motion = (s.strip i).motion := by rw [State.pressed_strip]
    refine ⟨?_, ?_, ?_, fun room => ?_, fun j other => ?_, ?_⟩
    · rw [State.stripEvent_clock, taken]
      rfl
    · rw [told, State.stripEvent_drive]
      by_cases stays : (s.strip i).motion = .parked ∨ (s.strip i).motion = .stalled
      · obtain ⟨record, drive⟩ := State.takeTouch_stays (motion ▸ stays)
        rw [record, drive, State.pressed_strip]
        refine ⟨rfl, rfl, rfl, rfl, rfl, Strip.underHand_latch _, rfl, rfl, rfl, rfl, rfl, rfl, rfl, fun _ => ⟨rfl, rfl⟩,
          fun unparked unstalled => (stays.elim unparked unstalled).elim, fun queued => ?_⟩
        rw [queued] at stays
        exact stays.elim nofun nofun
      · obtain ⟨unparked, unstalled⟩ := not_or.mp stays
        obtain ⟨record, leaves⟩ := State.takeTouch_goes (motion ▸ unparked) (motion ▸ unstalled)
        rw [motion] at leaves
        rw [record, State.pressed_strip]
        exact ⟨rfl, rfl, rfl, rfl, rfl, Strip.underHand_latch _, rfl, rfl, rfl, rfl, rfl, rfl, rfl, fun at_ => absurd at_ stays,
          fun _ _ => ⟨rfl, rfl, rfl⟩, leaves⟩
    · exact serial.trans (by rw [ctl])
    · have room' : ((s.pressed i expiry).takeTouch i).ringHasRoom := by
        unfold State.ringHasRoom
        rw [port, ctl]
        exact room
      obtain ⟨e, mem, body⟩ := State.createEvent_delivered room' .touchOn (BitVec.ofNat 8 i.val) (s.faderLevel i)
      rw [ctl] at body
      exact ⟨e, mem, body⟩
    · rw [State.stripEvent_strip, State.takeTouch_strip_ne _ other]
      exact State.strip_modStrip_ne _ other _
    · rw [reported, taken]
      rfl

end Sys2Proof.Machine
end

section
namespace Sys2Proof.Machine

open Sys2Proof

/-! ## The release restore (R12, R112) -/

section restore

variable {s : State} {i : StripId} {c : ChanId} {k : Code}

theorem Strip.touchBehaviour_iff {p : Strip} :
    p.touchBehaviour = true ↔ p.mode = .touch ∨ p.mode = .latch ∧ p.latch = false := by
  simp [Strip.touchBehaviour]

/-- Coming to rest is no business of TOUCH behaviour: LATCH mode has it only with the latch disengaged. -/
theorem Strip.touchBehaviour_enter_idle {p : Strip} (touch : p.touchBehaviour = true) (time : BitVec 16) :
    (p.enter .idle time).touchBehaviour = true :=
  Strip.touchBehaviour_iff.mpr ((Strip.touchBehaviour_iff.mp touch).imp id fun latch => ⟨latch.1, rfl⟩)

/-- The processor code of a strip's channel is told by the channel it shows and by the channel records. -/
theorem State.processorCode_congr {s t : State} (shown : (t.strip i).shown = (s.strip i).shown) (chans : t.chans = s.chans) :
    t.processorCode i = s.processorCode i := by
  simp only [State.processorCode, shown, State.chan_congr chans]

theorem State.processorCode_some (holds : s.processorCode i = some (c, k)) :
    (s.strip i).shown = some c ∧ (s.chan c).proc = some k := by
  unfold State.processorCode at holds
  split at holds
  · next d shown =>
    obtain ⟨code, proc, pair⟩ := Option.map_eq_some_iff.mp holds
    cases pair
    exact ⟨shown, proc⟩
  · cases holds

/-- Without TOUCH behaviour nothing is written back (R112). -/
theorem State.releaseRestore_other (other : (s.strip i).touchBehaviour = false) : s.releaseRestore i = s := by
  unfold State.releaseRestore
  split
  · exact if_neg (by simp [other])
  · rfl

/-- With TOUCH behaviour the processor code is written back to a channel with a home (R112). -/
theorem State.releaseRestore_touch (touch : (s.strip i).touchBehaviour = true) (holds : s.processorCode i = some (c, k))
    (home : s.home c ≠ none) : s.releaseRestore i = s.writeBack c k := by
  have homed := Option.isSome_iff_ne_none.mpr home
  simp only [State.releaseRestore, holds, touch, homed, Bool.and_self, if_true]

@[simp] theorem State.releaseRestore_chans (s : State) (i : StripId) : (s.releaseRestore i).chans = s.chans := by
  unfold State.releaseRestore
  split
  · split <;> simp
  · rfl

@[simp] theorem State.releaseRestore_strip (s : State) (i j : StripId) : (s.releaseRestore i).strip j = s.strip j :=
  State.strip_congr (State.Quiet.releaseRestore s i).strips j

/-- From `s` to `t` nothing is reported: the control unit and the number of EVENT entries stand. -/
structure State.Unreported (s t : State) : Prop where
  ctl : t.ctl = s.ctl
  events : t.port.queue.countP InjEntry.isEvent = s.port.queue.countP InjEntry.isEvent

theorem State.Unreported.refl (s : State) : s.Unreported s := ⟨rfl, rfl⟩

theorem State.Unreported.hasRoom {s t : State} (h : s.Unreported t) (room : s.ringHasRoom) : t.ringHasRoom := by
  unfold State.ringHasRoom
  rw [h.ctl, h.events]
  exact room

/-- While fewer than 32 POSITION entries stand, none is refused, and no event is created (R12). -/
theorem State.requestPosition_unreported (room : s.port.queue.countP InjEntry.isPosition < 32) (c : ChanId) (k : Code) :
    s.Unreported (s.requestPosition c k) := by
  unfold State.requestPosition
  split
  · exact .refl s
  · next addr order _ =>
    split
    · refine ⟨rfl, ?_⟩
      have same : InjEntry.isEvent ∘ InjEntry.replaceCode c k addr order = InjEntry.isEvent := by
        funext e
        obtain ⟨-, -, event, -⟩ := InjEntry.replaceCode_keeps c k addr order e
        exact event
      rw [State.modPort_port, List.countP_map, same]
    · rw [if_pos (show _ < Config.positionLimit from room)]
      refine ⟨rfl, ?_⟩
      simp [State.pushEntry, InjEntry.isEvent]

theorem State.releaseRestore_unreported (room : s.port.queue.countP InjEntry.isPosition < 32) (i : StripId) :
    s.Unreported (s.releaseRestore i) := by
  unfold State.releaseRestore State.writeBack
  split
  · split
    · split
      · exact State.requestPosition_unreported room ..
      · exact .refl s
    · exact .refl s
  · exact .refl s

end restore

/-! ## The return to the channel (R111) -/

section returning

variable {s : State} {i : StripId} {c : ChanId} {k : Code} {g : Target}

theorem State.returnToChannel_absent (absent : s.processorCode i = none) : s.returnToChannel i = s.setSpeed i .normal := by
  simp only [State.returnToChannel, absent]

/-- A strip within deadband of a target that pairs with the processor code stays there (R111). -/
theorem State.returnToChannel_near (holds : s.processorCode i = some (c, k)) (target : (s.strip i).target = some g)
    (code : g.code = k) (own : g.chan = c) (near : dist g.travel (s.strip i).m ≤ s.param .deadband) :
    s.returnToChannel i = s.setSpeed i .normal := by
  simp [State.returnToChannel, holds, Strip.pairedTravel, target, code, own, State.withinDeadband, near]

/-- A strip beyond deadband of a target that pairs with the processor code is queued with speed class RETURN (R111). -/
theorem State.returnToChannel_far (holds : s.processorCode i = some (c, k)) (target : (s.strip i).target = some g)
    (code : g.code = k) (own : g.chan = c) (far : s.param .deadband < dist g.travel (s.strip i).m) :
    s.returnToChannel i = (s.setSpeed i .ret).queueMove i := by
  simp [State.returnToChannel, holds, Strip.pairedTravel, target, code, own, State.withinDeadband, far]

/-- A processor code that the target does not pair with is converted anew (R111). -/
theorem State.returnToChannel_unpaired (holds : s.processorCode i = some (c, k))
    (unpaired : ∀ g, (s.strip i).target = some g → g.code ≠ k ∨ g.chan ≠ c) :
    s.returnToChannel i = (s.setSpeed i .ret).convertChannel c false := by
  have none : (s.strip i).pairedTravel c k = none := by
    unfold Strip.pairedTravel
    split
    · next g target => exact if_neg fun pairs => (unpaired g target).elim (absurd pairs.1) (absurd pairs.2)
    · rfl
  simp only [State.returnToChannel, holds, none]

/-- All that a return makes of its strip's record: a speed class, and QUEUED with an entry in the start queue (R111). -/
theorem State.returnToChannel_record (s : State) (i : StripId) : ∃ pace,
    (s.returnToChannel i).strip i = { s.strip i with speed := pace } ∨
    (s.returnToChannel i).strip i = { s.strip i with speed := pace }.enter .queued s.ctl.time ∧
      ∃ e ∈ (s.returnToChannel i).drive.queue, e.strip = i := by
  have classed : ∀ pace, (s.setSpeed i pace).strip i = { s.strip i with speed := pace } := fun _ =>
    State.strip_modStrip_self ..
  unfold State.returnToChannel
  split
  · exact ⟨.normal, .inl (classed _)⟩
  · split
    · split
      · exact ⟨.normal, .inl (classed _)⟩
      · refine ⟨.ret, .inr ⟨?_, ?_⟩⟩
        · rw [State.queueMove, State.joinStart_strip_self, classed]
          rfl
        · exact ⟨_, by rw [State.queueMove, State.joinStart_drive_queue]; exact List.mem_append_right _ List.mem_cons_self, rfl⟩
    · exact ⟨.ret, .inl (by rw [State.convertChannel_strip, classed])⟩

theorem State.returnToChannel_port (s : State) (i : StripId) : (s.returnToChannel i).port = s.port := by
  unfold State.returnToChannel
  split
  · rfl
  · split
    · split <;> simp [State.setSpeed]
    · simp [State.setSpeed]

theorem State.returnToChannel_ctl (s : State) (i : StripId) : (s.returnToChannel i).ctl = s.ctl := by
  unfold State.returnToChannel
  split
  · rfl
  · split
    · split <;> simp [State.setSpeed]
    · simp [State.setSpeed]

end returning

/-! ## The recalibration test (R114) -/

section recal

variable {s : State} {i : StripId}

/-- With no calibration owed the test does nothing (R114). -/
theorem State.releaseRecal_unowed (unowed : (s.strip i).recalPending = false) : s.releaseRecal i = s :=
  if_neg (by simp [unowed])

/-- The test leaves all of a strip's record but what QUEUED sets (R64, R114). -/
theorem State.releaseRecal_keeps (s : State) (i : StripId) :
    ((s.releaseRecal i).strip i).latch = (s.strip i).latch ∧ ((s.releaseRecal i).strip i).speed = (s.strip i).speed ∧
    ((s.releaseRecal i).strip i).target = (s.strip i).target ∧
    ((s.strip i).motion = .queued → ((s.releaseRecal i).strip i).motion = .queued) := by
  rw [State.releaseRecal_strip_self]
  split
  · exact ⟨rfl, rfl, rfl, fun _ => rfl⟩
  · exact ⟨rfl, rfl, rfl, id⟩

/-- A strip that is not at rest in a motorised mode has nothing to be queued for (R114). -/
theorem State.releaseRecal_stays (stays : (s.strip i).motion ≠ .idle ∨ (s.strip i).mode.motorised = false) :
    (s.releaseRecal i).strip i = s.strip i := by
  rw [State.releaseRecal_strip_self]
  refine if_neg fun ⟨idle, ready, _⟩ => ?_
  rw [Strip.ready, Bool.and_eq_true] at ready
  exact stays.elim (absurd idle) fun other => absurd ready.1 (by simp [other])

theorem State.releaseRecal_port (s : State) (i : StripId) : (s.releaseRecal i).port = s.port := by
  unfold State.releaseRecal
  split <;> simp

theorem State.releaseRecal_ctl (s : State) (i : StripId) : (s.releaseRecal i).ctl = s.ctl := by
  unfold State.releaseRecal
  split <;> simp

theorem State.releaseRecal_taper (s : State) (i : StripId) : (s.releaseRecal i).taper = s.taper := by
  unfold State.releaseRecal
  split <;> simp

/-- A strip with an entry in the start queue stands there to calibrate once its purpose, if MOVE, is changed (R145). -/
theorem State.calibrates_in_place (entry : ∃ e ∈ s.drive.queue, e.strip = i) :
    ⟨i, .calibrate⟩ ∈ (if s.purposeOf i = some .move then s.toCalibrate i else s).drive.queue := by
  obtain ⟨e, mem, own⟩ := entry
  split
  · exact List.mem_map.mpr ⟨e, mem, by simp [own]⟩
  · next other =>
    have has : (s.drive.queue.find? fun e => e.strip == i).isSome = true :=
      List.find?_isSome.mpr ⟨e, mem, by simp [own]⟩
    obtain ⟨⟨strip, purpose⟩, found⟩ := Option.isSome_iff_exists.mp has
    have first : strip = i := by simpa using List.find?_some found
    cases first
    cases purpose with
    | move => exact absurd (by simp [State.purposeOf, found]) other
    | calibrate => exact List.mem_of_find?_eq_some found

/-- A strip that is owed a calibration, at rest or with an entry in the start queue, is QUEUED to calibrate (R114, R145, R157). -/
theorem State.releaseRecal_owed (ready : (s.strip i).ready = true) (owed : (s.strip i).recalPending = true)
    (at_ : (s.strip i).motion = .idle ∨ (s.strip i).motion = .queued ∧ ∃ e ∈ s.drive.queue, e.strip = i) :
    ((s.releaseRecal i).strip i).motion = .queued ∧ ⟨i, .calibrate⟩ ∈ (s.releaseRecal i).drive.queue := by
  have motorised : (s.strip i).mode.motorised = true := (Bool.and_eq_true_iff.mp ready).1
  have acts : s.releaseRecal i = s.actOnRecal i := if_pos ⟨owed, motorised⟩
  obtain idle | ⟨queued, entry⟩ := at_
  · have joins : s.actOnRecal i = s.joinStart i .calibrate := by
      simp [State.actOnRecal, State.recalAtRest, idle, ready, owed]
    rw [acts, joins, State.joinStart_strip_self, State.joinStart_drive_queue]
    exact ⟨rfl, List.mem_append_right _ List.mem_cons_self⟩
  · have turns : s.actOnRecal i = if s.purposeOf i = some .move then s.toCalibrate i else s := by
      simp [State.actOnRecal, queued, motorised]
    obtain ⟨-, -, -, stays⟩ := s.releaseRecal_keeps i
    refine ⟨stays queued, ?_⟩
    rw [acts, turns]
    exact State.calibrates_in_place entry

end recal

/-! ## A release with no pending channel, by its mode (R109, R111 to R113) -/

section ordinary

variable {s : State} {i : StripId} {c : ChanId} {k : Code} {g : Target}

/-- READ or TOUCH behaviour at a release (R72, R111). -/
def Strip.returns (p : Strip) : Prop := p.mode = .read ∨ p.mode = .touch ∨ p.mode = .latch ∧ p.latch = false

theorem Strip.returns.motorised {p : Strip} (h : p.returns) : p.mode.motorised = true := by
  obtain mode | mode | ⟨mode, -⟩ := h <;> rw [mode] <;> rfl

/-- A strip at IDLE whose level is given back, and which returns to its channel (R111, R112). -/
def State.givenBack (s : State) (i : StripId) : State := ((s.enter i .idle).releaseRestore i).returnToChannel i

theorem State.takeRelease_of_settled (settled : (s.strip i).waiting = none) :
    s.takeRelease i = (s.ordinaryRelease i).releaseRecal i := by
  simp only [State.takeRelease, settled]

/-- A STALLED or PARKED strip keeps its record (R113). -/
theorem State.ordinaryRelease_stays (stays : (s.strip i).motion = .stalled ∨ (s.strip i).mode = .parked) :
    (s.ordinaryRelease i).strip i = s.strip i := by
  by_cases stalled : (s.strip i).motion = .stalled
  · simp only [State.ordinaryRelease, stalled, if_true]
    exact State.strip_congr (State.Quiet.stalledRelease s i).strips i
  · simp only [State.ordinaryRelease, stalled, if_false, stays.resolve_left stalled]

theorem State.ordinaryRelease_write (unstalled : (s.strip i).motion ≠ .stalled) (write : (s.strip i).mode = .write) :
    s.ordinaryRelease i = s.enter i .idle := by
  simp only [State.ordinaryRelease, unstalled, if_false, write]

theorem State.ordinaryRelease_engaged (unstalled : (s.strip i).motion ≠ .stalled) (latch : (s.strip i).mode = .latch)
    (engaged : (s.strip i).latch = true) : s.ordinaryRelease i = s.enter i .latched := by
  simp only [State.ordinaryRelease, unstalled, if_false, latch, engaged, if_true]

theorem State.ordinaryRelease_returns (unstalled : (s.strip i).motion ≠ .stalled) (returns : (s.strip i).returns) :
    s.ordinaryRelease i = s.givenBack i := by
  obtain read | touch | ⟨latch, free⟩ := returns
  · have other : ((s.enter i .idle).strip i).touchBehaviour = false := by
      rw [State.enter_strip_self]
      simp [Strip.touchBehaviour, read]
    simp only [State.ordinaryRelease, unstalled, if_false, read, State.givenBack, State.releaseRestore_other other]
  · simp only [State.ordinaryRelease, unstalled, if_false, touch, State.givenBack]
  · simp only [State.ordinaryRelease, unstalled, if_false, latch, free, Bool.false_eq_true, State.givenBack]

/-- All that a release with no pending channel can do but stay (R109). -/
theorem State.ordinaryRelease_cases (s : State) (i : StripId) :
    ((s.strip i).motion = .stalled ∨ (s.strip i).mode = .parked) ∨
    (s.strip i).touchBehaviour = false ∧ (∃ dest, s.ordinaryRelease i = s.enter i dest) ∨
    s.ordinaryRelease i = s.givenBack i := by
  by_cases stalled : (s.strip i).motion = .stalled
  · exact .inl (.inl stalled)
  cases mode : (s.strip i).mode with
  | parked => exact .inl (.inr rfl)
  | write => exact .inr (.inl ⟨by simp [Strip.touchBehaviour, mode], .idle, State.ordinaryRelease_write stalled mode⟩)
  | read => exact .inr (.inr (State.ordinaryRelease_returns stalled (.inl mode)))
  | touch => exact .inr (.inr (State.ordinaryRelease_returns stalled (.inr (.inl mode))))
  | latch =>
    cases latch : (s.strip i).latch with
    | true => exact .inr (.inl ⟨by simp [Strip.touchBehaviour, mode, latch], .latched, State.ordinaryRelease_engaged stalled mode latch⟩)
    | false => exact .inr (.inr (State.ordinaryRelease_returns stalled (.inr (.inr ⟨mode, latch⟩))))

/-- What a strip given back is, beside the return's speed class and entry (R111). -/
theorem State.givenBack_record (s : State) (i : StripId) : ∃ pace,
    (s.givenBack i).strip i = { (s.strip i).enter .idle s.ctl.time with speed := pace } ∨
    (∃ time, (s.givenBack i).strip i = { (s.strip i).enter .idle s.ctl.time with speed := pace }.enter .queued time) ∧
      ∃ e ∈ (s.givenBack i).drive.queue, e.strip = i := by
  obtain ⟨pace, record⟩ := ((s.enter i .idle).releaseRestore i).returnToChannel_record i
  rw [State.releaseRestore_strip, State.enter_strip_self] at record
  exact ⟨pace, record.imp id fun ⟨queued, entry⟩ => ⟨⟨_, queued⟩, entry⟩⟩

theorem State.ordinaryRelease_target (s : State) (i : StripId) :
    ((s.ordinaryRelease i).strip i).target = (s.strip i).target := by
  obtain stays | ⟨-, dest, entered⟩ | given := s.ordinaryRelease_cases i
  · rw [State.ordinaryRelease_stays stays]
  · rw [entered, State.enter_strip_self, (Strip.enter_sameLevel ..).target]
  · obtain ⟨pace, idle | ⟨⟨time, queued⟩, -⟩⟩ := s.givenBack_record i
    · rw [given, idle]
      rfl
    · rw [given, queued]
      rfl

/-- What a release reports is its restore's, made where the strip stands or at IDLE (R112, R113). -/
theorem State.ordinaryRelease_reports (s : State) (i : StripId) : ∃ u, (u = s ∨ u = s.enter i .idle) ∧
    (s.ordinaryRelease i).port = (u.releaseRestore i).port ∧ (s.ordinaryRelease i).ctl = (u.releaseRestore i).ctl := by
  obtain stays | ⟨other, dest, entered⟩ | given := s.ordinaryRelease_cases i
  · refine ⟨s, .inl rfl, ?_⟩
    by_cases stalled : (s.strip i).motion = .stalled
    · simp only [State.ordinaryRelease, stalled, if_true, State.stalledRelease]
      split
      · split
        · split <;> simp
        · exact ⟨rfl, rfl⟩
      · next none =>
        rw [State.releaseRestore_other (Bool.or_eq_false_iff.mp (Bool.eq_false_of_not_eq_true none)).2]
        exact ⟨rfl, rfl⟩
    · have parked := stays.resolve_left stalled
      rw [State.releaseRestore_other (by simp [Strip.touchBehaviour, parked])]
      simp only [State.ordinaryRelease, stalled, if_false, parked, and_self]
  · refine ⟨s, .inl rfl, ?_⟩
    rw [entered, State.releaseRestore_other other]
    exact ⟨State.enter_port .., State.enter_ctl ..⟩
  · rw [given]
    exact ⟨_, .inr rfl, State.returnToChannel_port .., State.returnToChannel_ctl ..⟩

/-! ## What becomes of a strip that is given back (R111, R114) -/

/-- What the return meets: the strip at IDLE, and its channel as before the release. -/
theorem State.restored_facts (s : State) (i : StripId) :
    let b := (s.enter i .idle).releaseRestore i
    b.strip i = (s.strip i).enter .idle s.ctl.time ∧ b.processorCode i = s.processorCode i ∧ b.chans = s.chans ∧
    ∀ p, b.param p = s.param p := by
  have record : ((s.enter i .idle).releaseRestore i).strip i = (s.strip i).enter .idle s.ctl.time := by
    rw [State.releaseRestore_strip, State.enter_strip_self]
  have chans : ((s.enter i .idle).releaseRestore i).chans = s.chans := by simp
  refine ⟨record, State.processorCode_congr (by rw [record]; rfl) chans, chans, State.param_congr ?_⟩
  rw [(State.Quiet.releaseRestore ..).params, State.enter_ctl]

theorem State.givenBack_latch (s : State) (i : StripId) : (((s.givenBack i).releaseRecal i).strip i).latch = false := by
  obtain ⟨latch, -⟩ := (s.givenBack i).releaseRecal_keeps i
  obtain ⟨pace, idle | ⟨⟨time, queued⟩, -⟩⟩ := s.givenBack_record i
  · rw [latch, idle]
    rfl
  · rw [latch, queued]
    rfl

/-- A calibration owed is queued, whatever the return left (R114). -/
theorem State.givenBack_owed (free : (s.strip i).touched = false) (returns : (s.strip i).returns)
    (owed : (s.strip i).recalPending = true) :
    (((s.givenBack i).releaseRecal i).strip i).motion = .queued ∧ ⟨i, .calibrate⟩ ∈ ((s.givenBack i).releaseRecal i).drive.queue := by
  have ready : (s.strip i).ready = true := by rw [Strip.ready, returns.motorised, free]; rfl
  obtain ⟨pace, idle | ⟨⟨time, queued⟩, entry⟩⟩ := s.givenBack_record i
  · exact State.releaseRecal_owed (by rw [idle]; exact ready) (by rw [idle]; exact owed) (.inl (by rw [idle]; rfl))
  · exact State.releaseRecal_owed (by rw [queued]; exact ready) (by rw [queued]; exact owed) (.inr ⟨by rw [queued]; rfl, entry⟩)

/-- A strip that the return leaves at IDLE stays there, with its speed class, unless a calibration is owed (R111, R114). -/
theorem State.givenBack_rests {pace : SpeedClass}
    (record : (s.givenBack i).strip i = { (s.strip i).enter .idle s.ctl.time with speed := pace }) :
    (((s.givenBack i).releaseRecal i).strip i).speed = pace ∧
    ((s.strip i).recalPending = false → (((s.givenBack i).releaseRecal i).strip i).motion = .idle) := by
  obtain ⟨-, speed, -⟩ := (s.givenBack i).releaseRecal_keeps i
  refine ⟨by rw [speed, record], fun unowed => ?_⟩
  rw [State.releaseRecal_unowed (by rw [record]; exact unowed), record]
  rfl

/-- A channel without a processor code calls for no move (R111). -/
theorem State.givenBack_absent (absent : s.processorCode i = none) :
    (s.givenBack i).strip i = { (s.strip i).enter .idle s.ctl.time with speed := .normal } := by
  obtain ⟨record, holds, -⟩ := s.restored_facts i
  rw [State.givenBack, State.returnToChannel_absent (holds.trans absent), State.setSpeed, State.strip_modStrip_self, record]

/-- A strip near a target that pairs with the processor code stays there (R111). -/
theorem State.givenBack_near (holds : s.processorCode i = some (c, k)) (target : (s.strip i).target = some g)
    (code : g.code = k) (own : g.chan = c) (near : dist g.travel (s.strip i).m ≤ s.param .deadband) :
    (s.givenBack i).strip i = { (s.strip i).enter .idle s.ctl.time with speed := .normal } := by
  obtain ⟨record, same, -, param⟩ := s.restored_facts i
  rw [State.givenBack, State.returnToChannel_near (same.trans holds) (by rw [record]; exact target) code own
    (by rw [record, param]; exact near), State.setSpeed, State.strip_modStrip_self, record]

/-- A strip far from a target that pairs with the processor code is queued to return, or to calibrate first (R111). -/
theorem State.givenBack_far (holds : s.processorCode i = some (c, k)) (target : (s.strip i).target = some g)
    (code : g.code = k) (own : g.chan = c) (far : s.param .deadband < dist g.travel (s.strip i).m) :
    let t := (s.givenBack i).releaseRecal i
    (t.strip i).speed = .ret ∧ (t.strip i).motion = .queued ∧ ((s.strip i).recalPending = false →
      ⟨i, if (s.strip i).calibration.isSome then .move else .calibrate⟩ ∈ t.drive.queue) := by
  obtain ⟨record, same, -, param⟩ := s.restored_facts i
  have result : s.givenBack i = (((s.enter i .idle).releaseRestore i).setSpeed i .ret).queueMove i :=
    State.returnToChannel_far (same.trans holds) (by rw [record]; exact target) code own (by rw [record, param]; exact far)
  have classed : (((s.enter i .idle).releaseRestore i).setSpeed i .ret).strip i =
      { (s.strip i).enter .idle s.ctl.time with speed := .ret } := by
    rw [State.setSpeed, State.strip_modStrip_self, record]
  obtain ⟨time, queued⟩ : ∃ time, (s.givenBack i).strip i =
      { (s.strip i).enter .idle s.ctl.time with speed := .ret }.enter .queued time :=
    ⟨_, by rw [result, State.queueMove, State.joinStart_strip_self, classed]⟩
  obtain ⟨-, speed, -, stays⟩ := (s.givenBack i).releaseRecal_keeps i
  refine ⟨by rw [speed, queued]; rfl, stays (by rw [queued]; rfl), fun unowed => ?_⟩
  rw [State.releaseRecal_unowed (by rw [queued]; exact unowed), result, State.queueMove, State.joinStart_drive_queue, classed]
  exact List.mem_append_right _ List.mem_cons_self

/-- A strip whose target does not pair with the processor code waits at IDLE, and a SEEN channel's code is converted (R111). -/
theorem State.givenBack_unpaired (holds : s.processorCode i = some (c, k))
    (unpaired : ∀ g, (s.strip i).target = some g → g.code ≠ k ∨ g.chan ≠ c) :
    (s.givenBack i).strip i = { (s.strip i).enter .idle s.ctl.time with speed := .ret } ∧
    ((s.chan c).image ≠ none → ((s.givenBack i).releaseRecal i).taper.carries c k (s.chan c).seq) := by
  obtain ⟨record, same, chans, -⟩ := s.restored_facts i
  have result : s.givenBack i = (((s.enter i .idle).releaseRestore i).setSpeed i .ret).convertChannel c false :=
    State.returnToChannel_unpaired (same.trans holds) (by rw [record]; exact unpaired)
  have chan : (((s.enter i .idle).releaseRestore i).setSpeed i .ret).chan c = s.chan c := State.chan_congr chans c
  refine ⟨by rw [result, State.convertChannel_strip, State.setSpeed, State.strip_modStrip_self, record], fun seen => ?_⟩
  obtain ⟨im, image⟩ := Option.ne_none_iff_exists'.mp seen
  have asked := State.convertChannel_asks (((s.enter i .idle).releaseRestore i).setSpeed i .ret) c false im (by rw [chan, image])
  rw [chan, (State.processorCode_some holds).2] at asked
  rw [State.releaseRecal_taper, result]
  exact asked

end ordinary

/-! ## The expiry of a release's debounce timer (R105, R109) -/

section expiry

variable {s : State} {i : StripId} {c : ChanId} {k : Code}

/-- From the lifting of the hand on, a release leaves where a strip stands and its target, and leaves the others (R109). -/
theorem State.lifted_release (s : State) (i : StripId) (expiry : Nat) (settled : (s.strip i).waiting = none) :
    let t := (s.lifted i expiry).takeRelease i
    t.clock = max s.clock expiry ∧ (t.strip i).standing = { s.strip i with debounce := none, touched := false }.standing ∧
    (t.strip i).target = (s.strip i).target ∧ ∀ j, j ≠ i → t.strip j = s.strip j := by
  have record := s.lifted_strip i expiry
  have bides : (s.lifted i expiry).Bides i (((s.lifted i expiry).ordinaryRelease i).releaseRecal i) :=
    State.Bides.ordinaryRelease.trans State.WorksAt.releaseRecal.bides
  obtain ⟨-, -, target, -⟩ := ((s.lifted i expiry).ordinaryRelease i).releaseRecal_keeps i
  rw [← State.takeRelease_of_settled (by rw [record]; exact settled)] at bides target
  refine ⟨bides.clock, by rw [bides.own, record], ?_, fun j other => ?_⟩
  · rw [target, State.ordinaryRelease_target, record]
  · exact (bides.others j other).trans (State.strip_modStrip_ne _ other _)

theorem State.takeRelease_stays (settled : (s.strip i).waiting = none)
    (stays : (s.strip i).motion = .stalled ∨ (s.strip i).mode = .parked) : (s.takeRelease i).strip i = s.strip i := by
  have kept := State.ordinaryRelease_stays stays
  rw [State.takeRelease_of_settled settled, State.releaseRecal_stays, kept]
  rw [kept]
  exact stays.imp (fun stalled => by simp [stalled]) fun parked => by simp [parked, Mode.motorised]

theorem State.takeRelease_write (settled : (s.strip i).waiting = none) (unstalled : (s.strip i).motion ≠ .stalled)
    (write : (s.strip i).mode = .write) : ((s.takeRelease i).strip i).motion = .idle := by
  rw [State.takeRelease_of_settled settled, State.ordinaryRelease_write unstalled write, State.releaseRecal_stays,
    State.enter_strip_self, Strip.enter_motion]
  exact .inr (by simp [write, Mode.motorised])

theorem State.takeRelease_engaged (settled : (s.strip i).waiting = none) (unstalled : (s.strip i).motion ≠ .stalled)
    (latch : (s.strip i).mode = .latch) (engaged : (s.strip i).latch = true) :
    (s.takeRelease i).strip i = (s.strip i).enter .latched s.ctl.time := by
  rw [State.takeRelease_of_settled settled, State.ordinaryRelease_engaged unstalled latch engaged, State.releaseRecal_stays,
    State.enter_strip_self]
  exact .inl (by simp)

theorem State.takeRelease_returns (settled : (s.strip i).waiting = none) (unstalled : (s.strip i).motion ≠ .stalled)
    (returns : (s.strip i).returns) : s.takeRelease i = (s.givenBack i).releaseRecal i := by
  rw [State.takeRelease_of_settled settled, State.ordinaryRelease_returns unstalled returns]

/-- The restore of a release finds its place, and its POSITION stands at the channel's home (R12, R112). -/
theorem State.takeRelease_restores (settled : (s.strip i).waiting = none) (touch : (s.strip i).touchBehaviour = true)
    (holds : s.processorCode i = some (c, k)) (home : s.home c ≠ none)
    (may : (s.chan c).image ≠ some k ∨ s.positionStands c = true)
    (place : s.port.queue.countP InjEntry.isPosition < 32 ∨ s.port.queue.any (InjEntry.isPositionOf c) = true) :
    ∃ e ∈ (s.takeRelease i).port.queue, ∃ a w, s.home c = some (a, w) ∧ e.addr = a ∧ e.body = .position c k w := by
  obtain ⟨u, state, port, -⟩ := s.ordinaryRelease_reports i
  rw [State.takeRelease_of_settled settled, State.releaseRecal_port, port]
  obtain rfl | rfl := state
  · rw [State.releaseRestore_touch touch holds home]
    exact State.writeBack_placed home may place
  · have port' : (s.enter i .idle).port = s.port := State.enter_port ..
    have home' : (s.enter i .idle).home c = s.home c := State.enter_home ..
    have holds' : (s.enter i .idle).processorCode i = some (c, k) :=
      (State.processorCode_congr (by rw [State.enter_strip_self]; rfl) (State.enter_chans ..)).trans holds
    have stands : (s.enter i .idle).positionStands c = s.positionStands c := by simp only [State.positionStands, port']
    rw [State.releaseRestore_touch (by rw [State.enter_strip_self]; exact Strip.touchBehaviour_enter_idle touch _) holds'
      (by rw [home']; exact home), ← home']
    exact State.writeBack_placed (by rw [home']; exact home) (by rw [State.enter_chan, stands]; exact may) (by rw [port']; exact place)

/-- A release whose restore is not refused reports nothing before its TOUCH_OFF (R105, R112). -/
theorem State.takeRelease_unreported (settled : (s.strip i).waiting = none)
    (room : s.port.queue.countP InjEntry.isPosition < 32) : s.Unreported (s.takeRelease i) := by
  obtain ⟨u, state, port, ctl⟩ := s.ordinaryRelease_reports i
  have same : u.port = s.port ∧ u.ctl = s.ctl := by
    obtain rfl | rfl := state
    · exact ⟨rfl, rfl⟩
    · exact ⟨State.enter_port .., State.enter_ctl ..⟩
  have quiet := State.releaseRestore_unreported (s := u) (by rw [same.1]; exact room) i
  rw [State.takeRelease_of_settled settled]
  refine ⟨?_, ?_⟩
  · rw [State.releaseRecal_ctl, ctl, quiet.ctl, same.2]
  · rw [State.releaseRecal_port, port, quiet.events, same.1]

end expiry

/-- Settles O48: by the mode of the strip, its release stays, rests, latches, or gives it back; the restore and TOUCH_OFF are the same for all. -/
theorem releasesGiveTheStripBack : Obligations.ReleasesGiveTheStripBack := by
  intro i expiry s run armed waits
  have record := s.lifted_strip i expiry
  have settled : ((s.lifted i expiry).strip i).waiting = none := by rw [record]; exact waits
  have told : ∀ u : State, (u.stripEvent .touchOff i (s.releaseLevel i)).strip i = u.strip i := fun u => by simp
  have code : (s.lifted i expiry).processorCode i = s.processorCode i := State.processorCode_congr (by rw [record]) rfl
  obtain ⟨clock, standing, target, others⟩ := s.lifted_release i expiry waits
  refine ⟨_, exec_debounceExpiry_release run armed, by rw [State.stripEvent_clock, clock], ?_⟩
  simp only [told, State.stripEvent_drive, State.stripEvent_taper]
  refine ⟨(congrArg Strip.touched standing :), (congrArg Strip.debounce standing :), (congrArg Strip.mode standing :),
    (congrArg Strip.shown standing :), target, (congrArg Strip.opCode standing :), (congrArg Strip.lastReadback standing :),
    fun stays => ?_, fun unstalled write => ?_, fun unstalled latch engaged => ?_, fun unstalled returns => ?_,
    fun c k touch holds home may place => ?_, fun room few => ?_, fun j other => ?_⟩
  · rw [State.takeRelease_stays settled (by rw [record]; exact stays), record]
  · exact State.takeRelease_write settled (by rw [record]; exact unstalled) (by rw [record]; exact write)
  · rw [State.takeRelease_engaged settled (by rw [record]; exact unstalled) (by rw [record]; exact latch)
      (by rw [record]; exact engaged), record]
    exact ⟨rfl, engaged, rfl⟩
  · have returns' : ((s.lifted i expiry).strip i).returns := by rw [record]; exact returns
    rw [State.takeRelease_returns settled (by rw [record]; exact unstalled) returns']
    refine ⟨State.givenBack_latch .., fun owed => ?_, fun absent => ?_, fun c k g holds target own chan => ⟨fun near => ?_, fun far => ?_⟩,
      fun c k holds unpaired => ?_⟩
    · obtain ⟨queued, entry⟩ := State.givenBack_owed (by rw [record]) returns' (by rw [record]; exact owed)
      exact ⟨queued, fun _ => entry⟩
    · have rests := State.givenBack_rests (State.givenBack_absent (code.trans absent))
      rwa [record] at rests
    · have rests := State.givenBack_rests
        (State.givenBack_near (code.trans holds) (by rw [record]; exact target) own chan (by rw [record]; exact near))
      rwa [record] at rests
    · have far' := State.givenBack_far (code.trans holds) (by rw [record]; exact target) own chan (by rw [record]; exact far)
      rwa [record] at far'
    · obtain ⟨at_, carries⟩ := State.givenBack_unpaired (code.trans holds) (by rw [record]; exact unpaired)
      obtain ⟨speed, motion⟩ := State.givenBack_rests at_
      rw [record] at motion
      exact ⟨speed, motion, carries⟩
  · obtain ⟨e, mem, position⟩ := State.takeRelease_restores settled
      (by rw [record]; exact Strip.touchBehaviour_iff.mpr touch) (code.trans holds) home may place
    obtain ⟨a, w, at_, addr, body⟩ := position
    have other : e.isStatus = false := by simp [InjEntry.isStatus, body]
    have stands := (State.Stands.createEvent ((s.lifted i expiry).takeRelease i) .touchOff (BitVec.ofNat 8 i.val)
      (s.releaseLevel i)).entries e (ImagePort.mem_others.mpr ⟨mem, other⟩)
    exact ⟨e, (ImagePort.mem_others.mp stands).1, a, w, at_, addr, body⟩
  · have quiet := State.takeRelease_unreported settled few
    obtain ⟨e, mem, body⟩ := State.createEvent_delivered (quiet.hasRoom room) .touchOff (BitVec.ofNat 8 i.val) (s.releaseLevel i)
    rw [quiet.ctl] at body
    exact ⟨e, mem, body⟩
  · rw [State.stripEvent_strip, others j other]

end Sys2Proof.Machine
end

section
namespace Sys2Proof.Machine

open Sys2Proof

/-! ## The rows of the control area as full-word writes (R188, Table 11.1) -/

section rows

variable (s : State)

/-- A COMMAND word is taken by its fields: the code, the tag and the argument (Table 11.3). -/
theorem State.controlWrite_command (code tag : BitVec 8) (arg : BitVec 16) :
    s.controlWrite 0x000 (arg ++ (tag ++ code)) = s.takeCommand code tag arg := by
  have codeField : (arg ++ (tag ++ code)).extractLsb' 0 8 = code :=
    (BitVec.extractLsb'_append_eq_of_add_le (by decide)).trans BitVec.extractLsb'_append_eq_right
  have tagField : (arg ++ (tag ++ code)).extractLsb' 8 8 = tag :=
    (BitVec.extractLsb'_append_eq_of_add_le (by decide)).trans BitVec.extractLsb'_append_eq_left
  have argField : highHalf (arg ++ (tag ++ code)) = arg := BitVec.extractLsb'_append_eq_left
  rw [State.controlWrite, if_pos rfl, codeField, tagField, argField]

/-- A live parameter's word stands behind those of the parameters before it (R189, Table 11.2). -/
theorem State.controlWrite_param (p : Param) (w : Word) : s.controlWrite (0x010 + p.index.val) w = s.writeParam p w := by
  have inside := p.index.isLt
  have place : (⟨0x010 + p.index.val - 0x010, by omega⟩ : Fin 28) = p.index := Fin.ext (by simp)
  rw [State.controlWrite, if_neg (by omega), if_neg (by omega), if_neg (by omega), if_neg (by omega), if_neg (by omega),
    if_neg (by omega), dif_pos (by omega), place, Param.ofIndex_index]

/-- A strip has two settings words, side by side (R134, Table 11.1). -/
theorem State.controlWrite_settings (i : StripId) (second : Bool) (w : Word) :
    s.controlWrite (0x100 + 2 * i.val + second.toNat) w = s.writeSettings i second w := by
  have inside := i.isLt
  have bit : second.toNat < 2 := Bool.toNat_lt second
  have strip : (⟨(0x100 + 2 * i.val + second.toNat - 0x100) / 2, by omega⟩ : StripId) = i := Fin.ext (by simp only []; omega)
  have which : ((0x100 + 2 * i.val + second.toNat) % 2 == 1) = second := by
    rw [show (0x100 + 2 * i.val + second.toNat) % 2 = second.toNat by omega]
    cases second <;> rfl
  rw [State.controlWrite, if_neg (by omega), if_neg (by omega), if_neg (by omega), if_neg (by omega), if_neg (by omega),
    if_neg (by omega), dif_neg (by omega), dif_pos (by omega), strip, which]

/-- Two works of the running part that do the same are the same command. -/
theorem live_congr {f g : State → State} (same : ∀ t, f t = g t) : live f s = live g s := by
  rw [show f = g from funext same]

/-- A full-word write, by the offset of its word. -/
theorem exec_controlAreaWrite_live (o : BitVec 9) (w : Word) :
    exec (.controlAreaWrite o w) s = live (fun t => t.controlWrite o.toNat w) s := rfl

/-- A command is taken by the write of its COMMAND word (R191, R194). -/
theorem live_takeCommand (code tag : BitVec 8) (arg : BitVec 16) :
    live (fun t => t.takeCommand code tag arg) s = exec (.controlAreaWrite 0#9 (arg ++ (tag ++ code))) s := by
  rw [exec_controlAreaWrite_live]
  exact live_congr s fun t => (t.controlWrite_command code tag arg).symm

/-- An offset of the control area fits the offset of a word (1.2). -/
theorem exec_controlAreaWrite_ofNat {o : Nat} (inside : o < 512) (w : Word) :
    exec (.controlAreaWrite (BitVec.ofNat 9 o) w) s = live (fun t => t.controlWrite o w) s := by
  rw [exec_controlAreaWrite_live, BitVec.toNat_ofNat, Nat.mod_eq_of_lt inside]

/-- Setting bit 8 of an argument that has it set changes nothing (R194). -/
theorem setBit8_eq_self {arg : BitVec 16} (on : arg.getLsbD 8 = true) : arg ||| 0x0100#16 = arg := by
  have only : ∀ k : Fin 16, (0x0100#16)[k.val] = true → k = 8 := by decide
  ext k inside
  rw [BitVec.getElem_or, Bool.or_eq_left_iff_imp]
  intro bit
  cases only ⟨k, inside⟩ bit
  exact on

/-- Clearing bit 8 of an argument that has it clear changes nothing (R194). -/
theorem clearBit8_eq_self {arg : BitVec 16} (off : arg.getLsbD 8 = false) : arg &&& 0xFEFF#16 = arg := by
  have others : ∀ k : Fin 16, k ≠ 8 → (0xFEFF#16)[k.val] = true := by decide
  ext k inside
  rw [BitVec.getElem_and, Bool.and_eq_left_iff_imp]
  intro bit
  refine others ⟨k, inside⟩ fun eight => ?_
  cases eight
  exact absurd bit (Bool.eq_false_iff.mp off)

end rows

/-- Settles O18: each offset's branch of `State.controlWrite` is its row's work, and a COMMAND word's fields are its row's operands. -/
theorem rowsAreControlAreaWrites : Obligations.RowsAreControlAreaWrites := by
  intro s
  have command := live_takeCommand s
  refine ⟨fun _ => rfl, fun _ => rfl, fun _ => rfl, fun _ => rfl, fun _ => rfl, fun p w => ?_, fun i second w => ?_,
    fun tag arg => ⟨command .., command .., command .., fun on => ?_, fun off => ?_, command .., command .., command ..,
      command .., command .., command .., command .., command .., command .., command ..⟩, fun code tag arg => command ..⟩
  · have inside := p.index.isLt
    rw [exec_controlAreaWrite_ofNat s (by omega)]
    exact live_congr s fun t => (t.controlWrite_param p w).symm
  · have inside := i.isLt
    have bit : second.toNat < 2 := Bool.toNat_lt second
    rw [exec_controlAreaWrite_ofNat s (by omega)]
    exact live_congr s fun t => (t.controlWrite_settings i second w).symm
  · rw [← command]
    exact congrArg (fun a => live (fun t => t.takeCommand 0x04#8 tag a) s) (setBit8_eq_self on)
  · rw [← command]
    exact congrArg (fun a => live (fun t => t.takeCommand 0x04#8 tag a) s) (clearBit8_eq_self off)

end Sys2Proof.Machine
end

section
namespace Sys2Proof.Machine

open Sys2Proof

/-! ## Works of the layers that may touch every strip (R129, R130) -/

/-- Every strip is among all strips. -/
theorem mem_allStrips (i : StripId) : i ∈ allStrips := List.mem_finRange i

theorem allStrips_nodup : allStrips.Nodup := List.nodup_finRange 32

namespace State.WorksOn

variable {s t : State}

theorem layers {l : List StripId} (h : s.WorksOn l t) : t.layers = s.layers :=
  (congrArg State.layers h.rest :)

/-- A work that may touch every strip and that leaves conversions alone. -/
theorem everywhere (rest : { t with port := s.port, taper := s.taper, strips := s.strips, drive := s.drive, ctl := s.ctl } = s)
    (steady : s.Steady t := by exact .of_ctl) (taper : t.taper = s.taper := by simp) : s.WorksOn allStrips t :=
  ⟨fun j absent => absurd (mem_allStrips j) absent, rest, steady, fun c asked im seen => by rw [taper]; exact asked im seen⟩

theorem hold (s : State) (i : StripId) : s.WorksOn allStrips (s.hold i) := everywhere State.outside_eq

theorem change (s : State) (i : StripId) (f : Strip → Strip) : s.WorksOn allStrips (s.modStrip i f) :=
  (modStrip i f).mono fun j _ => mem_allStrips j

theorem createEvent (s : State) (kind : EventKind) (index : BitVec 8) (v : BitVec 16) :
    s.WorksOn allStrips (s.createEvent kind index v) := everywhere State.outside_eq (.createEvent ..)

theorem requestFetch (s : State) (c : ChanId) : s.WorksOn allStrips (s.requestFetch c) := by
  unfold State.requestFetch
  split
  · exact refl
  · split
    · exact refl
    · split
      · exact everywhere State.outside_eq
      · unfold State.fetchFailed
        dsimp only
        split
        · exact (createEvent ..).trans (hold ..)
        · exact createEvent ..

theorem takeChannel (s : State) (i : StripId) (x : Option ChanId) : s.WorksOn allStrips (s.takeChannel i x) := by
  have taken := change s i fun p => { p with shown := x, opCode := none, lastReadback := none, waiting := none }
  unfold State.takeChannel
  dsimp only
  split
  · exact taken.trans (hold ..)
  · split
    · exact taken.trans (convertChannel ..)
    · split
      · exact (taken.trans (requestFetch ..)).trans (hold ..)
      · exact (taken.trans (createEvent ..)).trans (hold ..)

theorem adopt (s : State) (i : StripId) (x : Option ChanId) : s.WorksOn allStrips (s.adopt i x) := by
  unfold State.adopt
  split
  · split
    · exact (takeChannel ..).trans (change ..)
    · exact takeChannel ..
  · exact takeChannel ..

theorem giveUp (s : State) (i : StripId) (old : Option ChanId) : s.WorksOn allStrips (s.giveUp i old) := by
  obtain ⟨same, -⟩ | ⟨y, -, -, release⟩ := s.giveUp_cases i old
  · rw [same]
    exact refl
  · generalize s.giveUp i old = t at release
    cases release with
    | nobody => exact refl
    | defers => exact change ..
    | adopts => exact ((change ..).trans (adopt ..)).trans (createEvent ..)

theorem takeEntry (n : LayerId) (keeping : List StripId) (i : StripId) (s : State) :
    s.WorksOn allStrips (s.takeEntry n keeping i) := by
  unfold State.takeEntry
  split
  · exact takeChannel ..
  · split
    · exact (takeChannel ..).trans (change ..)
    · exact takeChannel ..

theorem classify (n : LayerId) (i : StripId) (s : State) : s.WorksOn allStrips (s.classify n i) := by
  unfold State.classify
  dsimp only
  split
  · exact refl
  · split
    · exact change ..
    · exact change ..

/-- Works that may touch every strip, one after the other. -/
theorem each {f : StripId → State → State} (works : ∀ i (u : State), u.WorksOn allStrips (f i u)) (l : List StripId) (s : State) :
    s.WorksOn allStrips (s.forStrips l f) :=
  State.forStrips_induct (P := fun u => s.WorksOn allStrips u) (fun i u came => came.trans (works i u)) l refl

end State.WorksOn

/-! ## Strips that are held, beside strips that are kept (R39, R40, R78) -/

/-- From `s` to `t` a strip is held at most, so that all that a hold leaves of it is as before, and a strip in `kept` is as before. -/
structure State.HoldsBeside (kept : List StripId) (s t : State) : Prop where
  view : ∀ j, (t.strip j).heldView = (s.strip j).heldView
  same : ∀ j, j ∈ kept → t.strip j = s.strip j

namespace State.HoldsBeside

variable {kept : List StripId} {s t u : State} {i : StripId} {c : ChanId}

theorem of_eq (strips : t.strips = s.strips := by simp) : s.HoldsBeside kept t :=
  ⟨fun j => by rw [State.strip_congr strips], fun j _ => State.strip_congr strips j⟩

theorem trans (h : s.HoldsBeside kept t) (h' : t.HoldsBeside kept u) : s.HoldsBeside kept u :=
  ⟨fun j => (h'.view j).trans (h.view j), fun j mem => (h'.same j mem).trans (h.same j mem)⟩

theorem hold (other : i ∉ kept) : s.HoldsBeside kept (s.hold i) where
  view j := by
    by_cases own : j = i
    · exact own ▸ (State.WorksAt.hold s i).own
    · rw [State.hold_strip_ne s own]
  same j mem := State.hold_strip_ne s (ne_of_mem_of_not_mem mem other)

/-- A FETCH that is refused holds the strip that shows the channel (R13, R39). -/
theorem requestFetch (apart : ∀ j ∈ kept, (s.strip j).shown ≠ some c) : s.HoldsBeside kept (s.requestFetch c) := by
  have told : s.HoldsBeside kept (s.createEvent .fetchError (BitVec.ofNat 8 c.val) 2#16) := of_eq
  unfold State.requestFetch
  split
  · exact of_eq rfl
  · split
    · exact of_eq rfl
    · split
      · exact of_eq
      · unfold State.fetchFailed
        dsimp only
        split
        · next k shows =>
          refine told.trans (hold fun mem => apart k mem ?_)
          rw [← State.createEvent_strip s .fetchError (BitVec.ofNat 8 c.val) 2#16]
          exact State.shown_of_shownBy shows
        · exact told

theorem convertChannel (s : State) (c : ChanId) (o : Bool) : s.HoldsBeside kept (s.convertChannel c o) := of_eq

theorem unmapped (other : i ∉ kept) (c : ChanId) : s.HoldsBeside kept (s.unmapped i c) :=
  (of_eq (t := s.stripEvent .unmapped i (field16 c.val))).trans (hold other)

/-- A strip takes a channel that no kept strip shows, or none (R129). -/
theorem takeChannel {x : Option ChanId} (other : i ∉ kept) (apart : ∀ c, x = some c → ∀ j ∈ kept, (s.strip j).shown ≠ some c) :
    (s.modStrip i fun p => p.takes x).HoldsBeside kept (s.takeChannel i x) := by
  have apart' : ∀ c, x = some c → ∀ j ∈ kept, ((s.modStrip i fun p => p.takes x).strip j).shown ≠ some c :=
    fun c aims j mem => by
      rw [State.strip_modStrip_ne _ (ne_of_mem_of_not_mem mem other)]
      exact apart c aims j mem
  unfold State.takeChannel
  dsimp only
  split
  · exact hold other
  · next c =>
    split
    · exact convertChannel ..
    · split
      · exact (requestFetch (apart' c rfl)).trans (hold other)
      · exact unmapped other c

/-- A change of the same fields of a strip before a hold and after it. -/
theorem modStrip (h : s.HoldsBeside kept t) (other : i ∉ kept) {g : Strip → Strip} (f : Strip × Bool × Bool × Bool → Strip × Bool × Bool × Bool)
    (shows : ∀ p, (g p).heldView = f p.heldView) : (s.modStrip i g).HoldsBeside kept (t.modStrip i g) where
  view j := by
    by_cases own : j = i
    · subst own
      rw [State.strip_modStrip_self, State.strip_modStrip_self, shows, shows, h.view]
    · rw [State.strip_modStrip_ne _ own, State.strip_modStrip_ne _ own, h.view]
  same j mem := by
    have own : j ≠ i := ne_of_mem_of_not_mem mem other
    rw [State.strip_modStrip_ne _ own, State.strip_modStrip_ne _ own, h.same j mem]

end State.HoldsBeside

/-! ## The taking strips of SELECT_LAYER (R127) -/

/-- What a strip's entry of a layer makes of its record: it takes the entry, or becomes conflict-blank on a channel that a keeping strip shows (R127). -/
def State.takenEntry (s : State) (n : LayerId) (keeping : List StripId) (i : StripId) : Strip → Strip :=
  match s.layerEntry n i with
  | none => fun p => p.takes none
  | some c =>
    if keeping.any fun j => (s.strip j).shown == some c then fun p => p.blankOn c else fun p => p.takes (some c)

section taking

variable {s t : State} {n : LayerId} {keeping : List StripId} {i : StripId}

/-- All that a strip's entry can make of its record: conflict-blank where a keeping strip shows the entry, and the entry taken elsewhere (R127). -/
theorem State.takenEntry_cases (s : State) (n : LayerId) (keeping : List StripId) (i : StripId) :
    (∃ c, s.layerEntry n i = some c ∧ (∃ j ∈ keeping, (s.strip j).shown = some c) ∧
      s.takenEntry n keeping i = fun p => p.blankOn c) ∨
    ((∀ c, s.layerEntry n i = some c → ∀ j ∈ keeping, (s.strip j).shown ≠ some c) ∧
      s.takenEntry n keeping i = fun p => p.takes (s.layerEntry n i)) := by
  cases entry : s.layerEntry n i with
  | none =>
    simp only [State.takenEntry, entry]
    exact .inr ⟨nofun, trivial⟩
  | some c =>
    simp only [State.takenEntry, entry]
    split
    · next any =>
      obtain ⟨j, mem, shows⟩ := List.any_eq_true.mp any
      exact .inl ⟨c, rfl, ⟨j, mem, beq_iff_eq.mp shows⟩, rfl⟩
    · next unshown =>
      refine .inr ⟨fun d aims j mem shows => unshown (List.any_eq_true.mpr ⟨j, mem, ?_⟩), rfl⟩
      cases aims
      exact beq_iff_eq.mpr shows

/-- What an entry makes of a record is told by what a hold leaves of it. -/
theorem State.takenEntry_heldView {p q : Strip} (same : p.heldView = q.heldView) :
    (s.takenEntry n keeping i p).heldView = (s.takenEntry n keeping i q).heldView := by
  obtain ⟨c, -, -, blank⟩ | ⟨-, takes⟩ := s.takenEntry_cases n keeping i
  · rw [blank]
    exact congrArg (fun v => (v.1.blankOn c, v.2)) same
  · rw [takes]
    exact congrArg (fun v => (v.1.takes (s.layerEntry n i), v.2)) same

/-- The layers, and what the keeping strips show, say what an entry makes of a record. -/
theorem State.takenEntry_congr (layers : t.layers = s.layers) (same : ∀ j ∈ keeping, t.strip j = s.strip j) :
    t.takenEntry n keeping i = s.takenEntry n keeping i := by
  have any : ∀ c, (keeping.any fun j => (t.strip j).shown == some c) = keeping.any fun j => (s.strip j).shown == some c :=
    fun c => by rw [Bool.eq_iff_iff, List.any_eq_true, List.any_eq_true]; exact exists_congr fun j => and_congr_right fun mem => by rw [same j mem]
  simp only [State.takenEntry, State.layerEntry, layers, any]

theorem State.takeEntry_layers (s : State) : (s.takeEntry n keeping i).layers = s.layers :=
  (State.WorksOn.takeEntry n keeping i s).layers

/-- The taking of one strip's entry holds strips that do not keep (R127). -/
theorem State.takeEntry_holds (s : State) (other : i ∉ keeping) :
    (s.modStrip i (s.takenEntry n keeping i)).HoldsBeside keeping (s.takeEntry n keeping i) := by
  cases entry : s.layerEntry n i with
  | none =>
    simp only [State.takeEntry, State.takenEntry, entry]
    exact .takeChannel other nofun
  | some c =>
    simp only [State.takeEntry, State.takenEntry, entry]
    split
    · have blanked := (State.HoldsBeside.takeChannel (s := s) (x := none) other nofun).modStrip other
        (g := fun p => { p with conflict := some c }) (fun v => ({ v.1 with conflict := some c }, v.2)) fun _ => rfl
      rw [State.modStrip_modStrip] at blanked
      exact blanked
    · next unshown =>
      refine .takeChannel other fun d aims j mem shows => unshown (List.any_eq_true.mpr ⟨j, mem, ?_⟩)
      cases aims
      exact beq_iff_eq.mpr shows

/-- Each strip that takes its entry does so on what it was, and the keeping strips keep their records (R127). -/
theorem State.forStrips_takeEntry {l : List StripId} (distinct : l.Nodup) (apart : ∀ i ∈ l, i ∉ keeping) (s : State) :
    let t := s.forStrips l (State.takeEntry n keeping)
    (∀ j ∈ keeping, t.strip j = s.strip j) ∧
    ∀ j, (t.strip j).heldView = (if j ∈ l then s.takenEntry n keeping j (s.strip j) else s.strip j).heldView := by
  induction l generalizing s with
  | nil => exact ⟨fun _ _ => rfl, fun _ => rfl⟩
  | cons i l ih =>
    obtain ⟨absent, distinct⟩ := List.nodup_cons.mp distinct
    have other := apart i List.mem_cons_self
    have first := s.takeEntry_holds (n := n) other
    have same : ∀ j ∈ keeping, (s.takeEntry n keeping i).strip j = s.strip j := fun j mem => by
      rw [first.same j mem, State.strip_modStrip_ne _ (ne_of_mem_of_not_mem mem other)]
    obtain ⟨kept, views⟩ := ih distinct (fun k mem => apart k (List.mem_cons_of_mem _ mem)) (s.takeEntry n keeping i)
    rw [State.forStrips_cons]
    refine ⟨fun j mem => (kept j mem).trans (same j mem), fun j => (views j).trans ?_⟩
    have here := first.view j
    by_cases own : j = i
    · subst own
      rw [State.strip_modStrip_self] at here
      rw [if_neg absent, if_pos List.mem_cons_self, here]
    · rw [State.strip_modStrip_ne _ own] at here
      simp only [List.mem_cons, own, false_or]
      split
      · rw [State.takenEntry_congr s.takeEntry_layers same]
        exact State.takenEntry_heldView here
      · exact here

end taking

end Sys2Proof.Machine
end

section
namespace Sys2Proof.Machine

open Sys2Proof

/-! ## The classification of SELECT_LAYER (R126) -/

/-- A strip's record as SELECT_LAYER classifies it: isolated, deferred, or taking (R126). -/
def State.classified (s : State) (n : LayerId) (i : StripId) : Strip :=
  if (s.strip i).isolated then s.strip i
  else if s.meetsDeferral i then
    { s.strip i with
      conflict := none
      waiting := if s.layerEntry n i = (s.strip i).shown then none else some (s.layerEntry n i) }
  else { s.strip i with conflict := none, waiting := none }

section selection

variable {s t : State} {n : LayerId} {i j : StripId}

theorem State.classify_strip (s : State) (n : LayerId) (i j : StripId) :
    (s.classify n i).strip j = if j = i then s.classified n i else s.strip j := by
  unfold State.classify State.classified
  split
  · split
    · next own => rw [own]
    · rfl
  · dsimp only
    split
    · rw [State.strip_modStrip]
    · rw [State.strip_modStrip]

/-- A strip's classification depends on its record, the layers and the parameters. -/
theorem State.classified_congr (record : t.strip i = s.strip i) (layers : t.layers = s.layers) (ctl : t.ctl = s.ctl) :
    t.classified n i = s.classified n i := by
  unfold State.classified State.meetsDeferral State.openDefers State.layerEntry State.param
  rw [record, layers, ctl]

theorem State.classify_layers : (s.classify n i).layers = s.layers :=
  (State.WorksOn.classify n i s).layers

theorem State.classify_ctl : (s.classify n i).ctl = s.ctl := by
  unfold State.classify
  dsimp only
  (repeat' split) <;> rfl

/-- Each strip is classified against the state it has (R126). -/
theorem State.forStrips_classify {l : List StripId} (distinct : l.Nodup) (s : State) (j : StripId) :
    (s.forStrips l fun i v => v.classify n i).strip j = if j ∈ l then s.classified n j else s.strip j := by
  induction l generalizing s with
  | nil => rfl
  | cons i l ih =>
    obtain ⟨absent, distinct⟩ := List.nodup_cons.mp distinct
    rw [State.forStrips_cons, ih distinct]
    by_cases own : j = i
    · subst own
      rw [if_neg absent, if_pos List.mem_cons_self, State.classify_strip, if_pos rfl]
    · simp only [List.mem_cons, own, false_or]
      have record : (s.classify n i).strip j = s.strip j := by rw [State.classify_strip, if_neg own]
      rw [record, State.classified_congr record State.classify_layers State.classify_ctl]

/-- A strip that is classified shows what it showed, and stays isolated or not. -/
theorem State.classified_keeps (s : State) (n : LayerId) (i : StripId) :
    (s.classified n i).shown = (s.strip i).shown ∧ (s.classified n i).isolated = (s.strip i).isolated := by
  unfold State.classified
  (repeat' split) <;> exact ⟨rfl, rfl⟩

theorem State.keeps_iff : s.keeps i = true ↔ (s.strip i).isolated = true ∨ s.defers i := by
  rw [State.keeps, Bool.or_eq_true, State.meetsDeferral_iff]

theorem State.classified_isolated (isolated : (s.strip i).isolated = true) : s.classified n i = s.strip i := if_pos isolated

theorem State.classified_deferred (free : (s.strip i).isolated = false) (defers : s.defers i) :
    s.classified n i = { s.strip i with
      conflict := none
      waiting := if s.layerEntry n i = (s.strip i).shown then none else some (s.layerEntry n i) } := by
  rw [State.classified, if_neg (by rw [free]; decide), if_pos (State.meetsDeferral_iff.mpr defers)]

theorem State.classified_taking (takes : s.keeps i = false) :
    s.classified n i = { s.strip i with conflict := none, waiting := none } := by
  obtain ⟨free, moves⟩ := Bool.or_eq_false_iff.mp takes
  rw [State.classified, if_neg (by rw [free]; decide), if_neg (by rw [moves]; decide)]

/-! ## The strips after SELECT_LAYER (R127) -/

/-- The strips that keep their channel at SELECT_LAYER, in strip order (R126). -/
def State.keepers (s : State) : List StripId := allStrips.filter s.keeps

/-- The state with a layer active, its strips not yet classified (R126). -/
def State.withActive (s : State) (n : LayerId) : State := { s with layers := { s.layers with active := n } }

/-- The state in which each strip is classified (R126). -/
def State.classifiedAll (s : State) (n : LayerId) : State := (s.withActive n).forStrips allStrips fun i v => v.classify n i

/-- The state in which each taking strip has its entry (R127). -/
def State.laidOut (s : State) (n : LayerId) : State :=
  (s.classifiedAll n).forStrips (allStrips.filter fun i => !s.keeps i) (State.takeEntry n s.keepers)

theorem State.chooseLayer_eq (s : State) (tag : BitVec 8) (n : LayerId) : s.chooseLayer tag n =
    ((s.laidOut n).createEvent .layerDone (BitVec.ofNat 8 n.val) (field16 (s.classifiedAll n).deferredCount)).writeResult tag .done
      (field16 (s.classifiedAll n).deferredCount) := rfl

theorem State.mem_keepers : i ∈ s.keepers ↔ s.keeps i = true := by
  simp [State.keepers, mem_allStrips]

theorem State.classifiedAll_strip (s : State) (n : LayerId) (i : StripId) :
    (s.classifiedAll n).strip i = (s.withActive n).classified n i := by
  rw [State.classifiedAll, State.forStrips_classify allStrips_nodup, if_pos (mem_allStrips i)]

theorem State.laidOut_worksOn (s : State) (n : LayerId) : (s.withActive n).WorksOn allStrips (s.laidOut n) :=
  (State.WorksOn.each (State.WorksOn.classify n) allStrips _).trans (State.WorksOn.each (State.WorksOn.takeEntry n s.keepers) _ _)

theorem State.classifiedAll_layers (s : State) (n : LayerId) : (s.classifiedAll n).layers = (s.withActive n).layers :=
  (State.WorksOn.each (State.WorksOn.classify n) allStrips (s.withActive n)).layers

/-- The choice of the active layer is no business of a strip's classification. -/
theorem State.withActive_classified (s : State) (n : LayerId) (i : StripId) : (s.withActive n).classified n i = s.classified n i := rfl

/-- A keeping strip is as it was classified (R126). -/
theorem State.laidOut_keeps (keeps : s.keeps i = true) : (s.laidOut n).strip i = s.classified n i := by
  obtain ⟨kept, -⟩ := State.forStrips_takeEntry (n := n) (keeping := s.keepers)
    (l := allStrips.filter fun i => !s.keeps i) (allStrips_nodup.filter _)
    (fun j mem keeps => by simp [State.mem_keepers.mp keeps] at mem) (s.classifiedAll n)
  exact (kept i (State.mem_keepers.mpr keeps)).trans (s.classifiedAll_strip n i)

/-- A taking strip takes its entry, or becomes conflict-blank on a channel that a keeping strip shows (R127). -/
theorem State.laidOut_takes (takes : s.keeps i = false) :
    (∃ c, s.layerEntry n i = some c ∧ (∃ j, s.keeps j = true ∧ (s.strip j).shown = some c) ∧
      ((s.laidOut n).strip i).heldView = Strip.heldView { (s.strip i).takes none with conflict := some c }) ∨
    ((∀ c, s.layerEntry n i = some c → ∀ j, s.keeps j = true → (s.strip j).shown ≠ some c) ∧
      ((s.laidOut n).strip i).heldView = Strip.heldView { (s.strip i).takes (s.layerEntry n i) with conflict := none }) := by
  obtain ⟨-, views⟩ := State.forStrips_takeEntry (n := n) (keeping := s.keepers)
    (l := allStrips.filter fun i => !s.keeps i) (allStrips_nodup.filter _)
    (fun j mem keeps => by simp [State.mem_keepers.mp keeps] at mem) (s.classifiedAll n)
  have view := views i
  have shown : ∀ j, ((s.classifiedAll n).strip j).shown = (s.strip j).shown := fun j => by
    rw [State.classifiedAll_strip]
    exact (State.classified_keeps ..).1
  have entry : (s.classifiedAll n).layerEntry n i = s.layerEntry n i := by
    unfold State.layerEntry
    rw [State.classifiedAll_layers]
    rfl
  rw [if_pos (by simp [mem_allStrips, takes]), State.classifiedAll_strip, State.withActive_classified,
    State.classified_taking takes] at view
  obtain ⟨c, names, ⟨j, mem, shows⟩, blank⟩ | ⟨free, taken⟩ := (s.classifiedAll n).takenEntry_cases n s.keepers i
  · rw [blank] at view
    exact .inl ⟨c, entry ▸ names, ⟨j, State.mem_keepers.mp mem, shown j ▸ shows⟩, view⟩
  · rw [taken, entry] at view
    refine .inr ⟨fun c names j keeps => ?_, view⟩
    rw [← shown j]
    exact free c (entry.trans names) j (State.mem_keepers.mpr keeps)

end selection
end Sys2Proof.Machine
end

section
namespace Sys2Proof.Machine

open Sys2Proof

/-! ## SELECT_LAYER and LOAD_LAYER_MAP (R123, R126 to R128, R193) -/

section commands

variable {s : State} {n : LayerId} {i : StripId} {tag : BitVec 8} {arg : BitVec 16}

theorem argLayer_eq_some (names : arg.toNat = n.val) : argLayer arg = some n := by
  have below := n.isLt
  rw [argLayer, dif_pos (by omega)]
  exact congrArg some (Fin.ext names)

theorem exec_selectLayer (run : s.inReset = false) (idle : s.ctl.busy = none) (names : arg.toNat = n.val) :
    exec (.selectLayer tag arg) s = .next (s.chooseLayer tag n) := by
  have taken : s.takeCommand 0x01#8 tag arg = s.selectLayer tag arg := by
    simp only [State.takeCommand, idle]
    rfl
  rw [State.selectLayer, argLayer_eq_some names] at taken
  exact (live_running (f := fun s => s.takeCommand 0x01#8 tag arg) run).trans (congrArg _ taken)

theorem exec_loadLayerMap (run : s.inReset = false) (idle : s.ctl.busy = none) :
    exec (.loadLayerMap tag arg) s = .next (s.loadLayerMap tag arg) := by
  have taken : s.takeCommand 0x09#8 tag arg = s.loadLayerMap tag arg := by
    simp only [State.takeCommand, idle]
    rfl
  exact (live_running (f := fun s => s.takeCommand 0x09#8 tag arg) run).trans (congrArg _ taken)

/-! ### What SELECT_LAYER leaves (R126 to R128) -/

theorem State.chooseLayer_strip (s : State) (tag : BitVec 8) (n : LayerId) (i : StripId) :
    (s.chooseLayer tag n).strip i = (s.laidOut n).strip i := by
  rw [State.chooseLayer_eq, State.writeResult_strip, State.createEvent_strip]

/-- What a hold leaves of a strip tells these fields of it. -/
theorem Strip.fields_of_heldView {p q : Strip} (h : p.heldView = q.heldView) :
    p.shown = q.shown ∧ p.conflict = q.conflict ∧ p.waiting = q.waiting ∧ p.opCode = q.opCode ∧
    p.lastReadback = q.lastReadback ∧ p.mode = q.mode ∧ p.isolated = q.isolated :=
  ⟨congrArg (fun v => v.1.shown) h, congrArg (fun v => v.1.conflict) h, congrArg (fun v => v.1.waiting) h,
    congrArg (fun v => v.1.opCode) h, congrArg (fun v => v.1.lastReadback) h, congrArg (fun v => v.1.mode) h,
    congrArg (fun v => v.1.isolated) h⟩

/-- A taking strip waits for nothing, and has no operator code (R127, R129). -/
theorem State.laidOut_takes_settled (takes : s.keeps i = false) :
    let p := (s.laidOut n).strip i
    p.waiting = none ∧ p.opCode = none ∧ p.lastReadback = none ∧ p.mode = (s.strip i).mode ∧ p.isolated = false := by
  have free : (s.strip i).isolated = false := (Bool.or_eq_false_iff.mp takes).1
  obtain ⟨c, -, -, view⟩ | ⟨-, view⟩ := State.laidOut_takes (n := n) takes
  · obtain ⟨-, -, waiting, opCode, last, mode, isolated⟩ := Strip.fields_of_heldView view
    exact ⟨waiting, opCode, last, mode, isolated.trans free⟩
  · obtain ⟨-, -, waiting, opCode, last, mode, isolated⟩ := Strip.fields_of_heldView view
    exact ⟨waiting, opCode, last, mode, isolated.trans free⟩

/-- The strips left with a pending channel are those that are classified so (R128). -/
theorem State.laidOut_waiting (s : State) (n : LayerId) (i : StripId) :
    ((s.laidOut n).strip i).waiting = ((s.classifiedAll n).strip i).waiting := by
  rw [State.classifiedAll_strip, State.withActive_classified]
  cases keeps : s.keeps i with
  | true => rw [State.laidOut_keeps keeps]
  | false =>
    rw [(State.laidOut_takes_settled keeps).1, State.classified_taking keeps]

theorem State.laidOut_deferredCount (s : State) (n : LayerId) : (s.classifiedAll n).deferredCount = (s.laidOut n).deferredCount := by
  simp only [State.deferredCount, State.laidOut_waiting]

/-! ### The staged map (R122, R123, Table 11.4) -/

/-- A staged word names a channel in its low half. -/
theorem rawLayerEntry_channel {w : Word} (low : (lowHalf w).toNat < 256) : rawLayerEntry w = some (some ⟨_, low⟩) := dif_pos low

theorem rawLayerEntry_eq_channel {w : Word} {c : ChanId} : rawLayerEntry w = some (some c) ↔ (lowHalf w).toNat = c.val := by
  unfold rawLayerEntry
  split
  · simp [Fin.ext_iff]
  · have below := c.isLt
    refine iff_of_false ?_ (by omega)
    split <;> simp

theorem rawLayerEntry_eq_none {w : Word} : rawLayerEntry w = none ↔ 255 < (lowHalf w).toNat ∧ (lowHalf w).toNat ≠ 0xFFFF := by
  unfold rawLayerEntry
  split
  · next low => exact iff_of_false nofun (by omega)
  · next high =>
    have none : lowHalf w = 0xFFFF#16 ↔ (lowHalf w).toNat = 0xFFFF := BitVec.toNat_inj.symm
    split
    · next blank => exact iff_of_false nofun fun h => h.2 (none.mp blank)
    · next other => exact iff_of_true rfl ⟨by omega, mt none.mpr other⟩

/-- The entry that a staged word loads: its channel, or NONE (R122). -/
theorem rawLayerEntry_getD (w : Word) :
    (rawLayerEntry w).getD none = if low : (lowHalf w).toNat < 256 then some ⟨_, low⟩ else none := by
  unfold rawLayerEntry
  split
  · rfl
  · split <;> rfl

/-- A staged entry offends when it is neither a channel nor NONE, or repeats a lower one's channel (R123). -/
def State.mapOffends (s : State) (i : StripId) : Prop :=
  255 < (lowHalf s.layers.staged[i.val]).toNat ∧ (lowHalf s.layers.staged[i.val]).toNat ≠ 0xFFFF ∨
  (lowHalf s.layers.staged[i.val]).toNat < 256 ∧
    ∃ j, j < i ∧ (lowHalf s.layers.staged[j.val]).toNat = (lowHalf s.layers.staged[i.val]).toNat

theorem State.layerEntryOffends_iff : s.layerEntryOffends i = true ↔ s.mapOffends i := by
  unfold State.layerEntryOffends State.mapOffends
  split
  · next neither => exact iff_of_true rfl (.inl (rawLayerEntry_eq_none.mp neither))
  · next blank =>
    have high : ¬ (lowHalf s.layers.staged[i.val]).toNat < 256 := fun low => by simp [rawLayerEntry_channel low] at blank
    refine iff_of_false nofun fun offends => ?_
    obtain neither | ⟨low, -⟩ := offends
    · simp [rawLayerEntry_eq_none.mpr neither] at blank
    · exact high low
  · next c names =>
    have channel := rawLayerEntry_eq_channel.mp names
    have below := c.isLt
    simp only [List.any_eq_true, Bool.and_eq_true, decide_eq_true_eq, beq_iff_eq, rawLayerEntry_eq_channel, channel]
    constructor
    · rintro ⟨j, -, lower, same⟩
      exact .inr ⟨below, j, lower, same⟩
    · rintro (⟨high, -⟩ | ⟨-, j, lower, same⟩)
      · omega
      · exact ⟨j, mem_allStrips j, lower, same⟩

/-- The state with the staged map as a layer's (R123). -/
def State.withStagedMap (s : State) (n : LayerId) : State :=
  { s with layers := { s.layers with maps := s.layers.maps.set n.val s.layers.stagedMap } }

theorem State.withStagedMap_layerEntry (s : State) (n k : LayerId) (i : StripId) :
    (s.withStagedMap n).layerEntry k i =
      if k = n then (rawLayerEntry s.layers.staged[i.val]).getD none else s.layerEntry k i := by
  unfold State.layerEntry State.withStagedMap
  by_cases own : k = n
  · subst own
    rw [if_pos rfl]
    simp only [Vector.getElem_set_self, LayerCtl.stagedMap, Vector.getElem_map]
  · have apart : n.val ≠ k.val := fun same => own (Fin.ext same.symm)
    rw [if_neg own]
    simp only [Vector.getElem_set_ne _ _ apart]

/-- The lowest staged entry that offends refuses the load (R123). -/
theorem State.loadLayerMap_refused (names : arg.toNat = n.val) (offends : s.mapOffends i)
    (lowest : ∀ j, j < i → ¬ s.mapOffends j) :
    s.loadLayerMap tag arg = s.writeResult tag .invalidTable (field16 i.val) := by
  have found : allStrips.find? s.layerEntryOffends = some i := by
    rw [allStrips, ← Fin.find?_eq_find?_finRange, Fin.find?_eq_some_iff]
    exact ⟨State.layerEntryOffends_iff.mpr offends,
      fun j lower => by simpa using mt State.layerEntryOffends_iff.mp (lowest j lower)⟩
  simp only [State.loadLayerMap, argLayer_eq_some names, found]

/-- A staged map without offence becomes the layer's, and is laid out at once when the layer is active (R123). -/
theorem State.loadLayerMap_loaded (names : arg.toNat = n.val) (sound : ∀ i, ¬ s.mapOffends i) :
    s.loadLayerMap tag arg = if n = s.layers.active then (s.withStagedMap n).chooseLayer tag n
      else (s.withStagedMap n).writeResult tag .done 0#16 := by
  have found : allStrips.find? s.layerEntryOffends = none :=
    List.find?_eq_none.mpr fun i _ => mt State.layerEntryOffends_iff.mp (sound i)
  simp only [State.loadLayerMap, argLayer_eq_some names, found]
  rfl

end commands

/-- Settles O29: the strips after SELECT_LAYER are laid out on their classification, and a load is judged by its lowest offending entry. -/
theorem layersAreSelectedAndLoaded : Obligations.LayersAreSelectedAndLoaded := by
  refine ⟨fun n tag arg s run idle safe names => ?_, fun n tag arg s run idle names => ?_⟩
  · have works := (s.laidOut_worksOn n).trans
      (State.WorksOn.createEvent _ .layerDone (BitVec.ofNat 8 n.val) (field16 (s.classifiedAll n).deferredCount))
    have frame := works.answer_frame tag .done (field16 (s.classifiedAll n).deferredCount)
    have result := works.answer_result (s := s.withActive n) idle tag (field16 (s.classifiedAll n).deferredCount)
    dsimp only at frame
    rw [← State.chooseLayer_eq] at frame result
    have layers : (s.chooseLayer tag n).layers = { s.layers with active := n } := (congrArg State.layers frame :)
    refine ⟨_, exec_selectLayer run idle names, layers, fun i isolated => ?_, fun i free defers => ?_, fun i takes => ?_, ?_, ?_⟩
    · rw [State.chooseLayer_strip, State.laidOut_keeps (State.keeps_iff.mpr (.inl isolated)), State.classified_isolated isolated]
    · rw [State.chooseLayer_strip, State.laidOut_keeps (State.keeps_iff.mpr (.inr defers)), State.classified_deferred free defers]
    · obtain ⟨waiting, opCode, last, mode, isolated⟩ := State.laidOut_takes_settled (n := n) takes
      rw [State.chooseLayer_strip]
      refine ⟨waiting, opCode, last, mode, isolated, ?_⟩
      obtain ⟨c, entry, ⟨j, keeps, shows⟩, view⟩ | ⟨free, view⟩ := State.laidOut_takes (n := n) takes
      · obtain ⟨shown, conflict, -⟩ := Strip.fields_of_heldView view
        refine ⟨fun d entry' _ => ?_, fun free => absurd shows (free c j entry keeps)⟩
        cases entry.symm.trans entry'
        exact ⟨shown, conflict⟩
      · obtain ⟨shown, conflict, -⟩ := Strip.fields_of_heldView view
        exact ⟨fun c entry ⟨j, keeps, shows⟩ => absurd shows (free c entry j keeps), fun _ => ⟨shown, conflict⟩⟩
    · rw [result, State.laidOut_deferredCount]
      simp only [State.chooseLayer_strip]
      rfl
    · rw [layers]
      exact frame
  · dsimp only
    rw [exec_loadLayerMap run idle]
    refine ⟨fun i offends lowest => congrArg _ (State.loadLayerMap_refused names offends lowest),
      fun sound => ⟨s.withStagedMap n, fun k i => ?_, rfl, fun other => ?_, fun active => ?_⟩⟩
    · rw [State.withStagedMap_layerEntry, rawLayerEntry_getD]
    · rw [State.loadLayerMap_loaded names sound, if_neg other]
    · rw [State.loadLayerMap_loaded names sound, if_pos active, exec_selectLayer (s := s.withStagedMap n) run idle names]

end Sys2Proof.Machine
end

section
namespace Sys2Proof.Machine

open Sys2Proof

/-! ## The layer state of the part, and the works that leave it (R122 to R124) -/

/-- A strip's layer state, with its isolation (R124). -/
def Strip.layering (p : Strip) : Bool × Option ChanId × Option ChanId × Option (Option ChanId) := (p.isolated, p.layerState)

@[simp] theorem Strip.layering_eq (p : Strip) : p.layering = (p.isolated, p.shown, p.conflict, p.waiting) := by
  rw [Strip.layering, Strip.layerState]

/-- The layers' maps and every strip's layer state: all that the laws of the layers speak of (R123, R124). -/
def State.layering (s : State) :
    Vector (Vector (Option ChanId) 32) 4 × (StripId → Bool × Option ChanId × Option ChanId × Option (Option ChanId)) :=
  (s.layers.maps, fun i => (s.strip i).layering)

namespace State

variable {s t : State}

/-- A change of strips' records that leaves their layer state. -/
@[simp] theorem layering_modStrip (i : StripId) {f : Strip → Strip} (same : ∀ p, (f p).layering = p.layering) :
    (s.modStrip i f).layering = s.layering := by
  refine congrArg (Prod.mk s.layers.maps) (funext fun j => ?_)
  rw [State.strip_modStrip]
  split
  · next own => rw [same, own]
  · rfl

/-- What a hold leaves of a strip tells its layer state. -/
theorem layering_of_heldView (views : ∀ j, (t.strip j).heldView = (s.strip j).heldView) (layers : t.layers = s.layers) :
    t.layering = s.layering := by
  rw [State.layering, State.layering, layers]
  exact congrArg (Prod.mk _) (funext fun j => congrArg (fun v : Strip × Bool × Bool × Bool => v.1.layering) (views j))

/-- A work on one strip that leaves where it stands. -/
theorem layering_of_worksAt {i : StripId} (works : s.WorksAt Strip.standing i t) (layers : t.layers = s.layers) :
    t.layering = s.layering := by
  rw [State.layering, State.layering, layers]
  refine congrArg (Prod.mk s.layers.maps) (funext fun j => ?_)
  by_cases own : j = i
  · subst own
    exact works.shows Strip.layering
  · rw [works.others j own]

/-- Works on strips, one after the other. -/
@[simp] theorem layering_forStrips {f : StripId → State → State} (same : ∀ i (u : State), (f i u).layering = u.layering)
    (l : List StripId) (s : State) : (s.forStrips l f).layering = s.layering :=
  State.forStrips_induct (P := fun u => u.layering = s.layering) (fun i u came => (same i u).trans came) l rfl

/-- A list's items worked off, one after the other. -/
@[simp] theorem layering_foldl {α : Type} {f : State → α → State} (same : ∀ (u : State) x, (f u x).layering = u.layering)
    (l : List α) (s : State) : (l.foldl f s).layering = s.layering := by
  induction l generalizing s with
  | nil => rfl
  | cons x l ih => rw [List.foldl_cons, ih, same]

variable (s)

/-! ### Reports, requests and timers -/

@[simp] theorem layering_modPort (f : ImagePort → ImagePort) : (s.modPort f).layering = s.layering := rfl
@[simp] theorem layering_modCtl (f : Control → Control) : (s.modCtl f).layering = s.layering := rfl
@[simp] theorem layering_modTaper (f : TaperUnit → TaperUnit) : (s.modTaper f).layering = s.layering := rfl
@[simp] theorem layering_modDrive (f : DriveSup → DriveSup) : (s.modDrive f).layering = s.layering := rfl
@[simp] theorem layering_modMeter (f : MeterEngine → MeterEngine) : (s.modMeter f).layering = s.layering := rfl
@[simp] theorem layering_setChan (c : ChanId) (k : ChanRec) : (s.setChan c k).layering = s.layering := rfl
@[simp] theorem layering_setRail (g : GroupId) (r : Rail) : (s.setRail g r).layering = s.layering := rfl
@[simp] theorem layering_reach (n : Nat) : (s.reach n).layering = s.layering := rfl

@[simp] theorem layering_syncCheck : s.syncCheck.layering = s.layering := by simp [State.layering]
@[simp] theorem layering_requestStatus (w : StatusWord) : (s.requestStatus w).layering = s.layering := by simp [State.layering]
@[simp] theorem layering_writeResult (tag : BitVec 8) (code : ResultCode) (v : BitVec 16) :
    (s.writeResult tag code v).layering = s.layering := by simp [State.layering]
@[simp] theorem layering_modCauses (f : Control → Control) : (s.modCauses f).layering = s.layering := by simp [State.layering]
@[simp] theorem layering_setFault : s.setFault.layering = s.layering := by simp [State.layering]
@[simp] theorem layering_keepEntries (f : InjEntry → Bool) : (s.keepEntries f).layering = s.layering := by simp [State.layering]
@[simp] theorem layering_createEvent (kind : EventKind) (index : BitVec 8) (v : BitVec 16) :
    (s.createEvent kind index v).layering = s.layering := by simp [State.layering]
@[simp] theorem layering_stripEvent (kind : EventKind) (i : StripId) (v : BitVec 16) :
    (s.stripEvent kind i v).layering = s.layering := by simp [State.layering]
@[simp] theorem layering_layerApplied (i : StripId) : (s.layerApplied i).layering = s.layering := by simp [State.layering]
@[simp] theorem layering_writeBack (c : ChanId) (code : Code) : (s.writeBack c code).layering = s.layering := by
  simp [State.layering]
@[simp] theorem layering_startHead : s.startHead.layering = s.layering := by simp [State.layering]
@[simp] theorem layering_wait (w : Waiter) : (s.wait w).layering = s.layering := by simp [State.layering]
@[simp] theorem layering_convertOrWait (q : ConvReq) (w : Waiter) : (s.convertOrWait q w).layering = s.layering := by
  simp [State.layering]
@[simp] theorem layering_convertChannel (c : ChanId) (o : Bool) : (s.convertChannel c o).layering = s.layering := by
  simp [State.layering]
@[simp] theorem layering_convertThreshold (i : StripId) (on o : Bool) : (s.convertThreshold i on o).layering = s.layering := by
  simp [State.layering]
@[simp] theorem layering_writeCode (c : ChanId) (code : Code) : (s.writeCode c code).layering = s.layering := by
  simp [State.layering]

@[simp] theorem layering_convertShown (i : StripId) (o : Bool) : (s.convertShown i o).layering = s.layering := by
  unfold State.convertShown
  split <;> simp

variable {s} in
theorem layering_convert {q : ConvReq} (made : s.convert q = some t) : t.layering = s.layering := by
  unfold State.convert at made
  split at made
  · cases made
    rw [layering_modTaper]
  · split at made
    · cases made
      rw [layering_startHead, layering_modTaper]
    · cases made

/-! ### Beats, the slot wait list and LOAD_TAPER's end (R5, R33 to R35, R53, R60) -/

@[simp] theorem layering_faderBeat (c : ChanId) (order : WordOrder) (data : Word) (e : Enables) :
    (s.faderBeat c order data e).layering = s.layering := by
  unfold State.faderBeat
  split <;> simp

@[simp] theorem layering_captureMeter (k : MeterId) (order : WordOrder) (data : Word) (e : Enables) :
    (s.captureMeter k order data e).layering = s.layering := by
  unfold State.captureMeter
  split <;> simp

@[simp] theorem layering_dataBeat (addr : Nat) (data : Word) (e : Enables) : (s.dataBeat addr data e).layering = s.layering := by
  unfold State.dataBeat
  dsimp only
  split <;> simp [State.portWork]

@[simp] theorem layering_serveOne (w : Waiter) : (s.serveOne w).layering = s.layering := by
  cases w with
  | beat =>
    simp only [State.serveOne, State.serveBeat]
    split <;> simp
  | level c fromFetch owned =>
    simp only [State.serveOne]
    split
    · split
      · next made => exact layering_convert made
      · rfl
    · rfl
  | threshold i on owned =>
    simp only [State.serveOne]
    split
    · next made => exact layering_convert made
    · rfl

@[simp] theorem layering_serveWaiters (n : Nat) : (s.serveWaiters n).layering = s.layering := by
  induction n generalizing s with
  | zero => rfl
  | succ n ih =>
    unfold State.serveWaiters
    split
    · rfl
    · split <;> simp [ih]

@[simp] theorem layering_serveSlots : s.serveSlots.layering = s.layering := by simp [State.serveSlots]

@[simp] theorem layering_taperCheck : s.taperCheck.layering = s.layering := by
  unfold State.taperCheck
  (repeat' split) <;> simp

/-! ### Motion states, arrivals and holds (R64, R65, R73 to R78, R157) -/

@[simp] theorem layering_enter (i : StripId) (dest : Motion) : (s.enter i dest).layering = s.layering := by
  have works : s.WorksAt Strip.standing i (s.enter i dest) := .enter dest
  rw [layering_of_worksAt works (by simp)]

@[simp] theorem layering_recalAtRest (i : StripId) : (s.recalAtRest i).layering = s.layering := by
  have works : s.WorksAt Strip.standing i (s.recalAtRest i) := .recalAtRest
  rw [layering_of_worksAt works (by simp)]

@[simp] theorem layering_actOnRecal (i : StripId) : (s.actOnRecal i).layering = s.layering := by
  have works : s.WorksAt Strip.standing i (s.actOnRecal i) := .actOnRecal
  rw [layering_of_worksAt works (by simp)]

@[simp] theorem layering_setRecal (i : StripId) : (s.setRecal i).layering = s.layering := by simp [State.setRecal]

@[simp] theorem layering_rest (i : StripId) : (s.rest i).layering = s.layering := by simp [State.rest]

@[simp] theorem layering_wakeRail (g : GroupId) : (s.wakeRail g).layering = s.layering := by simp [State.layering]

@[simp] theorem layering_joinStart (i : StripId) (u : Purpose) : (s.joinStart i u).layering = s.layering := by
  simp [State.joinStart]

@[simp] theorem layering_queueMove (i : StripId) : (s.queueMove i).layering = s.layering := by simp [State.queueMove]

@[simp] theorem layering_hold (i : StripId) : (s.hold i).layering = s.layering := by
  have holds : s.HoldsBeside [] (s.hold i) := .hold List.not_mem_nil
  rw [layering_of_heldView holds.view (by simp)]

@[simp] theorem layering_retarget (i : StripId) (old new : Nat) : (s.retarget i old new).layering = s.layering := by
  unfold State.retarget
  dsimp only
  (repeat' split) <;> simp

@[simp] theorem layering_arrive (i : StripId) (code : Code) (travel : Nat) (c : ChanId) :
    (s.arrive i code travel c).layering = s.layering := by
  unfold State.arrive
  dsimp only
  split
  · split <;> simp
  · split <;> simp
  · simp
  · split <;> simp
  all_goals simp

/-! ### The fader-start line (R134 to R136) -/

@[simp] theorem layering_setLine (i : StripId) (on : Bool) : (s.setLine i on).layering = s.layering := by
  unfold State.setLine
  split <;> simp

@[simp] theorem layering_forceLine (i : StripId) : (s.forceLine i).layering = s.layering := by
  unfold State.forceLine
  split <;> simp

@[simp] theorem layering_convertIfChanged (i : StripId) (on : Bool) (old : Code) :
    (s.convertIfChanged i on old).layering = s.layering := by
  unfold State.convertIfChanged
  split <;> simp

@[simp] theorem layering_writeSettings (i : StripId) (second : Bool) (w : Word) :
    (s.writeSettings i second w).layering = s.layering := by
  unfold State.writeSettings State.writeFlags State.writeCodes
  split <;> simp

/-! ### Homes and fetches (R13, R20, R23, R31, R39 to R41) -/

@[simp] theorem layering_fetchFailed (c : ChanId) (v : BitVec 16) : (s.fetchFailed c v).layering = s.layering := by
  unfold State.fetchFailed
  dsimp only
  split <;> simp

@[simp] theorem layering_requestFetch (c : ChanId) : (s.requestFetch c).layering = s.layering := by
  unfold State.requestFetch
  split
  · rfl
  · split
    · rfl
    · split
      · simp [State.layering]
      · rw [layering_fetchFailed]

@[simp] theorem layering_unmapped (i : StripId) (c : ChanId) : (s.unmapped i c).layering = s.layering := by simp [State.unmapped]

@[simp] theorem layering_examineStrip (old : Vector Window 16) (i : StripId) : (State.examineStrip old i s).layering = s.layering := by
  unfold State.examineStrip
  (repeat' split) <;> simp

@[simp] theorem layering_loadWindows (tag : BitVec 8) : (s.loadWindows tag).layering = s.layering := by
  have applied : ∀ ws, (s.applyWindows ws).layering = s.layering := fun ws => by
    rw [State.applyWindows, layering_keepEntries, layering_modTaper]
    rfl
  unfold State.loadWindows
  split <;> simp [applied]

@[simp] theorem layering_refetch (i : StripId) : (State.refetch i s).layering = s.layering := by
  unfold State.refetch
  split <;> simp

@[simp] theorem layering_applyFetch (c : ChanId) (seq : BitVec 8) (code : Code) : (s.applyFetch c seq code).layering = s.layering := by
  unfold State.applyFetch
  dsimp only
  (repeat' split) <;> simp

@[simp] theorem layering_fetchAnswered (data : Word) (st : RespStatus) : (s.fetchAnswered data st).layering = s.layering := by
  unfold State.fetchAnswered
  dsimp only
  (repeat' split) <;> simp

/-! ### Conversions (R54 to R60) -/

@[simp] theorem layering_deliver (table : Taper) (w : ConvWork) : (s.deliver table w).layering = s.layering := by
  cases w with
  | levelToTravel c code seq =>
    simp only [State.deliver, State.deliverTravel]
    (repeat' split) <;> simp
  | travelToLevel i travel c =>
    simp only [State.deliver, State.deliverLevel]
    (repeat' split) <;> simp
  | threshold i on code =>
    simp only [State.deliver, State.deliverThreshold, layering_forceLine]
    refine layering_modStrip i fun p => ?_
    split <;> rfl

@[simp] theorem layering_finishConversion : s.finishConversion.layering = s.layering := by
  unfold State.finishConversion
  split <;> simp

@[simp] theorem layering_loadTaper (tag : BitVec 8) : (s.loadTaper tag).layering = s.layering := by
  unfold State.loadTaper
  split <;> simp [State.reseat]

/-! ### Samples and readback (R87 to R101, R115, R116, R154 to R163) -/

@[simp] theorem layering_countError (i : StripId) : (s.countError i).layering = s.layering := by
  unfold State.countError
  dsimp only
  split <;> simp [Strip.countError]

@[simp] theorem layering_trackTest (i : StripId) : (s.trackTest i).layering = s.layering := by
  unfold State.trackTest
  dsimp only
  split <;> simp

@[simp] theorem layering_driveWith (i : StripId) (u : Int) : (s.driveWith i u).layering = s.layering := by
  simp [State.driveWith, Strip.setDrive]

@[simp] theorem layering_profileStep (i : StripId) : (s.profileStep i).layering = s.layering := by
  unfold State.profileStep
  dsimp only
  (repeat' split) <;> simp

@[simp] theorem layering_settleDrive (i : StripId) : (s.settleDrive i).layering = s.layering := by
  unfold State.settleDrive
  split <;> simp [Strip.setDrive]

@[simp] theorem layering_settleSample (i : StripId) : (s.settleSample i).layering = s.layering := by
  unfold State.settleSample State.stall
  dsimp only
  (repeat' split) <;> simp

@[simp] theorem layering_runSucceeds (i : StripId) (low high : Nat) : (s.runSucceeds i low high).layering = s.layering := by
  simp [State.runSucceeds, Strip.setDrive]

@[simp] theorem layering_runFails (i : StripId) : (s.runFails i).layering = s.layering := by
  unfold State.runFails State.beginRun
  dsimp only
  split <;> simp [Strip.setDrive]

@[simp] theorem layering_calSample (i : StripId) (raw : Nat) : (s.calSample i raw).layering = s.layering := by
  unfold State.calSample State.phaseEnds State.runGoesOn
  (repeat' split) <;> simp [Strip.setDrive]

@[simp] theorem layering_sampleWork (i : StripId) (raw : Nat) : (s.sampleWork i raw).layering = s.layering := by
  unfold State.sampleWork
  split <;> simp [State.moveSample]

@[simp] theorem layering_judged (i : StripId) : (s.judged i).layering = s.layering := by
  have started : (s.startSamples i).layering = s.layering := by
    unfold State.startSamples
    split
    · rfl
    · exact layering_forStrips (fun j u => by simp) ..
  simp [State.judged, State.comeDue, State.measure, started]

@[simp] theorem layering_readback (i : StripId) (c : ChanId) : (s.readback i c).layering = s.layering := by
  unfold State.readback
  dsimp only
  split
  · simp
  · split
    · next made => exact layering_convert made
    · rfl

@[simp] theorem layering_readbackExpires (i : StripId) : (s.readbackExpires i).layering = s.layering := by
  unfold State.readbackExpires
  dsimp only
  (repeat' split) <;> simp

/-! ### Touch and release (R103 to R114) -/

@[simp] theorem layering_touchInput (i : StripId) (b : Bool) : (s.touchInput i b).layering = s.layering := by
  unfold State.touchInput State.rawChange State.startDebounce
  dsimp only
  (repeat' split) <;> simp

@[simp] theorem layering_riseReset : s.riseReset.layering = s.layering := by
  have pressed : ∀ i (u : State), (State.pressAtRelease i u).layering = u.layering := fun i u => by
    unfold State.pressAtRelease State.startDebounce
    split <;> simp
  exact (layering_forStrips pressed ..).trans rfl

@[simp] theorem layering_takeTouch (i : StripId) : (s.takeTouch i).layering = s.layering := by
  unfold State.takeTouch
  dsimp only
  split <;> simp [Strip.setDrive]

@[simp] theorem layering_setSpeed (i : StripId) (k : SpeedClass) : (s.setSpeed i k).layering = s.layering := by
  simp [State.setSpeed]

@[simp] theorem layering_releaseRestore (i : StripId) : (s.releaseRestore i).layering = s.layering := by
  unfold State.releaseRestore
  (repeat' split) <;> simp

@[simp] theorem layering_returnToChannel (i : StripId) : (s.returnToChannel i).layering = s.layering := by
  unfold State.returnToChannel
  (repeat' split) <;> simp

@[simp] theorem layering_stalledRelease (i : StripId) : (s.stalledRelease i).layering = s.layering := by
  unfold State.stalledRelease
  dsimp only
  (repeat' split) <;> simp

@[simp] theorem layering_ordinaryRelease (i : StripId) : (s.ordinaryRelease i).layering = s.layering := by
  unfold State.ordinaryRelease
  dsimp only
  (repeat' split) <;> simp

@[simp] theorem layering_adoptedRelease (i : StripId) : (s.adoptedRelease i).layering = s.layering := by
  unfold State.adoptedRelease
  dsimp only
  (repeat' split) <;> simp

@[simp] theorem layering_releaseRecal (i : StripId) : (s.releaseRecal i).layering = s.layering := by
  unfold State.releaseRecal
  split <;> simp

/-! ### Modes and faults (R80 to R85, R141, R149, R155 to R168) -/

@[simp] theorem layering_leaveLatched (i : StripId) : (s.leaveLatched i).layering = s.layering := by
  simp [State.leaveLatched]

@[simp] theorem layering_enterAtHand (i : StripId) : (s.enterAtHand i).layering = s.layering := by
  unfold State.enterAtHand
  split <;> simp

@[simp] theorem layering_toWrite (i : StripId) : (s.toWrite i).layering = s.layering := by
  unfold State.toWrite
  split <;> simp

@[simp] theorem layering_toMotorised (i : StripId) : (s.toMotorised i).layering = s.layering := by
  unfold State.toMotorised
  dsimp only
  split <;> simp

@[simp] theorem layering_betweenMotorised (i : StripId) (was : Strip) : (s.betweenMotorised i was).layering = s.layering := by
  unfold State.betweenMotorised
  split <;> simp

@[simp] theorem layering_setModeOf (mode : Mode) (i : StripId) : (State.setModeOf mode i s).layering = s.layering := by
  unfold State.setModeOf State.toParked
  dsimp only
  (repeat' split) <;> simp [Strip.takeMode]

@[simp] theorem layering_unlatchOf (i : StripId) : (State.unlatchOf i s).layering = s.layering := by
  unfold State.unlatchOf
  split <;> simp

@[simp] theorem layering_clearFaultOf (i : StripId) : (State.clearFaultOf i s).layering = s.layering := by
  unfold State.clearFaultOf
  split
  · rfl
  · extract_lets t p u w q
    have left : u.layering = s.layering := by
      simp only [u, t]
      (repeat' split) <;> simp
    have judged : w.layering = s.layering := by
      simp only [w]
      split <;> simp [left]
    (repeat' split) <;> simp [judged]

/-! ### The drive supervisor (R138 to R149) -/

@[simp] theorem layering_armOnWake (i : StripId) : (State.armOnWake i s).layering = s.layering := by
  unfold State.armOnWake
  dsimp only
  (repeat' split) <;> simp

@[simp] theorem layering_endWake (g : GroupId) (n : Nat) : (s.endWake g n).layering = s.layering := by
  simp [State.endWake]

@[simp] theorem layering_grantOldest : s.grantOldest.layering = s.layering := by
  unfold State.grantOldest State.grantEntry State.beginRun
  dsimp only
  (repeat' split) <;> simp [Strip.setDrive]

@[simp] theorem layering_idleOff (g : GroupId) : (s.idleOff g).layering = s.layering := by
  unfold State.idleOff
  (repeat' split) <;> simp

/-! ### Commands that leave the layers alone (R57, R167, R183, R191 to R204) -/

/-- A command over named strips whose work leaves the layers alone (R193). -/
theorem layering_forNamed {g : List StripId → State} (same : ∀ l, (g l).layering = s.layering) (tag : BitVec 8)
    (arg : BitVec 16) : (s.forNamed tag arg g).layering = s.layering := by
  unfold State.forNamed
  split
  · simp
  · exact same _

@[simp] theorem layering_setMode (tag : BitVec 8) (arg : BitVec 16) : (s.setMode tag arg).layering = s.layering := by
  unfold State.setMode
  split <;> simp

@[simp] theorem layering_unlatch (tag : BitVec 8) (arg : BitVec 16) : (s.unlatch tag arg).layering = s.layering := by
  rw [State.unlatch, layering_forNamed]
  simp

@[simp] theorem layering_recalibrate (tag : BitVec 8) (arg : BitVec 16) : (s.recalibrate tag arg).layering = s.layering := by
  rw [State.recalibrate, layering_forNamed]
  simp

@[simp] theorem layering_clearFault (tag : BitVec 8) (arg : BitVec 16) : (s.clearFault tag arg).layering = s.layering := by
  rw [State.clearFault, layering_forNamed]
  simp

@[simp] theorem layering_clearErrors (tag : BitVec 8) (arg : BitVec 16) : (s.clearErrors tag arg).layering = s.layering := by
  rw [State.clearErrors, layering_forNamed]
  intro l
  dsimp only
  split <;> simp [Strip.clearErrors]

@[simp] theorem layering_loadMeterSetup (tag : BitVec 8) : (s.loadMeterSetup tag).layering = s.layering := by
  unfold State.loadMeterSetup
  split <;> simp

@[simp] theorem layering_queryStrip (tag : BitVec 8) (arg : BitVec 16) : (s.queryStrip tag arg).layering = s.layering := by
  unfold State.queryStrip
  (repeat' split) <;> simp

@[simp] theorem layering_startSync (tag : BitVec 8) : (s.startSync tag).layering = s.layering := by simp [State.startSync]

@[simp] theorem layering_reconfigureRing (f : Control → Control) : (s.reconfigureRing f).layering = s.layering := by
  unfold State.reconfigureRing
  dsimp only
  split <;> simp

@[simp] theorem layering_setConsumer (w : Word) : (s.setConsumer w).layering = s.layering := by
  unfold State.setConsumer
  split <;> simp

@[simp] theorem layering_stage (o : Nat) (w : Word) : (s.stage o w).layering = s.layering := by
  unfold State.stage
  (repeat' split) <;> rfl

@[simp] theorem layering_resetTaper : s.resetTaper.layering = s.layering := by simp [State.resetTaper]

@[simp] theorem layering_resetChannels : s.resetChannels.layering = s.layering := by
  rw [State.resetChannels, layering_keepEntries]
  rfl

/-! ### The image port and the meters (R4 to R8, R18 to R24, R172 to R181) -/

@[simp] theorem layering_reportParity (addr : BitVec 24) : (s.reportParity addr).layering = s.layering := by
  rw [State.reportParity_eq]
  split <;> simp

@[simp] theorem layering_arriveRequest (kind : ReqKind) (addr : BitVec 24) (len : BitVec 2) (par : Bool) :
    (s.arriveRequest kind addr len par).layering = s.layering := by
  unfold State.arriveRequest
  (repeat' split) <;> simp [State.alert]

@[simp] theorem layering_endAlert : s.endAlert.layering = s.layering := by
  unfold State.endAlert
  split <;> simp

@[simp] theorem layering_grantPassing : s.grantPassing.layering = s.layering := by
  unfold State.grantPassing
  (repeat' split) <;> simp

@[simp] theorem layering_issueHead : s.issueHead.layering = s.layering := by
  unfold State.issueHead
  (repeat' split) <;> simp

@[simp] theorem layering_holdBeat (data : Word) (e : Enables) : (s.holdBeat data e).layering = s.layering := by
  simp [State.holdBeat]

@[simp] theorem layering_readReturns (data : Word) (st : RespStatus) : (s.readReturns data st).layering = s.layering := by
  unfold State.readReturns
  (repeat' split) <;> simp

@[simp] theorem layering_writeAnswered (st : RespStatus) : (s.writeAnswered st).layering = s.layering := by
  unfold State.writeAnswered
  split <;> simp

@[simp] theorem layering_positionAnswered (st : RespStatus) : (s.positionAnswered st).layering = s.layering := by
  unfold State.positionAnswered State.positionLands
  dsimp only
  (repeat' split) <;> simp

@[simp] theorem layering_statusAnswered : s.statusAnswered.layering = s.layering := by
  unfold State.statusAnswered
  split <;> simp

@[simp] theorem layering_finishShift : s.finishShift.layering = s.layering := by
  unfold State.finishShift
  split <;> simp

@[simp] theorem layering_frame : s.frame.layering = s.layering := by
  have channel : ∀ (u : State) k, (u.frameChannel k).layering = u.layering := fun u k => by
    unfold State.frameChannel State.setMeterRec
    dsimp only
    split <;> simp
  simp [State.frame, State.openFrame, channel]

end State

end Sys2Proof.Machine
end

section
namespace Sys2Proof.Machine

open Sys2Proof

/-! ## The law of the layers (R123, R124) -/

/-- One strip's layer fields stand together (R124). -/
structure Strip.Layered (p : Strip) : Prop where
  alone : p.isolated = true → p.waiting = none ∧ p.conflict = none
  blank : p.conflict.isSome = true → p.shown = none ∧ p.waiting = none

/-- A strip that is not conflict-blank may wait unless it is isolated. -/
theorem Strip.Layered.of_unblocked {p : Strip} (unblocked : p.conflict = none) (free : p.isolated = true → p.waiting = none) :
    p.Layered :=
  ⟨fun isolated => ⟨free isolated, unblocked⟩, fun blank => by simp [unblocked] at blank⟩

theorem Strip.Layered.congr {p q : Strip} (h : p.Layered) (same : q.layering = p.layering) : q.Layered := by
  simp only [Strip.layering_eq, Prod.mk.injEq] at same
  obtain ⟨isolated, shown, conflict, waiting⟩ := same
  constructor
  · rw [isolated, waiting, conflict]
    exact h.alone
  · rw [conflict, shown, waiting]
    exact h.blank

/-- A strip that waits is neither isolated nor conflict-blank (R124). -/
theorem Strip.Layered.of_waiting {p : Strip} {x : Option ChanId} (h : p.Layered) (waits : p.waiting = some x) :
    p.isolated = false ∧ p.conflict = none := by
  constructor
  · by_contra isolated
    have none := (h.alone (by simpa using isolated)).1
    rw [waits] at none
    cases none
  · by_contra blocked
    have none := (h.blank (Option.isSome_iff_ne_none.mpr blocked)).2
    rw [waits] at none
    cases none

/-- A conflict-blank strip shows nothing, waits for nothing and is not isolated (R124). -/
theorem Strip.Layered.of_blank {p : Strip} {c : ChanId} (h : p.Layered) (blank : p.conflict = some c) :
    p.isolated = false ∧ p.shown = none ∧ p.waiting = none := by
  refine ⟨?_, h.blank (by rw [blank]; rfl)⟩
  by_contra isolated
  have none := (h.alone (by simpa using isolated)).2
  rw [blank] at none
  cases none

/-- The law of O57, by its parts. -/
structure State.Layered (s : State) : Prop where
  distinct : ∀ (i j : StripId) (c : ChanId), (s.strip i).shown = some c → (s.strip j).shown = some c → i = j
  strips : ∀ i, (s.strip i).Layered
  maps : s.mapsDistinct

theorem State.layersSafe_iff {s : State} : s.layersSafe ↔ s.Layered :=
  ⟨fun ⟨distinct, alone, blank, maps⟩ => ⟨distinct, fun i => ⟨alone i, blank i⟩, maps⟩,
    fun h => ⟨h.distinct, fun i => (h.strips i).alone, fun i => (h.strips i).blank, h.maps⟩⟩

theorem State.mapsDistinct_congr {s t : State} (same : t.layers.maps = s.layers.maps) (h : s.mapsDistinct) : t.mapsDistinct := by
  unfold State.mapsDistinct State.layerEntry
  rw [same]
  exact h

/-- A staged map without offence names no channel twice (R123). -/
theorem State.mapsDistinct.withStagedMap {s : State} (h : s.mapsDistinct) (n : LayerId) (sound : ∀ i, ¬ s.mapOffends i) :
    (s.withStagedMap n).mapsDistinct := by
  intro k i j c names names'
  rw [State.withStagedMap_layerEntry] at names names'
  split at names
  · next own =>
    have channel : ∀ i : StripId, (rawLayerEntry s.layers.staged[i.val]).getD none = some c →
        (lowHalf s.layers.staged[i.val]).toNat = c.val := fun i names => by
      rw [rawLayerEntry_getD] at names
      split at names
      · cases names
        rfl
      · cases names
    rw [if_pos own] at names'
    have first := channel i names
    have second := channel j names'
    have below := c.isLt
    obtain lower | same | upper := lt_trichotomy i j
    · exact absurd (.inr ⟨by omega, i, lower, by omega⟩) (sound j)
    · exact same
    · exact absurd (.inr ⟨by omega, j, upper, by omega⟩) (sound i)
  · next other =>
    rw [if_neg other] at names'
    exact h k i j c names names'

namespace State.Layered

variable {s t : State} {i : StripId} {n : LayerId}

/-- A change of one strip's layer state keeps the law when the strip fits, and shows no other's channel. -/
theorem change (h : s.Layered) (maps : t.layers.maps = s.layers.maps)
    (others : ∀ j, j ≠ i → (t.strip j).layering = (s.strip j).layering) (own : (t.strip i).Layered)
    (free : ∀ c, (t.strip i).shown = some c → ∀ j, j ≠ i → (s.strip j).shown ≠ some c) : t.Layered where
  distinct j k c shows shows' := by
    have shown : ∀ j, j ≠ i → (t.strip j).shown = (s.strip j).shown := fun j other => congrArg (fun l => l.2.1) (others j other)
    by_cases first : j = i <;> by_cases second : k = i
    · rw [first, second]
    · rw [shown k second] at shows'
      exact absurd shows' (free c (first ▸ shows) k second)
    · rw [shown j first] at shows
      exact absurd shows (free c (second ▸ shows') j first)
    · rw [shown j first] at shows
      rw [shown k second] at shows'
      exact h.distinct j k c shows shows'
  strips j := by
    by_cases first : j = i
    · exact first ▸ own
    · exact (h.strips j).congr (others j first)
  maps := State.mapsDistinct_congr maps h.maps

/-- The law speaks of the layer state alone. -/
theorem of_layering (h : s.Layered) (same : t.layering = s.layering) : t.Layered := by
  have record : ∀ i, (t.strip i).layering = (s.strip i).layering := fun i => congrFun (congrArg Prod.snd same) i
  have shown : ∀ i, (t.strip i).shown = (s.strip i).shown := fun i => congrArg (fun l => l.2.1) (record i)
  exact ⟨fun i j c => by rw [shown, shown]; exact h.distinct i j c, fun i => (h.strips i).congr (record i),
    State.mapsDistinct_congr (congrArg Prod.fst same) h.maps⟩

variable (h : s.Layered)
include h

/-- A strip that goes on showing what it shows, or shows nothing, keeps the law when it fits. -/
theorem modStrip (i : StripId) {f : Strip → Strip} (own : (f (s.strip i)).Layered)
    (shown : (f (s.strip i)).shown = (s.strip i).shown) : (s.modStrip i f).Layered := by
  refine h.change (i := i) rfl (fun j other => by rw [State.strip_modStrip_ne _ other]) (by rwa [State.strip_modStrip_self])
    fun c shows j other shows' => other ?_
  rw [State.strip_modStrip_self, shown] at shows
  exact h.distinct j i c shows' shows

/-! ### Adoption and the conflict release (R129 to R131) -/

/-- A strip that is neither isolated nor conflict-blank may adopt. -/
theorem adopt (joined : (s.strip i).isolated = false) (unblocked : (s.strip i).conflict = none) (x : Option ChanId) :
    (s.adopt i x).Layered := by
  obtain ⟨f, adopts, works⟩ := s.adopt_adopts i x
  have record : ((s.adopt i x).strip i).layering = (f (s.strip i)).layering := by
    rw [← State.strip_modStrip_self s i f]
    exact works.shows fun v => v.1.layering
  have shown : ((s.adopt i x).strip i).shown = (f (s.strip i)).shown := congrArg (fun l => l.2.1) record
  refine h.change (i := i) (by rw [(State.WorksOn.adopt s i x).layers])
    (fun j other => by rw [works.others j other, State.strip_modStrip_ne _ other]) (.congr ?_ record) (fun c shows => ?_)
  · cases adopts with
    | taken => exact .of_unblocked unblocked fun _ => rfl
    | blank =>
      exact ⟨fun isolated => absurd (joined.symm.trans isolated) nofun, fun _ => ⟨rfl, rfl⟩⟩
  · rw [shown] at shows
    cases adopts with
    | taken free => exact free c shows
    | blank => cases shows

theorem releaseConflict (c : ChanId) : (s.releaseConflict c).Layered := by
  have release := s.releaseConflict_release c
  generalize s.releaseConflict c = t at release
  cases release with
  | nobody => exact h
  | @defers k first =>
    obtain ⟨joined, -, -⟩ := (h.strips k).of_blank first.1
    exact h.modStrip k (.of_unblocked rfl fun isolated => absurd (joined.symm.trans isolated) nofun) rfl
  | @adopts k first =>
    obtain ⟨joined, -, waiting⟩ := (h.strips k).of_blank first.1
    have freed := h.modStrip k (f := fun p => { p with conflict := none }) (.of_unblocked rfl fun _ => waiting) rfl
    have adopted := freed.adopt (i := k) (by rwa [State.strip_modStrip_self]) (by rw [State.strip_modStrip_self]) (some c)
    exact adopted.of_layering (State.layering_layerApplied ..)

theorem giveUp (i : StripId) (old : Option ChanId) : (s.giveUp i old).Layered := by
  unfold State.giveUp
  split
  · split
    · exact h
    · exact h.releaseConflict _
  · exact h

theorem adoptPending {x : Option ChanId} (waits : (s.strip i).waiting = some x) : (s.adoptPending i x).Layered := by
  obtain ⟨joined, unblocked⟩ := (h.strips i).of_waiting waits
  exact ((h.adopt joined unblocked x).of_layering (State.layering_layerApplied ..)).giveUp ..

theorem deferredAdoption (i : StripId) : (s.deferredAdoption i).Layered := by
  unfold State.deferredAdoption
  split
  · next waits =>
    split
    · exact h
    · exact h.adoptPending waits
  · exact h

/-! ### Samples and releases (R111 to R114, R131) -/

theorem sample (i : StripId) : (s.sample i).Layered := by
  have lined : (((s.judged i).sampleWork i (s.rawOf i)).evalLine i).layering = s.layering := by
    rw [State.evalLine, State.layering_setLine, State.layering_sampleWork, State.layering_judged]
  exact (h.of_layering lined).deferredAdoption i

theorem takeRelease (i : StripId) : (s.takeRelease i).Layered := by
  have ordinary : (s.ordinaryRelease i).Layered := h.of_layering (State.layering_ordinaryRelease ..)
  unfold State.takeRelease
  refine State.Layered.of_layering ?_ (State.layering_releaseRecal ..)
  split
  · next waits =>
    split
    · exact ordinary
    · exact (h.adoptPending waits).of_layering (State.layering_adoptedRelease ..)
  · exact ordinary

theorem debounced (i : StripId) (d : Debounce) : (s.debounced i d).Layered := by
  have accepted : ((s.reach d.expiry).modStrip i fun p => { p with debounce := none, touched := d.press }).Layered :=
    h.of_layering (by simp)
  unfold State.debounced
  dsimp only
  split
  · exact accepted.of_layering (by simp)
  · exact (accepted.takeRelease i).of_layering (State.layering_stripEvent ..)

/-! ### ISOLATE (R132, R133) -/

theorem rejoin (isolated : (s.strip i).isolated = true) : (s.rejoin i).Layered := by
  obtain ⟨waiting, unblocked⟩ := (h.strips i).alone isolated
  have joined := h.modStrip i (f := fun p => { p with isolated := false }) (.of_unblocked unblocked fun _ => waiting) rfl
  have record : (s.modStrip i fun p => { p with isolated := false }).strip i = { s.strip i with isolated := false } :=
    State.strip_modStrip_self ..
  have adopted := joined.adopt (i := i) (by rw [record]) (by rw [record]; exact unblocked)
  unfold State.rejoin
  dsimp only
  split
  · exact adopted _
  · split
    · refine joined.modStrip i (.of_unblocked ?_ ?_) rfl
      · rw [record]
        exact unblocked
      · rw [record]
        exact nofun
    · exact (adopted _).giveUp ..

theorem isolate (tag : BitVec 8) (arg : BitVec 16) : (s.isolate tag arg).Layered := by
  have answered : ∀ (u : State) v code, u.Layered → (u.writeResult tag code v).Layered := fun u _ _ safe =>
    safe.of_layering (State.layering_writeResult ..)
  unfold State.isolate State.isolateOn State.isolateOff
  split
  · split
    · exact answered _ _ _ h
    · refine answered _ _ _ ?_
      split
      · exact h
      · exact h.modStrip _ (.of_unblocked rfl fun _ => rfl) rfl
  · split
    · exact answered _ _ _ h
    · refine answered _ _ _ ?_
      split
      · next isolated => exact h.rejoin isolated
      · exact h

/-! ### SELECT_LAYER and LOAD_LAYER_MAP (R123, R126 to R128) -/

omit h in
/-- What a strip shows after SELECT_LAYER is a keeping strip's channel, or an entry that no keeping strip shows (R126, R127). -/
theorem laidOut_shown {c : ChanId} (shows : ((s.laidOut n).strip i).shown = some c) :
    s.keeps i = true ∧ (s.strip i).shown = some c ∨
    s.keeps i = false ∧ s.layerEntry n i = some c ∧ ∀ j, s.keeps j = true → (s.strip j).shown ≠ some c := by
  cases keeps : s.keeps i with
  | true =>
    rw [State.laidOut_keeps keeps, (State.classified_keeps ..).1] at shows
    exact .inl ⟨rfl, shows⟩
  | false =>
    obtain ⟨d, -, -, view⟩ | ⟨free, view⟩ := State.laidOut_takes (n := n) keeps
    · obtain ⟨shown, -⟩ := Strip.fields_of_heldView view
      cases shown.symm.trans shows
    · obtain ⟨shown, -⟩ := Strip.fields_of_heldView view
      have entry := shown.symm.trans shows
      exact .inr ⟨rfl, entry, free c entry⟩

theorem classified (n : LayerId) (i : StripId) : (s.classified n i).Layered := by
  unfold State.classified
  split
  · exact h.strips i
  · next joined =>
    split
    · exact .of_unblocked rfl fun isolated => absurd isolated joined
    · exact .of_unblocked rfl fun _ => rfl

theorem laidOut (n : LayerId) : (s.laidOut n).Layered where
  distinct i j c shows shows' := by
    obtain ⟨keeps, shown⟩ | ⟨-, entry, free⟩ := laidOut_shown shows
    · obtain ⟨-, shown'⟩ | ⟨-, -, free'⟩ := laidOut_shown shows'
      · exact h.distinct i j c shown shown'
      · exact absurd shown (free' i keeps)
    · obtain ⟨keeps', shown'⟩ | ⟨-, entry', -⟩ := laidOut_shown shows'
      · exact absurd shown' (free j keeps')
      · exact h.maps n i j c entry entry'
  strips i := by
    cases keeps : s.keeps i with
    | true =>
      rw [State.laidOut_keeps keeps]
      exact h.classified n i
    | false =>
      obtain ⟨waiting, -, -, -, joined⟩ := State.laidOut_takes_settled (n := n) keeps
      have taking : ((s.laidOut n).strip i).conflict = none ∨ ((s.laidOut n).strip i).shown = none := by
        obtain ⟨d, -, -, view⟩ | ⟨-, view⟩ := State.laidOut_takes (n := n) keeps
        · exact .inr (Strip.fields_of_heldView view).1
        · exact .inl (Strip.fields_of_heldView view).2.1
      obtain unblocked | unshown := taking
      · exact .of_unblocked unblocked fun _ => waiting
      · exact ⟨fun isolated => absurd (joined.symm.trans isolated) nofun, fun _ => ⟨unshown, waiting⟩⟩
  maps := State.mapsDistinct_congr (by rw [(s.laidOut_worksOn n).layers]; rfl) h.maps

theorem chooseLayer (tag : BitVec 8) (n : LayerId) : (s.chooseLayer tag n).Layered := by
  rw [State.chooseLayer_eq]
  exact (h.laidOut n).of_layering (by simp)

theorem selectLayer (tag : BitVec 8) (arg : BitVec 16) : (s.selectLayer tag arg).Layered := by
  unfold State.selectLayer
  split
  · exact h.of_layering (State.layering_writeResult ..)
  · exact h.chooseLayer ..

theorem loadLayerMap (tag : BitVec 8) (arg : BitVec 16) : (s.loadLayerMap tag arg).Layered := by
  have refused : ∀ code v, (s.writeResult tag code v).Layered := fun _ _ => h.of_layering (State.layering_writeResult ..)
  unfold State.loadLayerMap
  split
  · exact refused ..
  · next n _ =>
    split
    · exact refused ..
    · next sound =>
      have loaded : (s.withStagedMap n).Layered :=
        ⟨h.distinct, h.strips, h.maps.withStagedMap n fun i =>
          mt State.layerEntryOffends_iff.mpr (List.find?_eq_none.mp sound i (mem_allStrips i))⟩
      dsimp only
      split
      · exact loaded.chooseLayer ..
      · exact loaded.of_layering (State.layering_writeResult ..)

/-! ### SURFACE_RESET and reset (R3, R86) -/

theorem parkStrip (i : StripId) : (State.parkStrip i s).Layered := by
  have entered : (s.enter i .parked).Layered := h.of_layering (State.layering_enter ..)
  have parked := entered.modStrip i (f := Strip.surfaceReset) (.of_unblocked rfl fun _ => rfl) rfl
  exact parked.of_layering (State.layering_forceLine ..)

theorem surfaceReset (tag : BitVec 8) : (s.surfaceReset tag).Layered := by
  have emptied : (s.resetChannels.resetTaper.modMeter MeterEngine.surfaceReset).Layered := h.of_layering (by simp)
  have parked := State.forStrips_induct (f := State.parkStrip) (fun i _ safe => safe.parkStrip i) allStrips emptied
  unfold State.surfaceReset
  exact parked.of_layering (by simp)

omit h in
theorem fallReset (s : State) : s.fallReset.Layered := by
  have reset := State.layersSafe_iff.mp State.reset_layersSafe
  refine reset.of_layering (congrArg (Prod.mk _) (funext fun i => ?_))
  have record : s.fallReset.strip i = { Strip.powerOn with rawTouch := (s.strip i).rawTouch } := Vector.getElem_map ..
  rw [State.reset_strip, record]
  rfl

/-! ### Every command -/

theorem runCommand (code tag : BitVec 8) (arg : BitVec 16) : (s.runCommand code tag arg).Layered := by
  unfold State.runCommand
  split
  · exact h.selectLayer ..
  · exact h.of_layering (State.layering_setMode ..)
  · exact h.of_layering (State.layering_unlatch ..)
  · exact h.isolate ..
  · exact h.of_layering (State.layering_recalibrate ..)
  · exact h.of_layering (State.layering_clearFault ..)
  · exact h.of_layering (State.layering_clearErrors ..)
  · exact h.of_layering (State.layering_loadWindows ..)
  · exact h.loadLayerMap ..
  · exact h.of_layering (State.layering_loadTaper ..)
  · exact h.of_layering (State.layering_loadMeterSetup ..)
  · exact h.of_layering (State.layering_queryStrip ..)
  · exact h.of_layering (State.layering_startSync ..)
  · exact h.surfaceReset _
  · exact h.of_layering (State.layering_writeResult ..)

theorem takeCommand (code tag : BitVec 8) (arg : BitVec 16) : (s.takeCommand code tag arg).Layered := by
  unfold State.takeCommand
  split
  · exact h.of_layering (State.layering_writeResult ..)
  · exact h.runCommand ..

theorem controlWrite (o : Nat) (w : Word) : (s.controlWrite o w).Layered := by
  unfold State.controlWrite
  repeat' split
  · exact h.takeCommand ..
  · exact h.of_layering (State.layering_modCauses ..)
  · exact h.of_layering (State.layering_modCtl ..)
  · exact h.of_layering (State.layering_reconfigureRing ..)
  · exact h.of_layering (State.layering_reconfigureRing ..)
  · exact h.of_layering (State.layering_setConsumer ..)
  · exact h.of_layering (State.layering_modCtl ..)
  · exact h.of_layering (State.layering_writeSettings ..)
  · exact h.of_layering (State.layering_stage ..)

theorem presentBeat (data : Word) (e : Enables) : (s.presentBeat data e).Layered := by
  unfold State.presentBeat
  split
  · next q _ =>
    split
    · exact h.of_layering (State.layering_holdBeat ..)
    · have passed : ((s.modPort fun p => p.passBeat q data e).dataBeat q.beatAddr data e).Layered := h.of_layering (by simp)
      unfold State.acceptBeat
      dsimp only
      split
      · split
        · exact passed.controlWrite ..
        · exact passed
      all_goals exact passed
  · exact h

theorem exec (c : Instr) (e : Machine.exec c s = .next t) : t.Layered := by
  have running : ∀ {f : State → State}, live f s = .next t → (f s).Layered → t.Layered := by
    intro f e safe
    cases e
    split
    · exact h
    · exact safe
  have apart : ∀ {f : State → State}, live f s = .next t → (f s).layering = s.layering → t.Layered := fun e same =>
    running e (h.of_layering same)
  have onlyIf : ∀ (b : Prop) [Decidable b] (v : State), v.Layered → (if b then v else s).Layered := by
    intro b _ v safe
    split
    · exact safe
    · exact h
  have onlyIfApart : ∀ (b : Prop) [Decidable b] (v : State), v.layering = s.layering → (if b then v else s).Layered :=
    fun b _ v same => onlyIf b v (h.of_layering same)
  cases c <;> simp only [Machine.exec] at e
  case powerOnReset => cases e; exact fallReset _
  case poresetRelease =>
    cases e
    split
    · exact h.of_layering (State.layering_riseReset _)
    · exact h
  case surfaceTimeTick => exact apart e rfl
  case sensorReading i raw => exact apart e (State.layering_modStrip i fun p => by simp)
  case pportRequest kind addr len par => exact apart e (State.layering_arriveRequest ..)
  case alertTimeout => exact apart e (State.layering_endAlert _)
  case passingGrant => exact apart e (State.layering_grantPassing _)
  case injectionIssue => exact apart e (State.layering_issueHead _)
  case writeBeatAccept data en => exact running e (h.presentBeat data en)
  case readBeatReturn data st => exact apart e (State.layering_readReturns ..)
  case memoryWriteResponse st => exact apart e (State.layering_writeAnswered ..)
  case positionResponse st => exact apart e (State.layering_positionAnswered ..)
  case fetchResponse data st => exact apart e (State.layering_fetchAnswered ..)
  case statusEventResponse st => exact apart e (State.layering_statusAnswered _)
  case controlAreaWrite o data => exact running e (h.controlWrite ..)
  case liveParameterWrite p data => exact apart e rfl
  case stripSettingsWrite i second data => exact apart e (State.layering_writeSettings ..)
  case ackWrite data => exact apart e (State.layering_modCauses ..)
  case quietWrite data => exact apart e rfl
  case ringBaseWrite data => exact apart e (State.layering_reconfigureRing ..)
  case ringCapacityWrite data => exact apart e (State.layering_reconfigureRing ..)
  case consumerWrite data => exact apart e (State.layering_setConsumer ..)
  case loadTaperComplete => exact apart e (State.layering_taperCheck _)
  case syncComplete => exact apart e (State.layering_syncCheck _)
  case conversionStart => exact apart e (State.layering_startHead _)
  case levelToTravelComplete => exact running e (onlyIfApart _ _ (State.layering_finishConversion _))
  case travelToLevelComplete => exact running e (onlyIfApart _ _ (State.layering_finishConversion _))
  case thresholdComplete => exact running e (onlyIfApart _ _ (State.layering_finishConversion _))
  case slotWaiterServe => exact apart e (by simp)
  case servoSample i => exact running e (onlyIf _ _ (h.sample i))
  case settled i => exact running e (onlyIf _ _ (h.sample i))
  case settleTimeout i => exact running e (onlyIf _ _ (h.sample i))
  case calStopFound i => exact running e (onlyIf _ _ (h.sample i))
  case calPhaseTimeout i => exact running e (onlyIf _ _ (h.sample i))
  case touchInputChange i b => cases e; exact h.of_layering (State.layering_touchInput ..)
  case debounceExpiry i => exact running e (by split; exacts [h.debounced .., h])
  case readbackExpiry i => exact apart e (State.layering_readbackExpires ..)
  case grant => exact apart e (State.layering_grantOldest _)
  case railWakeEnd g => exact running e (by split; exacts [h.of_layering (State.layering_endWake ..), h, h])
  case railIdleOff g => exact apart e (State.layering_idleOff ..)
  case sliceTimerExpiry =>
    exact apart e ((State.layering_forStrips (fun i u => State.layering_modStrip i fun p => by simp [Strip.turnSlices]) ..).trans rfl)
  case frameExpiry => exact apart e (State.layering_frame _)
  case peakHoldEnd k => exact running e (onlyIfApart _ _ (State.layering_frame _))
  case overLatchEnd k => exact running e (onlyIfApart _ _ (State.layering_frame _))
  case staleEntry k => exact running e (onlyIfApart _ _ (State.layering_frame _))
  case droppedRequestBeat => exact apart e rfl
  case meterShiftEnd => exact apart e (State.layering_finishShift _)
  all_goals exact running e (h.takeCommand ..)

/-- A step keeps the law. -/
theorem step (e : Machine.step s = .next t) : t.Layered := by
  unfold Machine.step at e
  split at e
  · cases e
    exact h.of_layering rfl
  · next rest _ => exact exec (s := { s with pending := rest }) (h.of_layering rfl) _ e

end State.Layered

/-- Settles O57: adoptions check what other strips show, SELECT_LAYER lays distinct entries beside what the keeping strips show, and no other work
touches the layer state. -/
theorem shownChannelsStayDistinct : Obligations.ShownChannelsStayDistinct := by
  intro s t safe taken
  rw [State.layersSafe_iff] at safe ⊢
  exact safe.step taken

end Sys2Proof.Machine
end

section
namespace Sys2Proof.Machine

open Sys2Proof

/-! ## ISOLATE (R129, R130, R132, R133) -/

section isolate

variable {s t u : State} {i k : StripId} {x : Option ChanId} {tag : BitVec 8} {arg : BitVec 16}

theorem argStrip_eq_some (names : (arg.extractLsb' 0 8).toNat = i.val) : argStrip arg = some i := by
  have below : argField arg 0 8 < 32 := by
    have range := i.isLt
    rw [argField, names]
    omega
  rw [argStrip, dif_pos below]
  exact congrArg some (Fin.ext names)

theorem exec_isolateOn (run : s.inReset = false) (idle : s.ctl.busy = none) (on : arg.getLsbD 8 = true) :
    exec (.isolateOn tag arg) s = .next (s.isolateOn tag arg) := by
  have taken : s.takeCommand 0x04#8 tag (arg ||| 0x0100#16) = s.isolateOn tag arg := by
    rw [setBit8_eq_self on]
    simp only [State.takeCommand, idle]
    exact if_pos on
  exact (live_running (f := fun s => s.takeCommand 0x04#8 tag (arg ||| 0x0100#16)) run).trans (congrArg _ taken)

theorem exec_isolateOff (run : s.inReset = false) (idle : s.ctl.busy = none) (off : arg.getLsbD 8 = false) :
    exec (.isolateOff tag arg) s = .next (s.isolateOff tag arg) := by
  have taken : s.takeCommand 0x04#8 tag (arg &&& 0xFEFF#16) = s.isolateOff tag arg := by
    rw [clearBit8_eq_self off]
    simp only [State.takeCommand, idle]
    exact if_neg (by rw [off]; decide)
  exact (live_running (f := fun s => s.takeCommand 0x04#8 tag (arg &&& 0xFEFF#16)) run).trans (congrArg _ taken)

/-! ### A strip that adopts and gives its channel up (R129, R130) -/

theorem State.GivesUp.congr {y : ChanId} (h : s.GivesUp u i y) (strips : ∀ j, t.strip j = u.strip j) : s.GivesUp t i y where
  shown := h.shown
  gone := by rw [strips]; exact h.gone
  unblocked := by rw [strips]; exact h.unblocked
  given j := by rw [strips]; exact h.given j

/-- The state in which a strip adopts and, without a report, gives up the channel it showed (R129, R130). -/
def State.exchange (s : State) (i : StripId) (x : Option ChanId) : State := (s.adopt i x).giveUp i (s.strip i).shown

/-- An adoption gives up nothing, or releases another strip (R130). -/
theorem State.exchange_cases (h : s.Deferred i) (x : Option ChanId) :
    s.exchange i x = s.adopt i x ∧ s.gaveUp (s.adopt i x) i = none ∨
    ∃ y, s.GivesUp (s.adopt i x) i y ∧ s.gaveUp (s.adopt i x) i = some y ∧ (s.adopt i x).ConflictRelease y (s.exchange i x) := by
  obtain ⟨same, shows⟩ | ⟨y, old, gone, release⟩ := (s.adopt i x).giveUp_cases i (s.strip i).shown
  · refine .inl ⟨same, ?_⟩
    unfold State.gaveUp
    split
    · rfl
    · next changed =>
      cases was : (s.strip i).shown with
      | none => rfl
      | some y => exact absurd ((shows y was).trans was.symm) changed
  · have gave : s.gaveUp (s.adopt i x) i = some y := by rw [State.gaveUp, old, if_neg gone]
    have told : ∀ j, ((s.adopt i x).layerApplied i).strip j = (s.adopt i x).strip j := fun j => by simp
    obtain ⟨-, -, -, ⟨-, none⟩ | ⟨z, gives, -, -⟩⟩ := State.adoptPending_cases h x
    · rw [State.gaveUp_congr (told i), gave] at none
      cases none
    · cases gives.shown.symm.trans old
      exact .inr ⟨y, gives.congr fun j => (told j).symm, gave, release⟩

theorem State.exchange_adopts (h : s.Deferred i) (x : Option ChanId) : s.AdoptsPending i x (s.exchange i x) := by
  obtain ⟨f, adopts, works⟩ := s.adopt_adopts i x
  have own := works.own
  have others : ∀ j, j ≠ i → (s.adopt i x).strip j = s.strip j := fun j other => by
    rw [works.others j other, State.strip_modStrip_ne _ other]
  have stands : s.Stands (s.adopt i x) := ⟨works.params, works.chans, works.clock, works.entries⟩
  rw [State.strip_modStrip_self] at own
  obtain ⟨same, none⟩ | ⟨y, gives, gave, release⟩ := State.exchange_cases h x
  · rw [same]
    refine ⟨stands, ⟨f, adopts, own⟩, ?_⟩
    rw [none]
    exact State.releases_none others
  · obtain ⟨last, spared⟩ := release.others gives.given
    have kept := spared i fun first => gives.unblocked first.1
    refine ⟨stands.trans last, ⟨f, adopts, by rw [kept]; exact own⟩, ?_⟩
    rw [State.gaveUp_congr kept, gave]
    exact gives.releases others (stands.param _) release

/-- A strip that adopts the channel it shows gives up nothing (R129, R133). -/
theorem State.exchange_same (h : s.Deferred i) : s.exchange i (s.strip i).shown = s.adopt i (s.strip i).shown := by
  obtain ⟨same, -⟩ | ⟨y, gives, -, -⟩ := State.exchange_cases h (s.strip i).shown
  · exact same
  · obtain ⟨f, adopts, works⟩ := s.adopt_adopts i (s.strip i).shown
    have shown := works.shows fun v => v.1.shown
    rw [State.strip_modStrip_self] at shown
    have was := gives.shown
    generalize (s.strip i).shown = x at adopts was shown gives
    cases adopts with
    | taken => exact absurd (shown.trans was) gives.gone
    | blank other shows =>
      cases was
      exact absurd (h.distinct _ _ _ shows gives.shown) other

/-- The strip that the release lets adopt reports first (R130, R131). -/
theorem State.exchange_announces (h : s.Deferred i) (seen : ∀ c, x = some c → (s.chan c).image ≠ none) {y : ChanId}
    (owed : s.owedRelease i (s.gaveUp (s.exchange i x) i) k) (free : ¬ s.defers k) (shown : (s.strip i).shown = some y)
    (image : (s.chan y).image ≠ none) (room : s.ringHasRoom) : s.announces (s.exchange i x) k 0 := by
  obtain ⟨f, adopts, works⟩ := s.adopt_adopts i x
  have others : ∀ j, j ≠ i → (s.adopt i x).strip j = s.strip j := fun j other => by
    rw [works.others j other, State.strip_modStrip_ne _ other]
  obtain ⟨port, ctl⟩ := State.adopt_quiet seen i
  have sent : s.Sent (s.adopt i x) 0 := (State.Sent.zero s).keep ctl (by rw [port])
  obtain ⟨same, none⟩ | ⟨z, gives, gave, release⟩ := State.exchange_cases h x
  · rw [same, none] at owed
    exact absurd rfl owed.2.1
  · cases gives.shown.symm.trans shown
    obtain ⟨-, spared⟩ := release.others gives.given
    have kept := spared i fun first => gives.unblocked first.1
    rw [State.gaveUp_congr kept, gave, gives.owedRelease_iff others] at owed
    have other : k ≠ i := by
      rintro rfl
      exact gives.unblocked owed.1
    rw [← State.defers_congr (others k other) (works.param _)] at free
    generalize s.exchange i x = t at release
    generalize s.adopt i x = v at *
    cases release with
    | nobody none => exact absurd owed.1 (none k)
    | defers lowest defers =>
      cases owed.unique lowest
      exact absurd defers free
    | adopts lowest =>
      cases owed.unique lowest
      obtain ⟨port', ctl'⟩ := State.adopt_quiet (s := v.modStrip k fun p => { p with conflict := .none }) (x := some y)
        (by
          rintro _ ⟨⟩
          rw [show ((v.modStrip k fun p => { p with conflict := .none }).chan y) = s.chan y from works.chan y]
          exact image) k
      exact (State.layerApplied_announces (sent.keep ctl' (by rw [port']; rfl)) k).2 (s.ringHasRoomFor_one.mpr room)

/-- An adoption leaves its strip isolated or not. -/
theorem State.AdoptsPending.isolated (h : s.AdoptsPending i x t) : (t.strip i).isolated = (s.strip i).isolated := by
  obtain ⟨f, adopts, view⟩ := h.own
  have same : (f (s.strip i)).isolated = (s.strip i).isolated := by cases adopts <;> rfl
  exact (congrArg (fun v => v.1.isolated) view).trans same

/-! ### The strip that re-joins (R133) -/

/-- The state with a strip no longer isolated, before it takes its entry or defers on it (R133). -/
def State.joined (s : State) (i : StripId) : State := s.modStrip i fun p => { p with isolated := false }

theorem State.joined_strip (s : State) (i : StripId) : (s.joined i).strip i = { s.strip i with isolated := false } :=
  State.strip_modStrip_self ..

theorem State.joined_works (s : State) (i : StripId) : s.WorksAt Strip.layerState i (s.joined i) := .modStrip rfl

/-- An isolated strip that re-joins is not conflict-blank (R124). -/
theorem State.layersSafe.joined (h : s.layersSafe) (isolated : (s.strip i).isolated = true) : (s.joined i).Deferred i := by
  have safe := State.layersSafe_iff.mp h
  obtain ⟨waiting, unblocked⟩ := (safe.strips i).alone isolated
  refine ⟨(safe.modStrip i (f := fun p => { p with isolated := false }) (.of_unblocked unblocked fun _ => waiting) rfl).distinct, ?_⟩
  rw [State.joined_strip]
  exact unblocked

/-- A strip that re-joins and does not defer adopts its entry (R129, R133). -/
theorem State.rejoin_adopts (h : s.layersSafe) (isolated : (s.strip i).isolated = true)
    (goes : s.layerEntry s.layers.active i = (s.strip i).shown ∨ ¬ s.defers i) :
    s.rejoin i = (s.joined i).exchange i (s.layerEntry s.layers.active i) := by
  have shown : ((s.joined i).strip i).shown = (s.strip i).shown := by rw [State.joined_strip]
  unfold State.rejoin
  dsimp only
  split
  · next same =>
    rw [same, ← shown, State.exchange_same (h.joined isolated)]
    rfl
  · next other =>
    rw [if_neg (mt State.meetsDeferral_iff.mp (goes.resolve_left other)), State.exchange, shown]
    rfl

/-- A strip that re-joins on another's entry and defers keeps its channel, with the entry pending (R125, R133). -/
theorem State.rejoin_defers (other : s.layerEntry s.layers.active i ≠ (s.strip i).shown) (defers : s.defers i) :
    s.rejoin i = s.modStrip i fun p => { p with isolated := false, waiting := some (s.layerEntry s.layers.active i) } := by
  simp only [State.rejoin, if_neg other, if_pos (State.meetsDeferral_iff.mpr defers), State.modStrip_modStrip]
  rfl

theorem State.rejoin_worksOn (s : State) (i : StripId) : s.WorksOn allStrips (s.rejoin i) := by
  have joined : s.WorksOn allStrips (s.joined i) := .change ..
  unfold State.rejoin
  dsimp only
  split
  · exact joined.trans (.adopt ..)
  · split
    · exact joined.trans (.change ..)
    · exact (joined.trans (.adopt ..)).trans (.giveUp ..)

theorem State.Stands.writeResult (s : State) (tag : BitVec 8) (code : ResultCode) (v : BitVec 16) :
    s.Stands (s.writeResult tag code v) :=
  ⟨by simp, by simp, by simp, fun e mem => by rw [State.writeResult_others]; exact mem⟩

/-- What a re-joining strip announces, told of the states before and after it (R130). -/
theorem State.rejoin_announced (deferred : (s.joined i).Deferred i)
    (seen : ∀ c, x = some c → (s.chan c).image ≠ none) {y : ChanId}
    (after : ((s.joined i).exchange i x).WorksAt Strip.standing i t)
    (owed : s.owedRelease i (s.gaveUp t i) k) (free : ¬ s.defers k) (shown : (s.strip i).shown = some y)
    (image : (s.chan y).image ≠ none) (room : s.ringHasRoom) : s.announces t k 0 := by
  have before := s.joined_works i
  have other := owed.1
  rw [← State.gaveUp_between before (after.shows Strip.shown)] at owed
  have told : (s.joined i).announces ((s.joined i).exchange i x) k 0 := State.exchange_announces deferred seen
    ((State.owedRelease_congr before.others).mpr owed) (by rwa [State.defers_congr (before.others k other) (before.param _)])
    (by rwa [State.joined_strip]) image room
  exact told.stands after.toStands (by rw [after.others k other])

theorem State.not_defers_iff : ¬ s.defers i ↔
    (s.strip i).touched = false ∧ (s.param .openProtect = 0 ∨ (s.strip i).line = false) := by
  simp [State.defers, imp_iff_not_or]

end isolate

/-- Settles O32: ISOLATE changes one record on; off, the strip exchanges its channel for its entry unless it defers on it. -/
theorem isolateHoldsAndRejoins : Obligations.IsolateHoldsAndRejoins := by
  intro i tag arg s run idle safe names p e value
  have told : ∀ x, chanValue x = value x := fun x => by cases x <;> rfl
  have strip := argStrip_eq_some names
  refine ⟨fun on => ?_, fun off => ?_⟩
  · rw [exec_isolateOn run idle on, State.isolateOn, strip]
    refine ⟨fun isolated => ?_, fun free => ⟨s.modStrip i fun p => { p with isolated := true, waiting := none, conflict := none },
      State.strip_modStrip_self .., fun j other => State.strip_modStrip_ne _ other _, rfl, ?_⟩⟩
    · dsimp only
      rw [if_pos isolated, told]
    · dsimp only
      rw [if_neg (by rw [free]; decide), State.strip_modStrip_self, told]
  · rw [exec_isolateOff run idle off, State.isolateOff, strip]
    refine ⟨fun free => ?_, fun isolated => ?_⟩
    · dsimp only
      rw [if_neg (by rw [free]; decide), told]
    · dsimp only
      rw [if_pos isolated]
      have works := s.rejoin_worksOn i
      have frame := works.answer_frame tag .done (chanValue ((s.rejoin i).strip i).shown)
      have result := works.answer_result idle tag (chanValue ((s.rejoin i).strip i).shown)
      have answered : (s.rejoin i).WorksAt Strip.standing i
          ((s.rejoin i).writeResult tag .done (chanValue ((s.rejoin i).strip i).shown)) := .of_stands (.writeResult ..)
      have strips := State.writeResult_strip (s.rejoin i) tag .done (chanValue ((s.rejoin i).strip i).shown)
      refine ⟨_, rfl, ?_⟩
      generalize (s.rejoin i).writeResult tag .done (chanValue ((s.rejoin i).strip i).shown) = t at *
      rw [told, ← strips] at result
      by_cases goes : e = p.shown ∨ ¬ s.defers i
      · have deferred := safe.joined isolated
        have adopts := State.exchange_adopts deferred e
        rw [State.rejoin_adopts safe isolated goes] at answered strips
        obtain ⟨waiting, opCode, last, blank, taken, releases⟩ := adopts.outcome (s.joined_works i) answered
        refine ⟨?_, result, fun other defers => absurd defers (goes.resolve_left other),
          fun _ => ⟨opCode, last, waiting, blank, taken⟩, releases, fun k x owed free shown room seen image =>
            State.rejoin_announced deferred seen answered owed free shown image room, frame⟩
        rw [strips, adopts.isolated, State.joined_strip]
      · obtain ⟨other, defers⟩ := not_or.mp goes
        rw [not_not] at defers
        simp only [State.rejoin_defers other defers] at strips
        have record : t.strip i = { p with isolated := false, waiting := some e } := by rw [strips, State.strip_modStrip_self]
        have others : ∀ j, j ≠ i → t.strip j = s.strip j := fun j apart => by rw [strips, State.strip_modStrip_ne _ apart]
        have gave : s.gaveUp t i = none := by rw [State.gaveUp, record, if_pos rfl]
        rw [gave]
        refine ⟨by rw [record], result, fun _ _ => record, fun free => absurd (free.imp_right State.not_defers_iff.mpr) goes,
          State.releases_none others, fun k x ⟨_, absent, _⟩ => absurd rfl absent, frame⟩

end Sys2Proof.Machine
end
